-- ==== Sys2Proof/Word.lean ====
section
/-! DEFINITION. The word types of the block. What the spec adds, shifts or masks as bits is a bit vector; counts,
settings, indices and identifiers are natural numbers whose widths the operations keep (00_scope.md R12, R13). -/

namespace Sys2Proof

/-- One byte. -/
abbrev Byte := BitVec 8

/-- A string of bytes, lowest address first; every multi-byte value in it is little-endian (R12). -/
abbrev Bytes := List Byte

/-- A general register of a sequencer (R69). -/
abbrev Word64 := BitVec 64

/-- A control-page word or an arrival counter (R82, R97). -/
abbrev Word32 := BitVec 32

/-- A list of key and value pairs, keys rising, no entry equal to the default its reader names. -/
abbrev Sparse (α : Type) := List (Nat × α)

end Sys2Proof
end

