-- ==== Sys2Proof/Data.lean ====
section
/-! DEFINITION. The records that commands carry and State holds: packets, digests, engine commands, Roster entries,
dictionary operations. One structure per layout of the spec. -/

namespace Sys2Proof

/-- The four blocks of a core that can wait (R90, CORE_STATUS.WAIT_ENGINE). -/
inductive Engine where
  | seq | load | math | store
  deriving DecidableEq, Repr

/-- A slot's tag (R78). `FILLING` is a flag beside it. -/
inductive Tag where
  | empty | full | poison
  deriving DecidableEq, Repr

/-- An engine command: four 64-bit words (R85, R86). -/
structure EngineCmd where
  w0 : Word64
  w1 : Word64
  w2 : Word64
  w3 : Word64
  deriving DecidableEq, Repr

/-- 64 bytes moved at once, with the owner of its poison mark when it carries one (R80, R155). -/
structure Beat where
  bytes : Bytes
  poison : Option Nat := none
  deriving DecidableEq, Repr

/-- A remote write as it arrives at a core's landing port (R79, R82, R93). -/
structure LandingPkt where
  core : Nat
  /-- First slate byte written; a multiple of 64. -/
  offset : Nat
  beats : List Beat
  tagged : Bool
  count : Bool
  counter : Nat
  inst : Nat
  epoch : Nat
  /-- Owner of the source data (R80). -/
  owner : Nat
  /-- The last beats of the command: an increment it names is made now (R82). -/
  last : Bool := true
  /-- The core and store command that sent it, 19,200 for a sender off the cores. -/
  sender : Nat := 19200
  cmdNo : Nat := 0
  deriving DecidableEq, Repr

/-- A Tolgil packet: the header of R271, its data and its poison extension (R275). -/
structure Packet where
  opcode : Nat
  vc : Nat := 0
  /-- Beats of data, or beats requested by a LOAD: LEN + 1. -/
  beats : Nat := 1
  priv : Bool := false
  src : Nat := 0
  tag : Nat := 0
  inst : Nat := 0
  epoch : Nat := 0
  counter : Nat := 0
  tagged : Bool := false
  count : Bool := false
  ack : Bool := false
  hop : Nat := 0
  node : Nat := 0
  offset : Nat := 0
  /-- Status of a response (R276). -/
  status : Nat := 0
  data : Bytes := []
  /-- Per-beat poison mask and owner (R275). -/
  poisonMask : Nat := 0
  poisonOwner : Nat := 0x3FFF
  deriving DecidableEq, Repr

/-- A LINK entry of a header slot (R290). -/
inductive LinkEntry where
  | hallPass (vc pool passes : Nat)
  | heartbeat (index serial incarnation liveness : Nat)
  | audit (vc pool held inFlight occupied returns : Nat)
  | width (lanes : Nat)
  deriving DecidableEq, Repr

/-- What the slots of one flit carry (R289, R290): the trailer and the packets and link entries in order. -/
structure Flit where
  seq : Nat := 0
  ack : Nat := 0
  ackValid : Bool := false
  nak : Bool := false
  idle : Bool := false
  packets : List Packet := []
  links : List LinkEntry := []
  deriving DecidableEq, Repr

/-- Where the answer of a host command goes (R517, R520). -/
structure CmdRef where
  /-- Submission ring index. -/
  sq : Nat := 12288
  cmdId : Nat := 0
  opcode : Nat := 0
  /-- Carried inside the secured session (R526); the answer goes to the session of `fn`. -/
  secured : Bool := false
  /-- Function (0 X0, 1 X1) the command arrived on. -/
  fn : Nat := 0
  deriving DecidableEq, Repr

/-- Operands of ADMIT (R215) with its 64-byte sampling block (R244). -/
structure AdmitArgs where
  seqId : Nat
  ring : Nat
  tenant : Nat
  lesson : Nat
  cls : Nat
  priority : Nat
  promptAddr : Nat
  promptLen : Nat
  maxNew : Nat
  maxPositions : Nat
  sampling : Bytes
  deriving DecidableEq, Repr

/-- A Roster entry (R210); the default is a `FREE` entry, all zero bytes. -/
structure RosterEntry where
  seqId : Nat := 0
  /-- 0 FREE, 1 WAITING, 2 PREFILLING, 3 DECODING, 4 PARKED, 5 RESUMING, 6 ENDING. -/
  state : Nat := 0
  parkMask : Nat := 0
  priority : Nat := 0
  cls : Nat := 0
  home : Nat := 0
  ring : Nat := 0
  tenant : Nat := 0
  lesson : Nat := 0
  endReason : Nat := 0
  swappedOut : Bool := false
  pressed : Bool := false
  resumed : Bool := false
  promptLen : Nat := 0
  prefilled : Nat := 0
  committed : Nat := 0
  maxPositions : Nat := 0
  generated : Nat := 0
  maxNew : Nat := 0
  admitStep : Nat := 0
  lastStep : Nat := 0
  kvRoots : List Nat := List.replicate 16 0
  sampling : Bytes := List.replicate 64 0
  promptAddr : Nat := 0
  prefixNode : Nat := 0
  lastToken : Nat := 0
  owedPages : Nat := 0
  deriving DecidableEq, Repr

/-- A digest record (R219). -/
structure DigestRec where
  kind : Nat
  arg8 : Nat := 0
  entry : Nat := 0xFFFF
  arg32 : Nat := 0
  seqId : Nat := 0
  /-- The proposed entry of an ADMIT record. -/
  proposed : Option RosterEntry := none
  deriving DecidableEq, Repr

/-- A digest of the step-end exchange (R219). -/
structure Digest where
  round : Nat
  inst : Nat
  rank : Nat
  void : Bool := false
  fence : Bool := false
  dismiss : Bool := false
  step : Nat := 0
  bell : Nat := 0
  crc : Nat := 0
  fencedDie : Nat := 0
  records : List DigestRec := []
  deriving DecidableEq, Repr

/-- A BUDGET_SET (R260). -/
structure BudgetChange where
  tenant : Nat
  refill : Nat
  capacity : Nat
  promptWeight : Nat
  genWeight : Nat
  flags : Nat
  balance : Option Int := none
  effectiveStep : Nat
  deriving DecidableEq, Repr

/-- A candidate of the slice pass: token, and the FP32 code of z (R246). -/
structure Candidate where
  token : Nat
  z : Nat
  deriving DecidableEq, Repr

/-- One rank's slice result for a row: FP32 codes of m and s, and its candidates in order (R246, R247). -/
structure SliceResult where
  rank : Nat
  m : Nat
  s : Nat
  cands : List Candidate
  deriving DecidableEq, Repr

/-- One operation of a dictionary request (R469). -/
structure DictOp where
  op : Nat
  index : Nat
  sub : Nat
  offset : Nat := 0
  len : Nat := 0
  last : Bool := false
  value : Bytes := []
  deriving DecidableEq, Repr

/-- The path a dictionary request takes (R461, R477): the bus, a function's mirror, or that mirror inside its session. -/
inductive Path where
  | bus (authenticated : Bool)
  | mirror (fn : Nat)
  | secured (fn : Nat)
  deriving DecidableEq, Repr

/-- The answer of one dictionary operation (R469). -/
structure DictAnswer where
  op : Nat
  index : Nat
  sub : Nat
  result : Nat
  generation : Nat
  value : Bytes := []
  deriving DecidableEq, Repr

/-- A piece of a weight package, one table entry (R305). -/
structure PieceEntry where
  cls : Nat
  elemFmt : Nat
  scaleFmt : Nat
  block : Nat
  redAxis : Nat
  axis : Nat
  partCount : Nat
  partIndex : Nat
  offset : Nat
  plainLen : Nat
  start : Nat
  extent : Nat
  sidePiece : Nat
  deriving DecidableEq, Repr

/-- The descriptor that leads a segment (R318). -/
structure SegmentDesc where
  packageId : Nat
  ingestId : Nat
  pieceId : Nat
  segment : Nat
  bytes : Nat
  g : Nat
  deriving DecidableEq, Repr

/-- A member's ingest status (R323). -/
structure MemberStat where
  modIdx : Nat
  /-- 0 complete, 1 incomplete, 2 unreachable. -/
  status : Nat
  checked : Nat
  failed : Nat
  lowestFailed : Nat
  deriving DecidableEq, Repr

/-- A collective descriptor (R286). -/
structure Collective where
  op : Nat
  inFmt : Nat
  outFmt : Nat
  group : Nat
  inst : Nat
  epoch : Nat
  counter : Nat
  elements : Nat
  src : Nat
  dst : Nat
  done : Nat
  chunk : Nat
  deriving DecidableEq, Repr

/-- What one 10 µs loop measures (R342, R346, R352, R355); millivolts, milliamperes, milliwatts, 1/16 °C. -/
structure PowerSample where
  milliVolt : Nat
  milliWatt1ms : Nat
  milliWatt : Nat
  milliAmp : Nat
  /-- 25 dies then 12 stacks. -/
  temps : List Int
  inlet : Nat
  outlet : Nat
  flow : Nat
  /-- The predicted draw at the next frequency step (R342). -/
  predictedMilliWatt : Nat
  /-- Recess bubble cycles each die counted in the loop (R347). -/
  recess : List Nat := []
  /-- Ballast energy spent in the loop, mJ (R362). -/
  ballastMilliJoule : Nat := 0
  deriving DecidableEq, Repr

/-- A Bell frame as received (R366, R367), with the counter value its epoch stands for after the Bell delay. -/
structure BellFrame where
  syncOk : Bool
  manchesterOk : Bool
  typ : Nat
  count : Nat
  traceable : Bool
  sourceHoldover : Bool
  sourceId : Nat
  crcOk : Bool
  /-- Frame times since the previous frame. -/
  frameTimes : Nat := 1
  /-- Counter error measured against the Bell, ps (R386). -/
  offsetPs : Int := 0
  deriving DecidableEq, Repr

/-- A Roster dispatch record (R228). -/
structure DispatchRec where
  inst : Nat
  epoch : Nat
  kernelId : Nat
  layer : Nat
  entry : Nat
  mask : Nat
  g : List Word64
  /-- The kernel is a micro-kernel (R81). -/
  micro : Bool := false
  deriving DecidableEq, Repr

/-- An exact number as the edge of the math engine delivers it (R116): `(−1)^neg × n × 2^q`, an infinity or NaN. -/
inductive Num where
  | fin (neg : Bool) (n : Nat) (q : Int)
  | inf (neg : Bool)
  | nan
  deriving DecidableEq, Repr

/-- The products of one block of a reduction (R128 to R131). -/
structure ProdBlock where
  /-- Side-table entry 0x00: a zero block (R114). -/
  zero : Bool := false
  /-- The combined scale is NaN (R108). -/
  scaleNan : Bool := false
  /-- Signed significand and exponent of the combined scale. -/
  m : Int := 1
  h : Int := 0
  /-- Lowest exponent of a product of the pair of formats, λ. -/
  lam : Int := 0
  prods : List Num
  deriving DecidableEq, Repr

/-- One sampled element (R144): its reduction by segments, the staged sum the core formed and the code it wrote. -/
structure SentinelElem where
  segments : List (List ProdBlock)
  staged : Num
  code : Nat
  /-- The element's own draw under stochastic rounding (R125). -/
  draw : Option Nat := none
  deriving DecidableEq, Repr

/-- One sampled output block (R142, R144). -/
structure SentinelBlock where
  layer : Nat
  kernelId : Nat := 0
  /-- Index of the output block within its row, and the row (R143). -/
  block : Nat := 0
  row : Nat := 0
  /-- SENTINEL_K of the kernel. -/
  k : Nat := 1
  /-- Run length G. -/
  run : Nat
  /-- Promotion to the long register. -/
  promote : Bool
  outFmt : Nat
  outScale : Nat := 0
  /-- FP32 code of the factor T (R110). -/
  t : Nat := 0x3F800000
  elems : List SentinelElem
  deriving DecidableEq, Repr

/-- The source of a module reset (R428, R433). -/
inductive ResetSource where
  | perst | command | recovery
  deriving DecidableEq, Repr

/-- Where a write of a register with no row of its own goes (R97, R506, R507). -/
inductive RegTarget where
  /-- Control-page word of a core; written by K0 or by the owning sequencer's side. -/
  | core (core offset : Nat) (byK0 : Bool)
  /-- BAR0 of a function; `wide` is an 8-byte access. -/
  | bar0 (fn offset : Nat) (wide : Bool)
  deriving DecidableEq, Repr

/-- A unit that a fault record names (R436). -/
structure FaultLoc where
  die : Nat := 24
  unit : Nat := 0
  locA : Nat := 0
  locB : Nat := 0
  deriving DecidableEq, Repr

/-- A memory error met while beats move: the module-range offset of the beat, and whether it could be corrected (R182, R444). -/
structure MemErr where
  offset : Nat
  corrected : Bool
  deriving DecidableEq, Repr

/-- An error met in a slate: 0 corrected single bit, 1 uncorrectable data, 2 uncorrectable tag word (R76). -/
structure SlateErr where
  slot : Nat
  kind : Nat
  deriving DecidableEq, Repr

/-- One block of a matrix command's plan (log entry 12): where its elements and scales lie in the two streams. -/
structure BlockPlan where
  /-- Byte offset of the run of stream A that holds the block, and the element index within that run; the same of B. -/
  aByte : Nat
  aElem : Nat
  bByte : Nat
  bElem : Nat
  /-- Elements of the block. -/
  count : Nat
  /-- Byte offsets of the scale codes, where the stream has scales. -/
  aScale : Option Nat := none
  bScale : Option Nat := none
  /-- Side-table entry of a mixed-width block (R113). -/
  side : Option Nat := none
  deriving DecidableEq, Repr

/-- The element of a result that a stochastic draw is for (R125). -/
structure DrawKey where
  col : Nat
  slot : Nat := 0
  /-- Position and appliance-global sequence ID; `none` for a row of no sequence, keyed by its row index. -/
  token : Option (Nat × Nat)
  row : Nat := 0
  deriving DecidableEq, Repr

/-- One output element of a matrix command: its place in the accumulator file, the blocks that are added, its place in
stream D (R86, R127; log entry 12). -/
structure OutPlan where
  row : Nat
  col : Nat
  blocks : List BlockPlan
  /-- Byte offset of the output run, element index within it, byte offset of the output block's scale. -/
  dByte : Nat := 0
  dElem : Nat := 0
  dScale : Option Nat := none
  key : DrawKey := { col := 0, token := none }
  deriving DecidableEq, Repr

/-- The operation of a vector command, on rows of FP32 values (02_syllabus.md R43; log entry 12). -/
inductive VecOp where
  | add | mul | scale (c : Nat) | silu | gelu | sigmoid | swiglu | copy
  /-- RMS norm and layer norm with ε. -/
  | rmsNorm (eps : Nat) | layerNorm (eps : Nat) (beta : List Nat)
  /-- Rotary embedding: split halves, rotary width, chunk width, first rotated element, position. -/
  | rotary (split : Bool) (width chunk off pos : Nat)
  /-- Routing: sigmoid instead of softmax, k, normalize, gate scale; writes the gates, or the indices as 32-bit integers. -/
  | route (sigmoid : Bool) (k : Nat) (normalize : Bool) (scale : Nat) (indices : Bool)
  /-- Canonical dot product of a row of A with one of B, times the score factor (07 R197). -/
  | dot (ts : Nat)
  /-- Exponentials of a row less its maximum, through P_FMT: `p`, then the maximum and the sum (07 R197). -/
  | weights (fmt : Nat)
  /-- Chain of fused multiply-adds over positions: weights in B, one row of A per position (07 R197, 02 R43). -/
  | weighted
  /-- Merge the statistics (m, l, o …) of row B into those of row A (07 R198). -/
  | merge
  /-- Divide every element by the FP32 code given (07 R198). -/
  | divide (c : Nat)
  /-- Attention mass of a page: pairs (l, m) of its blocks in A, the row's final m and l; credited to a map entry (07 R200). -/
  | mass (m l inst entry group e : Nat)
  /-- Lesson apply for the row of an entry: basis in B, variant, layer, site (09 R257). -/
  | lesson (scaleForm : Bool) (inst entry layer site : Nat)
  /-- The slice pass over a row's logits from token `first` on (09 R246). -/
  | slice (inst entry first : Nat)
  /-- A row moved by the 32-bit index in B, of a table of that many rows (02 R43): gather takes it from A's table, scatter puts it
  into D's, scatter-add adds it to D's. -/
  | gather (rows : Nat) | scatter (rows : Nat) | scatterAdd (rows : Nat)
  /-- Maximum of the row, in element 0. -/
  | max
  /-- Canonical sum of the row, in element 0 (R42). -/
  | sum
  deriving DecidableEq, Repr

/-- One row of a vector command: the first element of A, of B, their numbers, the first element of D. -/
structure RowPlan where
  a : Nat
  na : Nat
  b : Nat := 0
  nb : Nat := 0
  d : Nat
  /-- Byte offsets of the first scale codes of the row in A, B and D. -/
  aScale : Nat := 0
  bScale : Nat := 0
  dScale : Nat := 0
  deriving DecidableEq, Repr

/-- What the binder's slate plan says of a math command beside its words: the arrangement of streams A, B, D (log entry 12). -/
structure MathPlan where
  outs : List OutPlan := []
  op : VecOp := .copy
  rows : List RowPlan := []
  /-- Tensor scales of A, B and the output, FP32 codes (04 R110). -/
  ta : Nat := 0x3F800000
  tb : Nat := 0x3F800000
  ty : Nat := 0x3F800000
  deriving DecidableEq, Repr

/-- What an engine command meets on its way: issue slots lost as (bank, port, slots) (R75), slate errors (R76), memory errors. -/
structure UnitEvents where
  lost : List (Nat × Nat × Nat) := []
  slate : List SlateErr := []
  memory : List MemErr := []
  plan : MathPlan := {}
  deriving DecidableEq, Repr

/-- A part of firmware as its part table entry describes it (14_firmware.md R403). -/
structure PartRow where
  part : Nat
  version : Nat
  emitMin : Nat := 1
  emitMax : Nat := 1
  acceptMin : Nat := 1
  acceptMax : Nat := 1
  protoMin : Nat := 0
  protoMax : Nat := 0
  length : Nat := 0
  deriving DecidableEq, Repr

/-- A fault record (R435); CRC and TERM are computed when its bytes are written. -/
structure FaultRecord where
  bell : Nat := 0
  seq : Nat := 0
  cause : Nat := 0
  cls : Nat := 0
  flags : Nat := 0
  modIdx : Nat := 0xFF
  loc : FaultLoc := {}
  inst : Nat := 0xFF
  owner : Nat := 0x3FFF
  merged : Nat := 1
  term : Nat := 0
  step : Nat := 0
  address : Nat := 0
  seqId : Nat := 0
  detail : Nat := 0
  deriving DecidableEq, Repr

end Sys2Proof
end

