-- ==== Sys2Proof/Syntax.lean ====
section
/-! DEFINITION. The commands of the block: one constructor per row of the table of operations and events. Operands are
what the command's sender says; what the event itself implies (a timer's expiry, a completed check) needs none. -/

namespace Sys2Proof

/-- A command. Each docstring is the row's own summary and its rule. Host buffers that a command reads come with it, `none`
for a failed or late read; `ev` is what an engine meets on its way; `path` and `ref` say where a
request came from and where its answer goes. -/
inductive Instr where
  /-- Host bind command names an instance, a Syllabus and a placement request and is queued for the binder or refused when the queue is full. (R52) -/
  | bind (inst : Nat) (syllabus placement : Option Bytes) (reportAddr : Nat) (ref : CmdRef)
  /-- The binder takes the binding at the head of its queue and checks the Syllabus and placement request in ordered steps. (R66) -/
  | bindingRun
  /-- The binding completes once its claim is met, becomes BOUND, posts its report and starts the reservation timer. (R55) -/
  | bindingDone
  /-- A claim not completed within 90 s ends the binding with a shortfall of resource 1. (R177) -/
  | bindingClaimTimeout
  /-- Host START makes a BOUND instance SERVING and creates its first step at the named Bell count, or is refused. (R57) -/
  | start (inst first period : Nat) (ref : CmdRef)
  /-- Host RELEASE returns a BINDING or BOUND instance to FREE with its reservations. (R55) -/
  | release (inst : Nat) (ref : CmdRef)
  /-- Host DISMISS sets DISMISS in the next round A or frees a non-serving instance. (R232) -/
  | dismiss (inst : Nat) (ref : CmdRef)
  /-- The reservation timer of a BOUND instance expires and the instance returns to FREE with an event. (R56) -/
  | reservationTimeout (inst : Nat)
  /-- Recomputation of fallback bindings after a switch-in finishes and the coverage bits are restored. (R64) -/
  | fallbackRecomputeDone (inst : Nat)
  /-- Sequencer instruction with no effect. (R89) -/
  | nop (core : Nat)
  /-- Sequencer loads an immediate into a general register. (R89) -/
  | li (core : Nat) (d : Fin 16) (imm : BitVec 44)
  /-- Sequencer adds two registers and an immediate. (R89) -/
  | add (core : Nat) (d a b : Fin 16) (imm : BitVec 44)
  /-- Sequencer subtracts two registers. (R89) -/
  | sub (core : Nat) (d a b : Fin 16)
  /-- Sequencer bitwise AND of two registers. (R89) -/
  | and (core : Nat) (d a b : Fin 16)
  /-- Sequencer bitwise OR of two registers. (R89) -/
  | or (core : Nat) (d a b : Fin 16)
  /-- Sequencer bitwise XOR of two registers. (R89) -/
  | xor (core : Nat) (d a b : Fin 16)
  /-- Sequencer shifts a register left. (R89) -/
  | shl (core : Nat) (d a : Fin 16) (imm : BitVec 44)
  /-- Sequencer shifts a register right logically. (R89) -/
  | shr (core : Nat) (d a : Fin 16) (imm : BitVec 44)
  /-- Sequencer keeps the low 64 bits of a product. (R89) -/
  | mul (core : Nat) (d a b : Fin 16)
  /-- Sequencer branches if a register is non-zero. (R89) -/
  | bnz (core : Nat) (a : Fin 16) (imm : BitVec 44)
  /-- Sequencer branches if a register is zero. (R89) -/
  | bz (core : Nat) (a : Fin 16) (imm : BitVec 44)
  /-- Sequencer branches on a signed less-than. (R89) -/
  | blt (core : Nat) (a b : Fin 16) (imm : BitVec 44)
  /-- Sequencer pushes four registers as a command to the load, math or store engine queue, stalling when it is full. (R85) -/
  | cmd (core : Nat) (a : Fin 16) (imm : BitVec 44)
  /-- A queue slot frees and a stalled CMD pushes its command. (R85) -/
  | cmdStallEnd (core : Nat)
  /-- Sequencer waits on an arrival counter for a threshold, optionally with TAKE. (R83) -/
  | waitc (core : Nat) (a : Fin 16) (imm : BitVec 44)
  /-- A counter reaches its threshold and the waiting sequencer resumes. (R83) -/
  | waitcSatisfied (core : Nat)
  /-- Sequencer waits until a slot is FULL or POISON. (R89) -/
  | waitt (core : Nat) (imm : BitVec 44)
  /-- Sequencer makes a range of slots EMPTY. (R78) -/
  | rel (core : Nat) (a : Fin 16) (imm : BitVec 44)
  /-- Sequencer marks a slot FULL with a given owner. (R78) -/
  | mark (core : Nat) (a b : Fin 16)
  /-- Sequencer sets an arrival counter. (R83) -/
  | setc (core : Nat) (a : Fin 16) (imm : BitVec 44)
  /-- Sequencer reads an arrival counter into a register. (R89) -/
  | rdc (core : Nat) (d : Fin 16) (imm : BitVec 44)
  /-- Sequencer waits until the named engines drain. (R88) -/
  | sync (core : Nat) (imm : BitVec 44)
  /-- The named engines drain and a pending SYNC completes. (R88) -/
  | syncComplete (core : Nat)
  /-- Sequencer reads a control-page word. (R89) -/
  | rdctl (core : Nat) (d : Fin 16) (imm : BitVec 44)
  /-- Sequencer writes an RW control-page word. (R89) -/
  | wrctl (core : Nat) (a : Fin 16) (imm : BitVec 44)
  /-- Sequencer ends the kernel on the core and notifies dispatch. (R89) -/
  | endKernel (core : Nat)
  /-- A slot tag change wakes a read or local tagged write blocked on that slot. (R78) -/
  | blockedAccessResume (core : Nat) (engine : Engine)
  /-- A load command reaches the head of the load queue and issues its slot requests. (R85) -/
  | loadCommand (core : Nat) (ev : UnitEvents)
  /-- A store command reaches the head of the store queue and sends its beats. (R85) -/
  | storeCommand (core : Nat) (ev : UnitEvents)
  /-- A math command for the matrix unit reads its streams, accumulates and writes or holds its outputs. (R86) -/
  | matrixCommand (core : Nat) (ev : UnitEvents)
  /-- A math command for the vector unit performs its FP32 operation. (R86) -/
  | vectorCommand (core : Nat) (ev : UnitEvents)
  /-- All beats of a load slot commit, its tag changes and a COUNT increment applies when the command completes. (R88) -/
  | loadSlotCommit (core : Nat) (cmdNo slot : Nat) (remote : Option (List Beat))
  /-- The destination acknowledges a store command and the ACK counter increments. (R82) -/
  | storeAck (core : Nat) (cmdNo status : Nat)
  /-- A remote write arrives at a core's landing port and is checked for fence, instance and epoch. (R93) -/
  | landingWrite (pkt : LandingPkt)
  /-- A remote read through P6 returns the slot bytes, poisoned bytes or a retry response. (R88) -/
  | remoteSlateRead (core slot beat : Nat) (requester : Nat)
  /-- After 64 to 128 cycles the load engine requests a retried beat again. (R88) -/
  | remoteReadRetry (core cmdNo slot : Nat)
  /-- A core's blocked-wait count reaches its limit, raising 0x1307 and starting a local release. (R90) -/
  | waitLimit (core : Nat)
  /-- K0 writes CORE_CTL.RELEASE and the core ends waits, discards queues, poisons filling slots and advances its epoch. (R92) -/
  | coreRelease (core : Nat)
  /-- The last in-flight load response of a released core arrives and RELEASE reads 0. (R92) -/
  | releaseDrained (core : Nat)
  /-- A switch clear empties slots 0 to 735, zeroes counters 0 to 47 and loads the new instance and epoch. (R95) -/
  | switchClear (core inst epoch : Nat)
  /-- A write of 1 to CONFLICT_CTL.CLEAR zeroes the bank conflict counters. (R97) -/
  | conflictClear (core : Nat)
  /-- A K0 write to TAG[s] passes through P6 as one event in the slot's order. (R97) -/
  | tagWrite (core slot : Nat) (value : Word32)
  /-- A write to a register with no row of its own, including W1C bits. (R97) -/
  | registerWrite (target : RegTarget) (value : Word64)
  /-- A dispatch record reaches a tile and sets the named cores' program counter and g0 to g7. (R228) -/
  | dispatchRecord (die tile : Nat) (record : DispatchRec)
  /-- K0 sends kernel k+1 to a tile once every core has accepted kernel k. (R228) -/
  | kernelDispatch (inst kernel : Nat) (die tile : Nat) (mask : Nat)
  /-- After a kernel's commands the core recomputes sampled output blocks exactly and compares them. (R144) -/
  | sentinelCheck (core inst : Nat) (blocks : List SentinelBlock)
  /-- A write of 1 to 0x4n20:03 zeroes every numeric telemetry record. (R147) -/
  | telemetryClear (inst value : Nat)
  /-- Keeper command requesting a page from a pool, granted, refused or queued by the pool master. (R175) -/
  | alloc (pool inst holder cls : Nat) (wait : Bool) (requester : Nat)
  /-- Keeper command by a holder dropping its ownership of a page, checked for double or foreign frees. (R170) -/
  | free (page inst holder : Nat)
  /-- Keeper command adding a reference to a page. (R169) -/
  | ref (page inst : Nat)
  /-- Keeper command dropping a reference to a page. (R170) -/
  | unref (page inst : Nat)
  /-- Keeper command adding a step pin to a page. (R169) -/
  | pin (page inst : Nat)
  /-- Keeper command marking a page to be sealed at the next committing step end. (R169) -/
  | seal (page inst : Nat)
  /-- K0 keeper command unsealing a page with one reference, promoting it if needed. (R169) -/
  | unseal (page : Nat)
  /-- Migration engine command moving or copying a page to another tier or frame. (R171) -/
  | move (page target : Nat) (copy : Bool)
  /-- A privileged write to a lower-tier sealed page applies once its promotion into HBM completes. (R154) -/
  | promotedWriteApply (page : Nat)
  /-- A Library or host read fails and is retried once or delivered poisoned with 0x1604. (R165) -/
  | lowerTierReadFailed (page granule owner : Nat) (retryFailed : Bool)
  /-- A lower-tier read passes its late limit and a KV beat is delivered poisoned with 0x1603. (R165) -/
  | lowerTierLate (page granule owner : Nat)
  /-- A migration completes and FRAME and TIER switch in one step. (R171) -/
  | migrationSwitch (page : Nat)
  /-- A move whose source failed or target is unreachable ends, returning its destination frame with 0x160A. (R171) -/
  | migrationFailed (page : Nat)
  /-- 1 ms after a switch the source frame of a page with no step end returns. (R171) -/
  | sourceFrameReturn (page : Nat)
  /-- At the audit interval each keeper walks its descriptors and recounts its frame and quota books. (R178) -/
  | bookAudit (keeper : Nat)
  /-- The drain of a retired channel's group ends and the group is laid out over its live channels. (R158) -/
  | channelDrainDone (library : Bool) (group : Nat)
  /-- A write of a class floor, refused if floors exceed the growth quota. (R176) -/
  | floorWrite (cls value : Nat) (path : Path)
  /-- An append record reaches the KV append unit and its FP16 values enter the staging buffer. (R190) -/
  | appendRecord (inst entry group layer headGroup position : Nat) (values : List Nat) (poison : Option Nat)
  /-- A copy on write commits and the sequence's reference on the old page is dropped. (R242) -/
  | cowCopyCommit (inst entry group layer headGroup : Nat)
  /-- A swapped page returns to HBM; when all are back the sequence may run. (R206) -/
  | swapInPageDone (page : Nat)
  /-- A failed host read during swap-in ends the sequence with 0x1704. (R206) -/
  | swapInFailed (page : Nat)
  /-- A STEP_START Timetable event creates one step of its instance. (R227) -/
  | stepStart (inst : Nat) (prompts : List (Nat × Option (List Nat))) (masks : List (Nat × Option Bytes))
  /-- A failed or late prompt read delivers poisoned tokens with cause 0x1802. (R226) -/
  | promptReadFailed (inst entry : Nat)
  /-- A failed mask read delivers the slice poisoned with cause 0x1901. (R246) -/
  | maskReadFailed (inst entry : Nat)
  /-- At a layer boundary K0 chooses the ready instance with least virtual time and dispatches its next layer. (R229) -/
  | layerDispatch
  /-- The home sampling unit draws a token from the merged candidate list. (R248) -/
  | sampleDraw (inst entry : Nat)
  /-- A token record that cannot be written raises 0x1906 and ends the sequence. (R253) -/
  | ringWriteFailed (ring : Nat)
  /-- Phase 7 begins and the module sends its round A digest to every member. (R218) -/
  | roundASend (inst : Nat)
  /-- A member's digest arrives and is held for its round. (R219) -/
  | digestReceive (sender : Nat) (digest : Digest)
  /-- All round A digests are held and the module applies them in order. (R220) -/
  | roundACommit (inst : Nat)
  /-- After its cores are released the instance's pages return and its binding becomes FREE. (R232) -/
  | dismissalComplete (inst : Nat)
  /-- All round B digests are held and applied, freeing ENDING entries. (R220) -/
  | roundBApply (inst : Nat) (prompts : List (Nat × Option (List Nat))) (masks : List (Nat × Option Bytes))
  /-- Roster command admitting a sequence, ring reserved at submission and applied at step end. (R215) -/
  | rosterAdmit (inst : Nat) (args : AdmitArgs) (prompt bias : Option (List Nat)) (ref : CmdRef)
  /-- Roster END command ends a sequence with HOST_END. (R215) -/
  | rosterEnd (inst seqId : Nat) (ref : CmdRef)
  /-- Roster command setting the HOST park reason. (R215) -/
  | park (inst seqId : Nat) (ref : CmdRef)
  /-- Roster command clearing HOST and starting swap-in if swapped. (R215) -/
  | resume (inst seqId : Nat) (ref : CmdRef)
  /-- Roster command replacing a sequence's priority. (R215) -/
  | priority (inst seqId value : Nat) (ref : CmdRef)
  /-- Roster command replacing the prefill interleave. (R215) -/
  | interleave (inst value : Nat) (ref : CmdRef)
  /-- A NOT_SERVING control message makes a serving module dismiss the instance with 0x1805. (R222) -/
  | notServing (inst sender : Nat)
  /-- A member's first-step digest missing one period after send dismisses the instance. (R222) -/
  | firstStepDigestTimeout (inst : Nat)
  /-- Command loading and checking a Lesson pack into sealed pages. (R256) -/
  | lessonLoad (inst index : Nat) (pack : Option Bytes) (ref : CmdRef)
  /-- Command unloading a Lesson index not named by any entry. (R256) -/
  | lessonUnload (inst index : Nat) (ref : CmdRef)
  /-- Command queuing a tenant budget change for an effective step. (R260) -/
  | budgetSet (inst : Nat) (change : BudgetChange) (ref : CmdRef)
  /-- Every 600 s K0 checks every budget record's book. (R261) -/
  | budgetAudit
  /-- Tolgil LOAD request answered by a RESPONSE with the beats. (R272) -/
  | load (pkt : Packet)
  /-- Tolgil STORE of beats on the bulk channel, with optional count and completion. (R272) -/
  | store (pkt : Packet)
  /-- Tolgil 32-bit integer atomic add. (R273) -/
  | addI32 (pkt : Packet)
  /-- Tolgil 64-bit integer atomic add. (R273) -/
  | addI64 (pkt : Packet)
  /-- Tolgil FP32 atomic add. (R273) -/
  | addF32 (pkt : Packet)
  /-- Tolgil signed 32-bit atomic minimum. (R273) -/
  | minS32 (pkt : Packet)
  /-- Tolgil unsigned 32-bit atomic minimum. (R273) -/
  | minU32 (pkt : Packet)
  /-- Tolgil signed 64-bit atomic minimum. (R273) -/
  | minS64 (pkt : Packet)
  /-- Tolgil unsigned 64-bit atomic minimum. (R273) -/
  | minU64 (pkt : Packet)
  /-- Tolgil FP32 atomic minimumNumber. (R273) -/
  | minF32 (pkt : Packet)
  /-- Tolgil signed 32-bit atomic maximum. (R273) -/
  | maxS32 (pkt : Packet)
  /-- Tolgil unsigned 32-bit atomic maximum. (R273) -/
  | maxU32 (pkt : Packet)
  /-- Tolgil signed 64-bit atomic maximum. (R273) -/
  | maxS64 (pkt : Packet)
  /-- Tolgil unsigned 64-bit atomic maximum. (R273) -/
  | maxU64 (pkt : Packet)
  /-- Tolgil FP32 atomic maximumNumber. (R273) -/
  | maxF32 (pkt : Packet)
  /-- Tolgil 32-bit compare and swap. (R273) -/
  | cas32 (pkt : Packet)
  /-- Tolgil 64-bit compare and swap. (R273) -/
  | cas64 (pkt : Packet)
  /-- Tolgil 128-bit compare and swap. (R273) -/
  | cas128 (pkt : Packet)
  /-- A Tolgil RESPONSE answers a non-posted request with data and status. (R276) -/
  | response (pkt : Packet)
  /-- A Tolgil COMPLETION acknowledges a STORE with ACK. (R272) -/
  | completion (pkt : Packet)
  /-- A NOTICE tells K0 a STORE was lost, raising 0x1A05 and releasing its instance. (R299) -/
  | notice (pkt : Packet)
  /-- A RELEASE message makes K0 release the named instance if its step is in progress. (R300) -/
  | tolgilRelease (pkt : Packet) (step : Nat)
  /-- A CONTROL firmware message arrives at a K0 mailbox. (R272) -/
  | control (pkt : Packet)
  /-- A request to a host endpoint is carried to its bridge module and issued on PCIe. (R267) -/
  | hostBridgeRequest (pkt : Packet) (answer : Option Bytes)
  /-- A HALL_PASS link entry returns passes to the sender. (R278) -/
  | hallPass (port vc pool passes : Nat)
  /-- A HEARTBEAT link entry reports the partner's index, incarnation and die liveness. (R295) -/
  | heartbeat (port index serial incarnation liveness : Nat)
  /-- An AUDIT link entry's counts are compared with the local hall pass book. (R280) -/
  | audit (port vc pool held inFlight occupied returns : Nat)
  /-- Every 10 s each port end sends its AUDIT entries. (R280) -/
  | hallPassAuditSend (port : Nat)
  /-- A WIDTH link entry reports the lanes in use after a retrain. (R290) -/
  | width (port lanes : Nat)
  /-- Every heartbeat interval each port sends a HEARTBEAT entry. (R295) -/
  | heartbeatSend (port : Nat)
  /-- A flit arrives and is checked, delivering its slots or discarding it with NAK. (R291) -/
  | flitReceive (port : Nat) (flit : Option Flit) (corrected uncorrectable : List Nat)
  /-- A port loses training, lock on all lanes, or gets 64 bad flits. (R295) -/
  | portLossOfTraining (port : Nat)
  /-- No valid flit arrives for 200 µs and the port is declared down. (R295) -/
  | portSilenceTimeout (port : Nat)
  /-- Every 100 ms a down port attempts training and comes up on a matching heartbeat. (R295) -/
  | portRetrain (port : Nat) (trained : Bool) (index serial incarnation liveness : Nat)
  /-- A lane fails and the port starts a narrower retrain with 0x1A07. (R294) -/
  | laneFailure (port lane : Nat)
  /-- A narrowing retrain completes and the port resumes at the reduced width. (R294) -/
  | retrainDone (port lanes : Nat)
  /-- A request outstanding or a SUSPECT state lasts T and the node is declared LOST. (R296) -/
  | supervisorTimeout (node : Nat)
  /-- A LOST node reachable and live for 100 ms returns to LIVE. (R296) -/
  | nodeLiveAgain (node incarnation : Nat)
  /-- A quarantined tag becomes free after 2 × T. (R298) -/
  | tagQuarantineEnd (die tag : Nat)
  /-- A route entry write changes stream paths and starts their drains. (R285) -/
  | routeEntryWrite (target : Nat) (value : Nat) (path : Path)
  /-- 20 µs after the last packet on the old path a stream resumes on the new path. (R285) -/
  | routeChangeDrainEnd (die node vc : Nat)
  /-- A via marked unusable after NO_ROUTE becomes usable again after 100 ms. (R284) -/
  | viaNoRouteEnd (via dest : Nat)
  /-- A collective engine executes a posted descriptor by direct sends. (R286) -/
  | collectiveDescriptor (die : Nat) (desc : Collective) (pieces : List (Nat × Option (List Beat))) (slices : List (Nat × List SliceResult))
  /-- A write of the module index, accepted only while every instance is FREE. (R301) -/
  | moduleIndexWrite (value : Nat) (path : Path)
  /-- Secured command installing a package key in a slot under the epoch ratchet. (R309) -/
  | keyLoad (slot keyId owner epoch : Nat) (key : Bytes) (ref : CmdRef)
  /-- Secured command emptying a key slot. (R311) -/
  | keyErase (slot : Nat) (ref : CmdRef)
  /-- The reader reads and checks a package's table and registers it on every member. (R312) -/
  | pkgRegister (bytes : Option Bytes) (addr len slot : Nat) (members : List Nat) (statusAddr : Nat) (ref : CmdRef)
  /-- The package is removed from every member. (R313) -/
  | pkgUnregister (packageId : Nat) (ref : CmdRef)
  /-- The reader starts broadcasting a piece range to an ingest group. (R316) -/
  | ingest (packageId first last fanout statusAddr : Nat) (members : List Nat) (ref : CmdRef)
  /-- A segment's host read completes and the segment is sent, or a second failure logs 0x1B05. (R317) -/
  | segmentHostRead (ingestId : Nat) (cipher : Option Bytes) (tag : Bytes)
  /-- A segment lands in a receive buffer, is forwarded, decrypted, verified and written. (R319) -/
  | segmentReceive (desc : SegmentDesc) (cipher tag : Bytes) (poisoned : Bool)
  /-- A child's buffer credit lets its parent send another segment. (R318) -/
  | bufferCredit (child die : Nat)
  /-- A waiting Library-placed piece proceeds when staging frames are free. (R322) -/
  | stagingAdmit (inst piece : Nat)
  /-- END reaches a member, which answers once its buffers and checks are done. (R323) -/
  | ingestEnd (ingestId : Nat)
  /-- A member's status reaches the reader, which posts the completion when all are in. (R323) -/
  | memberStatus (ingestId : Nat) (status : MemberStat)
  /-- RESTORE makes the reader re-read one segment and send it to the requester. (R326) -/
  | restore (packageId piece segment requester : Nat)
  /-- A restore not switched within the limit dismisses the instance with 0x1B07. (R327) -/
  | restoreTimeout (page : Nat)
  /-- Every 1 µs the controller updates the Recess duty, governor ceiling and ballast. (R344) -/
  | powerLoop1us (milliWatt milliAmpAvg milliVolt : Nat)
  /-- Every 10 µs the loop sets frequency, voltages, throttles, thermal duty and sag band. (R342) -/
  | powerLoop10us (sample : PowerSample)
  /-- After 1 ms at 44.5 V or above the sag band is left. (R355) -/
  | sagExit
  /-- The input stays below 40 V for 200 µs and a save from the bank is decided. (R355) -/
  | supplyLoss
  /-- The save image is written and the save-complete marker committed; K0 powers off or holds. (R356) -/
  | saveComplete (written : Bool)
  /-- A droop detector trips and the package clock stretches. (R349) -/
  | droopDetect (die : Nat)
  /-- After 32 cycles above 97 % the stretch is released. (R349) -/
  | droopRelease (cycles : Nat)
  /-- After 24 h without a rise the droop margin falls by 5 mV. (R350) -/
  | droopMarginFall (die : Nat)
  /-- A fused junction limit switches off the die's regulator with 0x1C07. (R351) -/
  | junctionTrip (die : Nat)
  /-- A fused HBM stack limit switches off its side with 0x1C07. (R351) -/
  | hbmTrip (stack : Nat)
  /-- Fused over-voltage opens the input switch and saves from the bank. (R351) -/
  | overVoltageDisconnect
  /-- Fused over-current opens the input switch and saves from the bank. (R351) -/
  | overCurrentDisconnect
  /-- The thermal save threshold triggers a save from the bus and thermal hold. (R353) -/
  | thermalSave
  /-- With Auto wake, 60 s below 70 °C ends thermal hold with a cold wake. (R353) -/
  | thermalHoldExit
  /-- A flow estimate below 1.4 L/min for 10 s logs 0x1C0B. (R354) -/
  | flowLow
  /-- At the test interval K0 disconnects the charger and discharges the bank into a test load. (R359) -/
  | bankTest
  /-- The test finishes and the usable energy is reported. (R359) -/
  | bankTestDone (usableMilliJoule : Nat)
  /-- The charger reports the bank charged at 56 V. (R426) -/
  | bankChargeComplete
  /-- 2 s after W0 the uncharged bank records 0x61 and START is accepted. (R426) -/
  | bankChargeTimeout
  /-- No management message for the silence time puts the silence cap in force. (R360) -/
  | silenceCap
  /-- A power mode write changes the clock mode within 1 ms or is refused. (R341) -/
  | powerModeWrite (value : Nat) (path : Path)
  /-- A CAP_CHANGE event applies and clears the pending cap. (R348) -/
  | capChange (entry : Nat)
  /-- A Bell frame is received, validated and checked for consistency. (R367) -/
  | bellFrame (frame : BellFrame)
  /-- The counter stays within ±5 ns for 1 ms and the state becomes LOCKED. (R370) -/
  | bellLock
  /-- No valid frame for 51.2 µs enters HOLDOVER with 0x1D01. (R370) -/
  | bellLost
  /-- 20 s in holdover enters FREE_RUN and spanning instances leave lockstep. (R370) -/
  | holdoverExpired
  /-- A write to 0x2100:08 loads the counter and shifts the Timetable. (R372) -/
  | realign (value : Nat) (path : Path)
  /-- A host write of a Timetable entry, checked against the guard and ranges. (R376) -/
  | timetableWrite (entry : Nat) (value : Bytes) (path : Path)
  /-- A PERIOD_CHANGE event changes the instance's step period or is skipped with 0x1D06. (R377) -/
  | periodChange (entry : Nat)
  /-- A LEAVE message names the step at which a spanning instance suspends. (R381) -/
  | leave (inst step : Nat)
  /-- A member LOCKED for 1 s sends READY. (R382) -/
  | readySend (inst : Nat)
  /-- Rank 0 collects READY and sends RESUME once all are in. (R382) -/
  | ready (inst rank : Nat)
  /-- A RESUME message sets the suspended schedule to restart at count R. (R382) -/
  | lockstepResume (inst count : Nat)
  /-- CANCEL discards a pending resume and keeps the instance suspended. (R382) -/
  | cancel (inst : Nat)
  /-- A ROLL_CALL event samples the module and posts the sample to the collector. (R383) -/
  | rollCall (entry : Nat)
  /-- Every 200 µs an unacknowledged sample is sent again until close. (R384) -/
  | rollCallSampleRetry
  /-- A sample reaches the collector and is recorded, held, or discarded. (R384) -/
  | rollCallSample (sample : Bytes)
  /-- At close the collector writes the sweep record and posts it. (R385) -/
  | sweepClose (bell : Nat)
  /-- A firmware component sends a message into another's inbox. (R391) -/
  | componentMessage (sender receiver : Nat) (msg : Bytes)
  /-- A send blocked on a full inbox fails after 100 µs. (R391) -/
  | inboxSendTimeout (sender : Nat)
  /-- A component misses two watchdog intervals. (R396) -/
  | watchdogMiss (part : Nat)
  /-- A restarted component finishes and drains its inbox. (R396) -/
  | componentRestartDone (part : Nat)
  /-- An access outside a component's grants ends its job and restarts it. (R395) -/
  | domainViolation (part : Nat)
  /-- A Proctor core fails and its components move to another core. (R394) -/
  | proctorCoreLost (core : Nat)
  /-- A component writes a log record through the kernel. (R400) -/
  | logRecord (part level code : Nat) (args : List Nat)
  /-- An enabled trace point emits a record to the trace ring or drops it. (R402) -/
  | tracePoint (point core data : Nat)
  /-- Command writing an image chunk to the inactive bank and verifying after the last. (R404) -/
  | termStage (offset : Nat) (chunk : Bytes) (last : Bool) (ref : CmdRef)
  /-- Command moving a verified bank to PREPARED after compatibility checks. (R405) -/
  | termPrepare (addr : Nat) (protocols : List (Nat × Nat)) (ref : CmdRef)
  /-- The next part is loaded into the successor area and checked. (R407) -/
  | successorLoadDone (digestOk : Bool)
  /-- A HANDOVER event hands over the next part of the prepared term change. (R408) -/
  | handover (entry : Nat) (accepted : Bool) (freeze : Nat)
  /-- A changed part is reloaded and handed back to its predecessor. (R410) -/
  | handBack (accepted : Bool) (freeze : Nat)
  /-- A rejected hand-back is retried every 10 s. (R410) -/
  | handBackRetry (accepted : Bool) (freeze : Nat)
  /-- Command rolling back a prepared or running term change. (R410) -/
  | termAbort (ref : CmdRef)
  /-- Command preparing the previous image as a term change. (R411) -/
  | termRevert (ref : CmdRef)
  /-- Host driver negotiates the interface version and granted host features. (R415) -/
  | negotiate (major minor features : Nat) (ref : CmdRef)
  /-- Secured command opening the debug lock with a signed token. (R399) -/
  | debugUnlock (token : Bytes) (ref : CmdRef)
  /-- Command closing the debug lock. (R399) -/
  | debugLock (ref : CmdRef)
  /-- The input stays in range for 10 ms after mating and a cold wake begins. (R419) -/
  | inputInRange
  /-- Bus converters soft-start and the K0 standby rail comes up. (R419) -/
  | wakeW0
  /-- The K0 ROM self-tests and clears SRAM. (R419) -/
  | wakeW1
  /-- The local oscillator reports ready and the PLLs lock. (R419) -/
  | wakeW2 (ready : Bool)
  /-- The ROM reads the last term record and security minimum. (R419) -/
  | wakeW3
  /-- The ROM selects and verifies an image and loads kernel and boot part. (R422) -/
  | wakeW4
  /-- The kernel starts components, repairs the journal and begins management service. (R419) -/
  | wakeW5 (started : Nat)
  /-- Die regulators start in order and report power-good. (R419) -/
  | wakeW6 (failedDies : Nat) (failedStacks : Nat)
  /-- Dies self-test, apply spare maps and host links begin training. (R419) -/
  | wakeW7 (failedDies : Nat)
  /-- Corridor bridges train and routes avoid absent dies. (R419) -/
  | wakeW8 (untrained : Nat)
  /-- HBM and Library channels train and retirements are applied. (R419) -/
  | wakeW9 (hbmUntrained : Nat) (libraryUntrained : Nat)
  /-- Working slates are scrubbed and tags and counters cleared. (R419) -/
  | wakeW10 (failedCores : List Nat)
  /-- The readiness check decides the working set. (R425) -/
  | wakeW11
  /-- A wake stage passes its timeout and takes its failure action. (R419) -/
  | wakeStageTimeout
  /-- 5 s after a W0 failure the wake is retried. (R419) -/
  | wakeRetry
  /-- An image chunk written in ROM recovery is stored and, once it passes, the module resets. (R423) -/
  | recoveryImage (offset : Nat) (chunk : Bytes) (last : Bool)
  /-- PERST# asserts, resetting the PCIe controllers and per policy the module. (R428) -/
  | perst
  /-- A module reset releases instances, declares nodes lost, commits the journal and rewakes at W3. (R429) -/
  | moduleReset (source : ResetSource) (leakDry : Bool)
  /-- A core reset of a fenced core clears its registers and keeps it fenced. (R430) -/
  | coreReset (value : Nat) (path : Path)
  /-- An FLR acts as a host link reset of that function. (R503) -/
  | functionLevelReset (fn : Nat)
  /-- A transition to D3hot is a loss of that host link. (R503) -/
  | d3hot (fn : Nat)
  /-- A die-wide fault, regulator fault or router failure is detected in service. (R440) -/
  | dieFault (die : Nat) (routersPass : Bool)
  /-- The save area copy to a new M die completes and Save assured returns. (R441) -/
  | saveAreaCopyDone
  /-- At the next idle layer boundary the failing core is fenced and replaced by the spare. (R445) -/
  | coreSpare (core : Nat)
  /-- A frame is retired once its page has moved or freed. (R446) -/
  | frameRetire (library : Bool) (frame : Nat)
  /-- A host link goes down and sequences on its rings are ended. (R442) -/
  | hostLinkLost (fn : Nat)
  /-- A host link returns and a HOST_LINK event is posted. (R523) -/
  | hostLinkUp (fn : Nat)
  /-- A write of 1 to 0x2610:07 zeroes every sparing window counter. (R453) -/
  | clearWindows (value : Nat) (path : Path)
  /-- Management operation returning an entry's value. (R469) -/
  | read (path : Path) (source : Nat) (op : DictOp)
  /-- Management operation writing an entry, validated alone. (R469) -/
  | write (path : Path) (source : Nat) (op : DictOp)
  /-- Management compare-and-write of an entry. (R469) -/
  | writeIf (path : Path) (source : Nat) (op : DictOp)
  /-- Management operation returning part of a BLOB. (R469) -/
  | readPart (path : Path) (source : Nat) (op : DictOp)
  /-- Management operation staging part of a BLOB, applied on the LAST part. (R472) -/
  | writePart (path : Path) (source : Nat) (op : DictOp)
  /-- Management operation returning an entry's type, rights and range. (R469) -/
  | describe (path : Path) (source : Nat) (op : DictOp)
  /-- Management operation returning the next existing entry. (R469) -/
  | next (path : Path) (source : Nat) (op : DictOp)
  /-- A WRITE_PART staging area idle for 2 s is discarded. (R472) -/
  | partStagingExpiry (source index sub : Nat)
  /-- A cached management response is dropped after 2 s. (R471) -/
  | responseCacheExpiry (source reqId : Nat)
  /-- Every 10 s the module sends a presence notice. (R475) -/
  | presenceNotice
  /-- The module answers IPv6 neighbour discovery. (R467) -/
  | neighbourDiscovery (source : Bytes)
  /-- The module answers an ICMPv6 echo request. (R467) -/
  | icmpv6Echo (source payload : Bytes)
  /-- A duplicate link-local address ends bus service with 0x2104. (R467) -/
  | duplicateAddress
  /-- A write to 0x1100:0A writes the defaults of a range one by one. (R481) -/
  | restoreDefaults (value : Nat) (path : Path)
  /-- A write of the management key through the secured mirror empties the source table. (R474) -/
  | managementKeyWrite (fn : Nat) (key : Bytes) (secured : Bool)
  /-- A record is submitted to the journal service queue. (R490) -/
  | journalSubmit (kind key : Nat) (body : Bytes)
  /-- The service writes a queued record to copy A, reads it back, writes copy B and answers. (R490) -/
  | journalWrite (badReads : Nat)
  /-- One slice of compaction copies records or writes the new anchor. (R493) -/
  | compactionSlice
  /-- At the scrub interval the service compares and repairs anchors and copies. (R499) -/
  | scrub
  /-- A write to 0x2700:0C formats an unusable journal and restarts the wake. (R498) -/
  | reformat (value : Nat) (path : Path)
  /-- Once per powered hour each unit's wear record and aging margin are updated. (R500) -/
  | wearUpdate (temps : List Int)
  /-- A host doorbell write moves a ring index or is ignored with 0x2304. (R512) -/
  | doorbell (fn ring value : Nat)
  /-- A ring context write is checked and enables or refuses the ring. (R511) -/
  | ringContextWrite (fn ring word : Nat) (value : Word64)
  /-- The module fetches a submission entry and its data buffer. (R517) -/
  | submissionFetch (ring : Nat) (entry : Option Bytes) (data : Option Bytes) (buffers : List (Nat × Option Bytes)) (protocols : List (Nat × Nat))
  /-- COAL_TIME after the first unsignalled record the ring's vector is signalled. (R514) -/
  | coalesceTimeout (ring : Nat)
  /-- A write of APERTURE_BASE moves the BAR2 window. (R508) -/
  | apertureBaseWrite (fn : Nat) (value : Word64)
  /-- A host read through BAR2 into the module range. (R508) -/
  | apertureRead (fn offset len : Nat)
  /-- A host write through BAR2 into the module range. (R508) -/
  | apertureWrite (fn offset : Nat) (data : Bytes)
  /-- A submission entry carried inside the secured session. (R526) -/
  | secureCommand (fn : Nat) (entry data : Bytes) (buffers : List (Nat × Option Bytes)) (protocols : List (Nat × Nat))
  /-- A mirror request carried inside the secured session. (R526) -/
  | secureMirror (fn : Nat) (request : Bytes)
  /-- SPDM request for supported versions. (R525) -/
  | getVersion (fn : Nat)
  /-- SPDM request for capabilities. (R525) -/
  | getCapabilities (fn : Nat) (version : Nat)
  /-- SPDM algorithm negotiation. (R525) -/
  | negotiateAlgorithms (fn : Nat) (supported : Bool)
  /-- SPDM request for certificate digests. (R525) -/
  | getDigests (fn : Nat)
  /-- SPDM request for a certificate chain. (R525) -/
  | getCertificate (fn slot : Nat)
  /-- SPDM authentication challenge. (R525) -/
  | challenge (fn slot : Nat)
  /-- SPDM request for measurement blocks. (R525) -/
  | getMeasurements (fn index : Nat)
  /-- SPDM key exchange opening a session. (R525) -/
  | keyExchange (fn : Nat)
  /-- SPDM FINISH completing a session. (R525) -/
  | finish (fn : Nat) (verified : Bool)
  /-- SPDM session key update. (R525) -/
  | keyUpdate (fn : Nat)
  /-- SPDM session heartbeat. (R525) -/
  | spdmHeartbeat (fn : Nat)
  /-- SPDM request ending the secured session. (R525) -/
  | endSession (fn : Nat)
  /-- SPDM vendor request carrying a secure sub-operation. (R526) -/
  | vendorDefinedRequest (fn : Nat) (standardOk : Bool) (payload : Bytes) (buffers : List (Nat × Option Bytes)) (protocols : List (Nat × Nat))
  /-- IDE key programming for the function's Selective IDE stream. (R527) -/
  | ideKm (fn : Nat) (key : Bytes)
  /-- The IDE stream leaves the secure state and the link counts as lost. (R527) -/
  | ideStreamFailed (fn : Nat)
  /-- The mate-detect loop closes and the input switch may close. (R533) -/
  | mateClose
  /-- The mate-detect loop open for 20 µs decides a save and opens the input switch. (R534) -/
  | mateOpen
  /-- The leak sensor wet for 1 s saves from the bus and enters thermal hold. (R543) -/
  | leakWet
  /-- An open leak sensor raises 0x2403 once per hour. (R543) -/
  | leakSensorOpen
  /-- JTAG BYPASS instruction. (R539) -/
  | bypass (tdi : List Bool)
  /-- JTAG IDCODE instruction. (R539) -/
  | idcode (tdi : List Bool)
  /-- JTAG SAMPLE/PRELOAD instruction. (R539) -/
  | samplePreload (tdi : List Bool)
  /-- JTAG EXTEST instruction, executed as BYPASS unless allowed. (R539) -/
  | extest (tdi : List Bool)
  /-- IEEE 1149.6 EXTEST_PULSE instruction on AC-coupled lanes. (R539) -/
  | extestPulse (tdi : List Bool)
  /-- IEEE 1149.6 EXTEST_TRAIN instruction on AC-coupled lanes. (R539) -/
  | extestTrain (tdi : List Bool)
  /-- A Tolgil port whose training was started at W8 or by setting ENABLE finishes training at x4 and begins exchanging link entries. (R294) -/
  | portTrained (port : Nat) (index serial incarnation liveness : Nat)
  /-- PERST# returns high and releases the PCIe controllers from the reset it held, so that the links may train. (R428) -/
  | perstDeasserted
  /-- A UDP request datagram arrives whole; it is dropped or counted when malformed or when the queue is full, refused with AUTH_FAILED at datagram level, or answered from the response cache. (R468) -/
  | managementDatagram (source port : Nat) (multicast : Bool) (payload : Bytes)
  /-- One second after a further failure of an unstable component, the kernel restarts that component. (R398) -/
  | delayedRestart (part : Nat)
  deriving DecidableEq, Repr

end Sys2Proof
end

