-- ==== Sys2Proof/Machine/Crypto.lean ====
section
/-! DEFINITION. The cryptography the spec names with a public standard: SHA-256 and HMAC-SHA-256 (17_object_dictionary.md
R474, 11_weights.md R306), SHA-384 (14_firmware.md R403) and AES-256-GCM (11_weights.md R307). -/

namespace Sys2Proof.Machine

/-! ## SHA-256 -/

def shaK0 : List Nat := [0x428a2f98, 0x71374491, 0xb5c0fbcf, 0xe9b5dba5, 0x3956c25b, 0x59f111f1, 0x923f82a4, 0xab1c5ed5]
def shaK1 : List Nat := [0xd807aa98, 0x12835b01, 0x243185be, 0x550c7dc3, 0x72be5d74, 0x80deb1fe, 0x9bdc06a7, 0xc19bf174]
def shaK2 : List Nat := [0xe49b69c1, 0xefbe4786, 0x0fc19dc6, 0x240ca1cc, 0x2de92c6f, 0x4a7484aa, 0x5cb0a9dc, 0x76f988da]
def shaK3 : List Nat := [0x983e5152, 0xa831c66d, 0xb00327c8, 0xbf597fc7, 0xc6e00bf3, 0xd5a79147, 0x06ca6351, 0x14292967]
def shaK4 : List Nat := [0x27b70a85, 0x2e1b2138, 0x4d2c6dfc, 0x53380d13, 0x650a7354, 0x766a0abb, 0x81c2c92e, 0x92722c85]
def shaK5 : List Nat := [0xa2bfe8a1, 0xa81a664b, 0xc24b8b70, 0xc76c51a3, 0xd192e819, 0xd6990624, 0xf40e3585, 0x106aa070]
def shaK6 : List Nat := [0x19a4c116, 0x1e376c08, 0x2748774c, 0x34b0bcb5, 0x391c0cb3, 0x4ed8aa4a, 0x5b9cca4f, 0x682e6ff3]
def shaK7 : List Nat := [0x748f82ee, 0x78a5636f, 0x84c87814, 0x8cc70208, 0x90befffa, 0xa4506ceb, 0xbef9a3f7, 0xc67178f2]
/-- The 64 round constants. -/
def shaK : List Nat := shaK0 ++ shaK1 ++ shaK2 ++ shaK3 ++ shaK4 ++ shaK5 ++ shaK6 ++ shaK7

/-- The initial hash value. -/
def shaInit : List (BitVec 32) := [0x6a09e667#32, 0xbb67ae85#32, 0x3c6ef372#32, 0xa54ff53a#32, 0x510e527f#32, 0x9b05688c#32, 0x1f83d9ab#32, 0x5be0cd19#32]

/-- Four bytes, highest first. -/
def be32 (b : Bytes) : BitVec 32 := BitVec.ofNat 32 (b.foldl (fun a x => a * 256 + x.toNat) 0)

/-- The bytes of a word, highest first. -/
def be32Bytes (w : BitVec 32) : Bytes :=
  [w.extractLsb' 24 8, w.extractLsb' 16 8, w.extractLsb' 8 8, w.extractLsb' 0 8]

/-- The number `x` in `n` bytes, highest first. -/
def beBytes (n x : Nat) : Bytes := ((List.range n).map (fun i => BitVec.ofNat 8 (x / 256 ^ i))).reverse

/-- The number a byte string spells, highest byte first. -/
def unbe (b : Bytes) : Nat := b.foldl (fun a x => a * 256 + x.toNat) 0

def shaS0 (x : BitVec 32) : BitVec 32 := x.rotateRight 7 ^^^ x.rotateRight 18 ^^^ (x >>> 3)
def shaS1 (x : BitVec 32) : BitVec 32 := x.rotateRight 17 ^^^ x.rotateRight 19 ^^^ (x >>> 10)
def shaB0 (x : BitVec 32) : BitVec 32 := x.rotateRight 2 ^^^ x.rotateRight 13 ^^^ x.rotateRight 22
def shaB1 (x : BitVec 32) : BitVec 32 := x.rotateRight 6 ^^^ x.rotateRight 11 ^^^ x.rotateRight 25

/-- The eight working variables. -/
structure ShaVars where
  a : BitVec 32
  b : BitVec 32
  c : BitVec 32
  d : BitVec 32
  e : BitVec 32
  f : BitVec 32
  g : BitVec 32
  h : BitVec 32
  deriving DecidableEq, Repr

/-- One round, consuming the newest message word; the window holds the last 16 words, oldest first. -/
def shaRound (st : ShaVars × List (BitVec 32)) (k : Nat) : ShaVars × List (BitVec 32) :=
  let v := st.1
  let w := st.2.headD 0
  let t1 := v.h + shaB1 v.e + ((v.e &&& v.f) ^^^ (~~~v.e &&& v.g)) + BitVec.ofNat 32 k + w
  let t2 := shaB0 v.a + ((v.a &&& v.b) ^^^ (v.a &&& v.c) ^^^ (v.b &&& v.c))
  let next := shaS1 (st.2.getD 14 0) + st.2.getD 9 0 + shaS0 (st.2.getD 1 0) + w
  (⟨t1 + t2, v.a, v.b, v.c, v.d + t1, v.e, v.f, v.g⟩, st.2.tail ++ [next])

/-- One 64-byte block. -/
def shaBlock (h : List (BitVec 32)) (blk : Bytes) : List (BitVec 32) :=
  let w := (List.range 16).map (fun i => be32 ((blk.drop (4 * i)).take 4))
  let v0 : ShaVars := ⟨h.getD 0 0, h.getD 1 0, h.getD 2 0, h.getD 3 0, h.getD 4 0, h.getD 5 0, h.getD 6 0, h.getD 7 0⟩
  let v := (shaK.foldl shaRound (v0, w)).1
  List.zipWith (· + ·) h [v.a, v.b, v.c, v.d, v.e, v.f, v.g, v.h]

/-- Padding to whole blocks. -/
def shaPad (m : Bytes) : Bytes :=
  m ++ [0x80#8] ++ List.replicate ((119 - m.length % 64) % 64) 0#8 ++ beBytes 8 (8 * m.length)

/-- The blocks of a padded message. -/
def shaBlocks (m : Bytes) : List Bytes := (List.range (m.length / 64)).map (fun i => (m.drop (64 * i)).take 64)

/-- SHA-256. -/
def sha256 (m : Bytes) : Bytes := ((shaBlocks (shaPad m)).foldl shaBlock shaInit).flatMap be32Bytes

/-- HMAC-SHA-256 with a key of at most 64 bytes. -/
def hmacSha256 (key m : Bytes) : Bytes :=
  let k := key ++ List.replicate (64 - key.length) 0#8
  sha256 (k.map (· ^^^ 0x5C#8) ++ sha256 (k.map (· ^^^ 0x36#8) ++ m))

/-! ## SHA-384 -/

def shaL0 : List Nat := [0x428a2f98d728ae22, 0x7137449123ef65cd, 0xb5c0fbcfec4d3b2f, 0xe9b5dba58189dbbc]
def shaL1 : List Nat := [0x3956c25bf348b538, 0x59f111f1b605d019, 0x923f82a4af194f9b, 0xab1c5ed5da6d8118]
def shaL2 : List Nat := [0xd807aa98a3030242, 0x12835b0145706fbe, 0x243185be4ee4b28c, 0x550c7dc3d5ffb4e2]
def shaL3 : List Nat := [0x72be5d74f27b896f, 0x80deb1fe3b1696b1, 0x9bdc06a725c71235, 0xc19bf174cf692694]
def shaL4 : List Nat := [0xe49b69c19ef14ad2, 0xefbe4786384f25e3, 0x0fc19dc68b8cd5b5, 0x240ca1cc77ac9c65]
def shaL5 : List Nat := [0x2de92c6f592b0275, 0x4a7484aa6ea6e483, 0x5cb0a9dcbd41fbd4, 0x76f988da831153b5]
def shaL6 : List Nat := [0x983e5152ee66dfab, 0xa831c66d2db43210, 0xb00327c898fb213f, 0xbf597fc7beef0ee4]
def shaL7 : List Nat := [0xc6e00bf33da88fc2, 0xd5a79147930aa725, 0x06ca6351e003826f, 0x142929670a0e6e70]
def shaL8 : List Nat := [0x27b70a8546d22ffc, 0x2e1b21385c26c926, 0x4d2c6dfc5ac42aed, 0x53380d139d95b3df]
def shaL9 : List Nat := [0x650a73548baf63de, 0x766a0abb3c77b2a8, 0x81c2c92e47edaee6, 0x92722c851482353b]
def shaL10 : List Nat := [0xa2bfe8a14cf10364, 0xa81a664bbc423001, 0xc24b8b70d0f89791, 0xc76c51a30654be30]
def shaL11 : List Nat := [0xd192e819d6ef5218, 0xd69906245565a910, 0xf40e35855771202a, 0x106aa07032bbd1b8]
def shaL12 : List Nat := [0x19a4c116b8d2d0c8, 0x1e376c085141ab53, 0x2748774cdf8eeb99, 0x34b0bcb5e19b48a8]
def shaL13 : List Nat := [0x391c0cb3c5c95a63, 0x4ed8aa4ae3418acb, 0x5b9cca4f7763e373, 0x682e6ff3d6b2b8a3]
def shaL14 : List Nat := [0x748f82ee5defb2fc, 0x78a5636f43172f60, 0x84c87814a1f0ab72, 0x8cc702081a6439ec]
def shaL15 : List Nat := [0x90befffa23631e28, 0xa4506cebde82bde9, 0xbef9a3f7b2c67915, 0xc67178f2e372532b]
def shaL16 : List Nat := [0xca273eceea26619c, 0xd186b8c721c0c207, 0xeada7dd6cde0eb1e, 0xf57d4f7fee6ed178]
def shaL17 : List Nat := [0x06f067aa72176fba, 0x0a637dc5a2c898a6, 0x113f9804bef90dae, 0x1b710b35131c471b]
def shaL18 : List Nat := [0x28db77f523047d84, 0x32caab7b40c72493, 0x3c9ebe0a15c9bebc, 0x431d67c49c100d4c]
def shaL19 : List Nat := [0x4cc5d4becb3e42b6, 0x597f299cfc657e2a, 0x5fcb6fab3ad6faec, 0x6c44198c4a475817]
/-- The 80 round constants. -/
def shaL : List Nat := shaL0 ++ shaL1 ++ shaL2 ++ shaL3 ++ shaL4 ++ shaL5 ++ shaL6 ++ shaL7 ++ shaL8 ++ shaL9 ++ shaL10 ++ shaL11 ++ shaL12 ++ shaL13 ++ shaL14 ++ shaL15 ++ shaL16 ++ shaL17 ++ shaL18 ++ shaL19

/-- The initial hash value. -/
def shaInit64 : List (BitVec 64) := [0xcbbb9d5dc1059ed8#64, 0x629a292a367cd507#64, 0x9159015a3070dd17#64, 0x152fecd8f70e5939#64, 0x67332667ffc00b31#64, 0x8eb44a8768581511#64, 0xdb0c2e0d64f98fa7#64, 0x47b5481dbefa4fa4#64]

/-- Bytes as words of eight, highest first. -/
def be64 (b : Bytes) : BitVec 64 := BitVec.ofNat 64 (unbe b)

def shaT0 (x : BitVec 64) : BitVec 64 := x.rotateRight 1 ^^^ x.rotateRight 8 ^^^ (x >>> 7)
def shaT1 (x : BitVec 64) : BitVec 64 := x.rotateRight 19 ^^^ x.rotateRight 61 ^^^ (x >>> 6)
def shaC0 (x : BitVec 64) : BitVec 64 := x.rotateRight 28 ^^^ x.rotateRight 34 ^^^ x.rotateRight 39
def shaC1 (x : BitVec 64) : BitVec 64 := x.rotateRight 14 ^^^ x.rotateRight 18 ^^^ x.rotateRight 41

/-- One round over the eight working variables a to h, consuming the oldest of the last 16 words. -/
def shaRound64 (st : List (BitVec 64) × List (BitVec 64)) (k : Nat) : List (BitVec 64) × List (BitVec 64) :=
  match st.1 with
  | [a, b, c, d, e, f, g, h] =>
    let w := st.2.headD 0
    let t1 := h + shaC1 e + ((e &&& f) ^^^ (~~~e &&& g)) + BitVec.ofNat 64 k + w
    let t2 := shaC0 a + ((a &&& b) ^^^ (a &&& c) ^^^ (b &&& c))
    let next := shaT1 (st.2.getD 14 0) + st.2.getD 9 0 + shaT0 (st.2.getD 1 0) + w
    ([t1 + t2, a, b, c, d + t1, e, f, g], st.2.tail ++ [next])
  | _ => st

/-- One 128-byte block. -/
def shaBlock64 (h : List (BitVec 64)) (blk : Bytes) : List (BitVec 64) :=
  let w := (List.range 16).map (fun i => be64 ((blk.drop (8 * i)).take 8))
  List.zipWith (· + ·) h (shaL.foldl shaRound64 (h, w)).1

/-- SHA-384 (14_firmware.md R403, 15_bringup_reset.md R422). -/
def sha384 (m : Bytes) : Bytes :=
  let p := m ++ [0x80#8] ++ List.replicate ((239 - m.length % 128) % 128) 0#8 ++ beBytes 16 (8 * m.length)
  let blocks := (List.range (p.length / 128)).map (fun i => (p.drop (128 * i)).take 128)
  (((blocks.foldl shaBlock64 shaInit64).take 6).flatMap (fun w => beBytes 8 w.toNat))

/-! ## AES-256 and GCM -/

def aesS0 : List Nat := [0x63, 0x7c, 0x77, 0x7b, 0xf2, 0x6b, 0x6f, 0xc5, 0x30, 0x01, 0x67, 0x2b, 0xfe, 0xd7, 0xab, 0x76]
def aesS1 : List Nat := [0xca, 0x82, 0xc9, 0x7d, 0xfa, 0x59, 0x47, 0xf0, 0xad, 0xd4, 0xa2, 0xaf, 0x9c, 0xa4, 0x72, 0xc0]
def aesS2 : List Nat := [0xb7, 0xfd, 0x93, 0x26, 0x36, 0x3f, 0xf7, 0xcc, 0x34, 0xa5, 0xe5, 0xf1, 0x71, 0xd8, 0x31, 0x15]
def aesS3 : List Nat := [0x04, 0xc7, 0x23, 0xc3, 0x18, 0x96, 0x05, 0x9a, 0x07, 0x12, 0x80, 0xe2, 0xeb, 0x27, 0xb2, 0x75]
def aesS4 : List Nat := [0x09, 0x83, 0x2c, 0x1a, 0x1b, 0x6e, 0x5a, 0xa0, 0x52, 0x3b, 0xd6, 0xb3, 0x29, 0xe3, 0x2f, 0x84]
def aesS5 : List Nat := [0x53, 0xd1, 0x00, 0xed, 0x20, 0xfc, 0xb1, 0x5b, 0x6a, 0xcb, 0xbe, 0x39, 0x4a, 0x4c, 0x58, 0xcf]
def aesS6 : List Nat := [0xd0, 0xef, 0xaa, 0xfb, 0x43, 0x4d, 0x33, 0x85, 0x45, 0xf9, 0x02, 0x7f, 0x50, 0x3c, 0x9f, 0xa8]
def aesS7 : List Nat := [0x51, 0xa3, 0x40, 0x8f, 0x92, 0x9d, 0x38, 0xf5, 0xbc, 0xb6, 0xda, 0x21, 0x10, 0xff, 0xf3, 0xd2]
def aesS8 : List Nat := [0xcd, 0x0c, 0x13, 0xec, 0x5f, 0x97, 0x44, 0x17, 0xc4, 0xa7, 0x7e, 0x3d, 0x64, 0x5d, 0x19, 0x73]
def aesS9 : List Nat := [0x60, 0x81, 0x4f, 0xdc, 0x22, 0x2a, 0x90, 0x88, 0x46, 0xee, 0xb8, 0x14, 0xde, 0x5e, 0x0b, 0xdb]
def aesS10 : List Nat := [0xe0, 0x32, 0x3a, 0x0a, 0x49, 0x06, 0x24, 0x5c, 0xc2, 0xd3, 0xac, 0x62, 0x91, 0x95, 0xe4, 0x79]
def aesS11 : List Nat := [0xe7, 0xc8, 0x37, 0x6d, 0x8d, 0xd5, 0x4e, 0xa9, 0x6c, 0x56, 0xf4, 0xea, 0x65, 0x7a, 0xae, 0x08]
def aesS12 : List Nat := [0xba, 0x78, 0x25, 0x2e, 0x1c, 0xa6, 0xb4, 0xc6, 0xe8, 0xdd, 0x74, 0x1f, 0x4b, 0xbd, 0x8b, 0x8a]
def aesS13 : List Nat := [0x70, 0x3e, 0xb5, 0x66, 0x48, 0x03, 0xf6, 0x0e, 0x61, 0x35, 0x57, 0xb9, 0x86, 0xc1, 0x1d, 0x9e]
def aesS14 : List Nat := [0xe1, 0xf8, 0x98, 0x11, 0x69, 0xd9, 0x8e, 0x94, 0x9b, 0x1e, 0x87, 0xe9, 0xce, 0x55, 0x28, 0xdf]
def aesS15 : List Nat := [0x8c, 0xa1, 0x89, 0x0d, 0xbf, 0xe6, 0x42, 0x68, 0x41, 0x99, 0x2d, 0x0f, 0xb0, 0x54, 0xbb, 0x16]
/-- The S-box. -/
def aesS : List Nat := aesS0 ++ aesS1 ++ aesS2 ++ aesS3 ++ aesS4 ++ aesS5 ++ aesS6 ++ aesS7 ++ aesS8 ++ aesS9 ++ aesS10 ++ aesS11 ++ aesS12 ++ aesS13 ++ aesS14 ++ aesS15

/-- S-box of one byte. -/
def aesSub (b : Byte) : Byte := BitVec.ofNat 8 (aesS.getD b.toNat 0)

/-- Multiplication by x in GF(2^8). -/
def xtime (b : Byte) : Byte := if b.getLsbD 7 then (b <<< 1) ^^^ 0x1B#8 else b <<< 1

/-- Words of the key schedule, newest first. -/
def aesExpand : Nat → Nat → Byte → List Bytes → List Bytes
  | 0, _, _, ws => ws
  | n + 1, i, rcon, ws =>
    let prev := ws.headD []
    let t :=
      if i % 8 = 0 then
        match (prev.tail ++ prev.take 1).map aesSub with
        | b :: r => (b ^^^ rcon) :: r
        | [] => []
      else if i % 8 = 4 then prev.map aesSub else prev
    aesExpand n (i + 1) (if i % 8 = 0 then xtime rcon else rcon) (List.zipWith (· ^^^ ·) (ws.getD 7 []) t :: ws)

/-- The fifteen round keys of a 32-byte key. -/
def aesKeys (key : Bytes) : List Bytes :=
  let ws := (aesExpand 52 8 1#8 ((List.range 8).map (fun i => (key.drop (4 * i)).take 4)).reverse).reverse
  (List.range 15).map (fun r => ((ws.drop (4 * r)).take 4).flatten)

/-- Rows shifted: byte r + 4c comes from column c + r. -/
def aesShift (b : Bytes) : Bytes := (List.range 16).map (fun i => b.getD ((i % 4 + 4 * ((i / 4 + i % 4) % 4))) 0)

/-- One column mixed. -/
def aesMixCol (c : Bytes) : Bytes :=
  let g (i : Nat) : Byte := c.getD (i % 4) 0
  (List.range 4).map (fun i => xtime (g i) ^^^ (xtime (g (i + 1)) ^^^ g (i + 1)) ^^^ g (i + 2) ^^^ g (i + 3))

/-- All columns mixed. -/
def aesMix (b : Bytes) : Bytes := (List.range 4).flatMap (fun i => aesMixCol ((b.drop (4 * i)).take 4))

/-- AES-256 of one block. -/
def aesBlock (keys : List Bytes) (b : Bytes) : Bytes :=
  let s0 := List.zipWith (· ^^^ ·) b (keys.getD 0 [])
  let s := ((keys.drop 1).take 13).foldl (fun s k => List.zipWith (· ^^^ ·) (aesMix (aesShift (s.map aesSub))) k) s0
  List.zipWith (· ^^^ ·) (aesShift (s.map aesSub)) (keys.getD 14 [])

/-- One step of the GHASH product: z and v. -/
def ghashStep (x : BitVec 128) (zv : BitVec 128 × BitVec 128) (i : Nat) : BitVec 128 × BitVec 128 :=
  (if x.getLsbD (127 - i) then zv.1 ^^^ zv.2 else zv.1,
   if zv.2.getLsbD 0 then (zv.2 >>> 1) ^^^ (0xE1#128 <<< 120) else zv.2 >>> 1)

/-- Product in GF(2^128), bits as GCM orders them. -/
def ghashMul (x y : BitVec 128) : BitVec 128 := ((List.range 128).foldl (ghashStep x) (0#128, y)).1

/-- GHASH of whole blocks. -/
def ghash (h : BitVec 128) (m : Bytes) : BitVec 128 :=
  (List.range ((m.length + 15) / 16)).foldl
    (fun y i => ghashMul (y ^^^ BitVec.ofNat 128 (unbe ((m.drop (16 * i)).take 16))) h) 0#128

/-- Zeros up to a multiple of 16. -/
def pad16 (m : Bytes) : Bytes := m ++ List.replicate ((16 - m.length % 16) % 16) 0#8

/-- CTR key stream of `n` blocks from counter `c`. -/
def ctrStream (keys : List Bytes) (iv : Bytes) (c n : Nat) : Bytes :=
  (List.range n).flatMap (fun i => aesBlock keys (iv ++ beBytes 4 (c + i)))

/-- AES-256-GCM with a 12-byte nonce: the other text and the tag of the ciphertext. `plain` says that the text is plain. -/
def gcm (key iv aad text : Bytes) (plain : Bool) : Bytes × Bytes :=
  let keys := aesKeys key
  let h := BitVec.ofNat 128 (unbe (aesBlock keys (List.replicate 16 0#8)))
  let out := List.zipWith (· ^^^ ·) text (ctrStream keys iv 2 ((text.length + 15) / 16))
  let c := if plain then out else text
  let s := ghash h (pad16 aad ++ pad16 c ++ beBytes 8 (8 * aad.length) ++ beBytes 8 (8 * c.length))
  (out, beBytes 16 (s ^^^ BitVec.ofNat 128 (unbe (aesBlock keys (iv ++ beBytes 4 1)))).toNat)

/-- Decrypt and verify; nothing where the tag does not hold. -/
def gcmOpen (key iv aad cipher tag : Bytes) : Option Bytes :=
  let r := gcm key iv aad cipher false
  if r.2 = tag then some r.1 else none

end Sys2Proof.Machine
end

