-- ==== Sys2Proof/Config.lean ====
section
/-! DEFINITION. What the spec leaves to the part, to its factory or to nobody. An `opaque` constant here is a free
value: nothing in Lean can see what it is (log entries 10, 14). A `def` is a factory value the model names (log entry 3). -/

namespace Sys2Proof.Config

/-- A value the spec leaves open, keyed by the State's free counter and by which value it is (log entry 10). -/
opaque freeValue : Nat → Nat → Nat

/-- The binder's step estimate in µs, from its own model (R61): instance, free counter. -/
opaque stepEstimate : Nat → Nat → Nat

/-- The binder's estimate of one layer, in the unit of virtual time (R229): instance, layer. -/
opaque layerEstimate : Nat → Nat → Nat

/-- Whether a position of a page is in an anchor list of its sequence (R202): the lists are data of the model's own index
tensors (log entry 21): instance, map entry key, free counter. -/
opaque pageAnchored : Nat → Nat → Nat → Bool

/-- Bytes that one stored binding takes (R54): instance, free counter. -/
opaque storedBindingBytes : Nat → Nat → Nat

/-- Whether an ECDSA P-384 signature by the fused key of an index holds over bytes (R404, R422, R399; log entry 14). -/
opaque signatureHolds : Nat → Bytes → Bytes → Bool

/-- Whether a debug unlock token is signed by a key that opens the lock (R399; log entry 14). -/
opaque tokenHolds : Bytes → Bool

/-- Random and signed content of an SPDM answer (R525; log entry 14): request, free counter. -/
opaque spdmContent : Nat → Nat → Bytes

/-- A sample of a boundary-scan cell (R539; log entry 9): cell, free counter. -/
opaque scanCell : Nat → Nat → Bool

/-- Identification code of a die's TAP (R539): the spec gives none. -/
opaque idCode : Nat → Nat

/-- Fused maximum of the droop margin of a compute die, mV (R350). -/
opaque droopMarginMax : Nat → Nat

/-- Serial number (R463), a factory value. -/
def serialNumber : Bytes := [0x42#8, 0x58#8, 0x32#8, 0x35#8, 0x2D#8, 0x30#8, 0x30#8, 0x30#8, 0x30#8]

/-- MAC address (R463), a factory value. -/
def macAddress : Bytes := [0x02#8, 0x00#8, 0x00#8, 0x00#8, 0x00#8, 0x01#8]

/-- Manufacture date as decimal YYYYMMDD (R463), a factory value. -/
def manufactureDate : Nat := 20260101

/-- Carrier revision (R463), a factory value. -/
def carrierRevision : Bytes := [0x41#8, 0x31#8]

/-- Host interface minor version (R415, R463), a factory value. -/
def hostMinor : Nat := 0

/-- Dictionary interface minor version (R463, R480), a factory value. -/
def dictMinor : Nat := 0

/-- Peralide's PCI vendor identifier (R504), a factory value. -/
opaque vendorId : Nat

/-- Minimum security version in the fuses (R404), a factory value. -/
def fusedSecurityMin : Nat := 0

/-- Fused public keys that no revocation fuse has cancelled, one bit per key index (R422), a factory value. -/
def fusedKeys : Nat := 0xF

/-- Lot code, wafer, position and grade of a die (R464), factory values. -/
def lotCode : Bytes := [0x4C#8, 0x30#8]
def dieWafer : Nat := 1
def dieX : Int := 0
def dieY : Int := 0
def dieGrade : Nat := 0

/-- Typical core rail in mV at the steps 1.00 to 1.75 GHz (R343, R464): the spec's typical curve, linear between its points. -/
def voltageTable : List Nat :=
  [620, 632, 644, 656, 668, 680, 694, 708, 722, 736, 750, 770, 790, 810, 830, 850]

/-- Versions of the eleven parts the factory image carries (R403, R416), a factory value. -/
def factoryVersions : List (Nat × Nat) :=
  [(0x01, 0x01000000), (0x02, 0x01000000), (0x03, 0x01000000), (0x04, 0x01000000), (0x05, 0x01000000),
   (0x06, 0x01000000), (0x07, 0x01000000), (0x08, 0x01000000), (0x10, 0x01000000), (0x11, 0x01000000),
   (0x12, 0x01000000)]

end Sys2Proof.Config
end

