-- ==== Sys2Proof/Machine/State.lean ====
section
/-! DEFINITION. The state of one BX25 module, as plain data, and its value at reset. Each structure holds what one
chapter of the spec gives the machine; a default value is the value at reset. Scalar dictionary entries that hold a
value of their own live in `State.dict` under the key index × 256 + sub-index (17_object_dictionary.md R455). -/

namespace Sys2Proof.Machine

/-- Why a step stops. -/
inductive Fault where
  /-- A command names a core, slot, die, port, ring, entry or instance index that the module does not have. Raised by the
  meanings of the commands that act on a numbered unit; safe: the hardware has no such unit to command. -/
  | noSuchUnit (n : Nat)
  deriving DecidableEq, Repr

/-- Why a step refuses a command. -/
inductive Refusal where
  /-- The command has no meaning in the model yet. Raised by the arms of `exec` alone; safe. -/
  | notModelled (mnemonic : String)
  deriving DecidableEq, Repr

/-! ## Cores (03_cores_and_slates.md) -/

/-- A slate slot's tag, filling flag and owner (R78, R80). -/
structure Slot where
  tag : Tag := .empty
  filling : Bool := false
  owner : Nat := 0x3FFF
  deriving DecidableEq, Repr

/-- What a blocked sequencer or engine waits for (R90, R94). -/
inductive Wait where
  | none
  /-- A counter threshold; TAKE subtracts it (R83). -/
  | counter (n : Nat) (threshold : Word32) (take : Bool)
  /-- A slot that has to become `FULL` or `POISON`. -/
  | slotFull (s : Nat)
  /-- A slot that has to become `EMPTY`. -/
  | slotEmpty (s : Nat)
  /-- Room in the queue of an engine for a stalled CMD (R85). -/
  | queue (e : Engine) (cmd : EngineCmd)
  /-- The engines of a SYNC mask to drain (R88). -/
  | sync (mask : Nat)
  /-- A REL whose slots are in a fill (R78). -/
  | rel (first n : Nat)
  /-- A MARK whose slot is in a fill (R78). -/
  | mark (s owner : Nat)
  deriving DecidableEq, Repr

/-- A load command whose slots are not all committed (R88). -/
structure LoadJob where
  cmdNo : Nat
  cmd : EngineCmd
  /-- Slots issued and not yet committed, and slots of the command not yet issued, by their index i. -/
  left : List Nat
  todo : List Nat := []
  deriving DecidableEq, Repr

/-- A store command with beats not yet acknowledged (R82, R88). -/
structure StoreJob where
  cmdNo : Nat
  cmd : EngineCmd
  /-- Slots not yet sent, by their index i. -/
  todo : List Nat
  /-- A lost target flags the acknowledgement (16 R443). -/
  flagged : Bool
  deriving DecidableEq, Repr

/-- The kernel a core runs (08_roster.md R228). -/
structure Running where
  inst : Nat
  kernelId : Nat
  layer : Nat
  micro : Bool
  deriving DecidableEq, Repr

/-- An accumulator (05 R127): the blocks of products summed so far, of which its value is a function, and the owners of the data
and of the poison that the commands brought (R80). -/
structure AccVal where
  blocks : List ProdBlock := []
  owners : List Nat := []
  poison : List Nat := []
  deriving DecidableEq, Repr

/-- One core (R69, R97). -/
structure CoreSt where
  g : Vector Word64 16 := Vector.replicate 16 0
  pc : Word64 := 0
  /-- Vector registers: key register × 32 + lane (R69). No rule reads or writes one by itself; what they hold is seen by no
  command. -/
  vregs : Sparse Word32 := []
  slate : List Host.Cell := []
  slots : Sparse Slot := []
  arrival : Sparse Word32 := []
  arrivalPoison : Word64 := 0
  loadQ : List EngineCmd := []
  mathQ : List EngineCmd := []
  storeQ : List EngineCmd := []
  loads : List LoadJob := []
  stores : List StoreJob := []
  nextCmd : Nat := 0
  /-- Beats of a slot that have arrived from another module: command, slot, beats (R88). -/
  arrived : List (Nat × Nat × List Beat) := []
  seqWait : Wait := .none
  loadWait : Wait := .none
  mathWait : Wait := .none
  storeWait : Wait := .none
  run : Bool := false
  fenced : Bool := false
  release : Bool := false
  /-- A core reset waits until RELEASE reads 0 (15_bringup_reset.md R432). -/
  resetAfter : Bool := false
  switchClear : Bool := false
  inst : Nat := 0
  instValid : Bool := false
  epoch : Nat := 0
  seqRunning : Bool := false
  waitLimit : Nat := 0xFFFF
  faultCause : Nat := 0
  faultOwner : Nat := 0x3FFF
  faultSlot : Nat := 0
  staleCount : Nat := 0
  conflict : Sparse Nat := []
  conflictEnable : Bool := true
  portMask : Nat := 0xFF
  /-- Owners already reported by 0x1303 in this dispatch (R81). -/
  reported : List Nat := []
  /-- Math configuration entries, 24 bytes each (R86). -/
  mathCfg : Sparse Bytes := []
  kernel : Option Running := none
  /-- The next dispatched kernel (08 R228). -/
  next : Option DispatchRec := none
  /-- Accumulator file, key row × 64 + column: what a HOLD command left to be continued (05 R127, R141). -/
  acc : Sparse AccVal := []
  deriving DecidableEq, Repr

/-! ## Memory tiers and page keepers (06_memory_tiers.md) -/

/-- A page's state (R167). -/
inductive PageState where
  | free | owned | sealed | reclaim
  deriving DecidableEq, Repr

/-- A page's tier (R167): 0 HBM, 1 Library, 2 host; 3 none. -/
inductive Tier where
  | hbm | library | host | none
  deriving DecidableEq, Repr

/-- A page descriptor (R167), with the pins each step holds on it and who pays for its HBM copy (R174). -/
structure PageDesc where
  state : PageState := .free
  tier : Tier := .none
  hbmCopy : Bool := false
  migrating : Bool := false
  sealPending : Bool := false
  pinSat : Bool := false
  poisoned : Bool := false
  growth : Bool := false
  cls : Nat := 0
  inst : Nat := 0
  holder : Nat := 0x3FFF
  prevHolder : Nat := 0x3FFF
  refs : Nat := 0
  pins : Nat := 0
  frame : Nat := 0
  copyFrame : Nat := 0
  /-- The HBM copy is charged to the growth pool (R174). -/
  copyGrowth : Bool := false
  /-- The page counts in pool 0. -/
  reserve : Bool := false
  deriving DecidableEq, Repr

/-- When a frame in flight returns to its keeper (R171, R178). -/
inductive ReturnAt where
  /-- At the instance's next committing step end. -/
  | stepEnd (inst : Nat)
  /-- When the migration of this page ends. -/
  | move (page : Nat)
  /-- 1 ms after the switch. -/
  | timer (due : Nat)
  deriving DecidableEq, Repr

/-- A frame that is neither free nor owned (R178). -/
structure FlightFrame where
  library : Bool
  frame : Nat
  until_ : ReturnAt
  page : Nat
  deriving DecidableEq, Repr

/-- A queued allocation (R175). -/
structure QueuedAlloc where
  pool : Nat
  inst : Nat
  holder : Nat
  cls : Nat
  requester : Nat
  /-- Step ends it has waited. -/
  age : Nat := 0
  deriving DecidableEq, Repr

/-- A quota book (R174, R178), in pages; free quota is what is left of `quota`. -/
structure Pool where
  quota : Nat := 0
  used : Nat := 0
  transit : Nat := 0
  deriving DecidableEq, Repr

/-- A frame book of one keeper and tier (R178). -/
structure FrameBook where
  free : Nat
  owned : Nat := 0
  flight : Nat := 0
  total : Nat
  deriving DecidableEq, Repr

/-- A move in flight (R171). -/
structure MoveJob where
  page : Nat
  target : Tier
  frame : Nat
  copy : Bool
  /-- A promotion for a privileged write or an UNSEAL: the page becomes `OWNED` at the switch (R154). -/
  promote : Bool := false
  /-- The page is restored from its package, with these bytes (11_weights.md R326). -/
  restore : Bool := false
  data : Bytes := []
  /-- The HBM frame stays as the page's copy (11_weights.md R322). -/
  keep : Bool := false
  deriving DecidableEq, Repr

/-- A privileged write that waits for the promotion of its page (R154). -/
structure WaitingWrite where
  page : Nat
  offset : Nat
  bytes : Bytes
  deriving DecidableEq, Repr

/-- An open binding claim on growth quota (R177). -/
structure Claim where
  inst : Nat
  /-- Pages wanted and pages collected. -/
  want : Nat
  got : Nat
  since : Nat
  deriving DecidableEq, Repr

/-- The page keepers, migration engines and the module range (R148 to R182). -/
structure MemSt where
  /-- Bytes of the paged range, keyed by module-range offset; an unlisted byte reads 0 (log entry 6). -/
  bytes : List Host.Cell := []
  /-- Side-band poison: beat number (offset div 64) to its owner (R155). -/
  poison : Sparse Nat := []
  pages : Sparse PageDesc := []
  pools : Sparse Pool := []
  /-- Frame books of M0 to M3: HBM, then Library (R178). -/
  books : List FrameBook := (List.replicate 4 ⟨3145728, 0, 0, 3145728⟩) ++ (List.replicate 4 ⟨12582912, 0, 0, 12582912⟩)
  inflight : List FlightFrame := []
  queued : List QueuedAlloc := []
  /-- Pool to the M die named last for a requester off the M dies (R175). -/
  lastGrant : Sparse Nat := []
  claim : Option Claim := none
  moves : List MoveJob := []
  waitingWrites : List WaitingWrite := []
  /-- Failed granules (page, granule) and suspect frames (R165, R166). -/
  failedGranules : List (Nat × Nat) := []
  suspect : List (Bool × Nat) := []
  /-- Late KV granules whose load is still to be served: page, granule, owner (R165). -/
  late : List (Nat × Nat × Nat) := []
  /-- Retired frames (tier, frame, channel blamed), retired channels, groups in drain (R158, R446). -/
  retired : List (Bool × Nat × Nat) := []
  retiredHbm : List Nat := []
  retiredLib : List Nat := []
  draining : List (Bool × Nat) := []
  /-- Ways held by one owner: (way, index) (R164). -/
  ways : List (Nat × Nat) := []
  /-- A keeper's last answer: result code and page (R168). -/
  answer : Nat := 0
  answerPage : Nat := 0
  deriving DecidableEq, Repr

/-! ## One model: binding, KV cache, Roster, requests, weights, lockstep -/

/-- Binding state of an index (02_syllabus.md R55). -/
inductive BindState where
  | free | binding | bound | serving | dismissing
  deriving DecidableEq, Repr

/-- A tensor record of a Syllabus (R36). -/
structure TensorRec where
  id : Nat
  cls : Nat
  elemFmt : Nat
  scaleFmt : Nat
  block : Nat
  rank : Nat
  redAxis : Nat
  hint : Nat
  shardAxis : Nat
  side : Nat
  flags : Nat
  scale : Nat
  dims : List Nat
  source : Nat
  extra : Nat
  deriving DecidableEq, Repr

/-- A kernel record of a Syllabus (R38); its KERNEL_ID is its index in the table. -/
structure KernelRec where
  id : Nat
  kind : Nat
  variant : Nat
  layer : Nat
  inputs : List Nat
  outputs : List Nat
  accMode : Nat := 0
  run : Nat := 0
  promote : Nat := 0
  round : Nat := 0
  sentinelK : Nat := 0
  outFmt : Nat := 0
  roundKey : Nat := 0
  params : Bytes := []
  deriving DecidableEq, Repr

/-- A template record (R45): TKIND, its run of kernels, PREFILL_BOUND, LAYERS. -/
structure TemplateRec where
  kind : Nat
  first : Nat
  count : Nat
  bound : Nat
  layers : Nat
  deriving DecidableEq, Repr

/-- The needs record (R46). -/
structure NeedsRec where
  weightBytes : Nat := 0
  workBytes : Nat := 0
  kvBytes : Nat := 0
  minCores : Nat := 0
  vocab : Nat := 1
  maxContext : Nat := 1
  tenants : Nat := 1
  lessonRank : Nat := 0
  deriving DecidableEq, Repr

/-- The program a binding holds (R33 to R47). -/
structure Program where
  version : Nat := 0
  syllabusId : Bytes := []
  features : Nat := 0
  tensors : List TensorRec := []
  kernels : List KernelRec := []
  templates : List TemplateRec := []
  needs : NeedsRec := {}
  micros : List Nat := []
  constants : Bytes := []
  deriving DecidableEq, Repr

/-- The placement request (19_host_interface.md R522). -/
structure Placement where
  modules : Nat := 1
  rank : Nat := 0
  policy : Nat := 0
  fullFallback : Bool := false
  weight : Nat := 1
  maxSeq : Nat := 0
  minSeq : Nat := 0
  minContext : Nat := 0
  maxPeriod : Nat := 0
  packageId : Bytes := List.replicate 16 0
  shardUnit : Nat := 1
  members : List Nat := []
  groups : List (List Nat) := []
  shards : List (Nat × List Nat) := []
  deriving DecidableEq, Repr

/-- The command a binding serves (R52, R68). -/
structure BindJob where
  syllabus : Option Bytes
  placement : Option Bytes
  reportAddr : Nat
  ref : CmdRef
  deriving DecidableEq, Repr

/-- Binding of one index (R52 to R68). -/
structure BindSt where
  state : BindState := .free
  job : Option BindJob := none
  program : Program := {}
  place : Placement := {}
  /-- Tier of each placed tensor: tensor id, tier (R58). -/
  tiers : List (Nat × Tier) := []
  /-- Where each placed tensor lies: tensor, first page number, pages (11_weights.md R315). -/
  runs : List (Nat × Nat × Nat) := []
  hbmPages : Nat := 0
  storedBytes : Nat := 0
  timer : Option Nat := none
  restarted : Bool := false
  recomputing : Bool := false
  /-- The checks are passed and the claim is met (R55). -/
  claimed : Bool := false
  deriving DecidableEq, Repr

/-- A staging slot of one cache (R191): two buffers, group g in buffer g mod 2. -/
structure Staging where
  /-- Position in the group to its LW then RW values, FP16 codes. -/
  buf0 : Sparse (List Nat) := []
  buf1 : Sparse (List Nat) := []
  /-- The `UNPAGED` group and its codes in the page layout. -/
  unpaged : Option Nat := none
  codes : Bytes := []
  /-- The next position to be appended in this step. -/
  next : Nat := 0
  /-- Owner of the poison in each buffer. -/
  poison0 : Option Nat := none
  poison1 : Option Nat := none
  deriving DecidableEq, Repr

/-- A map entry (R188). -/
structure MapEntry where
  page : Nat := 0xFFFFFFFF
  score : Nat := 0
  mass : Nat := 0
  evicted : Bool := false
  released : Bool := false
  deriving DecidableEq, Repr

/-- A layer group of the bound program's KV cache (R185), with the layers and head groups that this module holds (R548). -/
structure LayerGroup where
  variant : Nat
  window : Nat
  /-- Plane widths and element formats: values, keys. -/
  lw : Nat
  rw : Nat
  vFmt : Nat
  kFmt : Nat
  /-- Distinct LAYER values, ascending; head groups; MAX_CONTEXT; anchors per sequence. -/
  layers : List Nat
  headGroups : Nat
  maxContext : Nat
  anchors : Nat := 0
  /-- First layer index and head group held here, and how many. -/
  layerLo : Nat := 0
  layerN : Nat := 0
  hgLo : Nat := 0
  hgN : Nat := 0
  deriving DecidableEq, Repr

/-- A page that the step-list builder has asked for (R188, R192, R194, 09 R238): 0 root page, 1 map page, 2 page of a chunk,
3 copy page, 4 private copy of `src`. -/
structure Want where
  entry : Nat
  kind : Nat
  /-- Layer group, map-page key, map-entry key or cache number, by kind. -/
  key : Nat
  src : Nat := 0
  deriving DecidableEq, Repr

/-- KV cache of one index (R183 to R208). -/
structure KvSt where
  groups : List LayerGroup := []
  /-- Keyed by the cache number of R191. -/
  staging : Sparse Staging := []
  /-- Group states keyed by cache number × 2^20 + group: 0 `EMPTY`, 1 `OPEN`, 2 `WRITTEN`, 3 `UNPAGED`, 4 `STORED`. -/
  states : Sparse Nat := []
  /-- Map entries keyed by (entry × 64 + layer group) × 2^24 + e. -/
  map : Sparse MapEntry := []
  /-- Map pages keyed by (entry × 16 + layer group) × 2^15 + number, the root page at number 2^14 (R188). -/
  mapPages : Sparse Nat := []
  /-- Copy page granted for a cache's chunk, keyed by cache number × 2^20 + first group of the chunk, and the page whose reference its copy still holds (R194, R242). -/
  copyPages : Sparse Nat := []
  copying : Sparse Nat := []
  /-- Pages granted for a chunk whose ring slot is still taken, by map entry key. -/
  chunkPages : Sparse Nat := []
  /-- Pages asked for and not yet granted. -/
  wants : List Want := []
  /-- Sequences pressed: their owed page is not granted. -/
  pressed : List Nat := []
  /-- Settings written, in force from the next committing step end (R207). -/
  waiting : Sparse Nat := []
  /-- Pages whose HBM copies a layer's prefetch started: (layer, page) (R205). -/
  prefetch : List (Nat × Nat) := []
  /-- Pages whose seal, issued when an owed page was granted, is issued again at the next committing step end (R195). -/
  reseal : List Nat := []
  deriving DecidableEq, Repr

/-- A row of the step list (08_roster.md R224, R225). -/
structure StepRow where
  entry : Nat
  /-- Prefill (true) or decode. -/
  prefill : Bool
  first : Nat
  count : Nat
  /-- The row draws a token. -/
  draws : Bool
  tokens : List Nat := []
  mask : Option Bytes := none
  poisoned : Bool := false
  deriving DecidableEq, Repr

/-- What a row drew (R248 to R251). -/
structure Drawn where
  entry : Nat
  token : Nat
  stop : Bool
  logprob : Nat
  truncated : Bool
  failed : Bool := false
  deriving DecidableEq, Repr

/-- The step in progress (R224 to R230). -/
structure StepSt where
  bell : Nat := 0
  number : Nat := 0
  template : Nat := 0xFFFF
  rows : List StepRow := []
  /-- 0 running, 1 round A sent, 2 committed, 3 voided; then round B is sent. -/
  phase : Nat := 0
  nextLayer : Nat := 0
  layers : Nat := 0
  void : Bool := false
  fence : Bool := false
  fencedDie : Nat := 0xFF
  drawn : List Drawn := []
  /-- Candidate lists and slice statistics by row (09_requests.md R246, R247). -/
  slices : List (Nat × List SliceResult) := []
  /-- Counter when phase 2 began; when this module sent its last digest. -/
  started : Nat := 0
  sentAt : Nat := 0
  /-- Recess cycles each die had counted when the step started (12_power_thermal.md R347). -/
  recessBase : Sparse Nat := []
  /-- REASONS bits 2, 4 and 6 of the step record (13_bell_timetable.md R380). -/
  slow : Bool := false
  unlocked : Bool := false
  lateKv : Bool := false
  /-- 0x1804 is logged for this step (R227). -/
  backlogLogged : Bool := false
  deriving DecidableEq, Repr

/-- A Roster command that waits for a step end (R215, R217). -/
structure RosterCmd where
  record : DigestRec
  /-- Where its result goes; none for a write of the interleave entry (R233). -/
  ref : Option CmdRef
  /-- It is in the round A digest of the step that ends. -/
  sent : Bool := false
  deriving DecidableEq, Repr

/-- A prefill candidate (R224): its chunk, and whether a module denied it. -/
structure Cand where
  entry : Nat
  seqId : Nat
  first : Nat
  count : Nat
  denied : Bool := false
  deriving DecidableEq, Repr

/-- Roster and steps of one index (R209 to R234, R549). -/
structure RosterSt where
  entries : Sparse RosterEntry := []
  committed : Nat := 0
  cmds : List RosterCmd := []
  backlog : List Nat := []
  step : Option StepSt := none
  /-- Candidates for the next step (R224). -/
  cand : List Cand := []
  digestsA : List Digest := []
  digestsB : List Digest := []
  crc : Nat := 0
  /-- Results of this module's commands that the step end posts: reference, code (R216). -/
  results : List (CmdRef × Nat) := []
  /-- Entries this module parked for PRESSURE and has not reported `READY` (R212). -/
  pressParked : List Nat := []
  /-- Entries parked at the last step end and the bits newly set (R225). -/
  notices : List (Nat × Nat) := []
  dismiss : Bool := false
  dismissReason : Nat := 0
  /-- Cause that led to the dismissal, 0 for a command (19 R523). -/
  dismissCause : Nat := 0
  vtime : Nat := 0
  /-- Owners a request-class cause ends at the step end: entry, cause (R213, 03 R81). -/
  faulted : List (Nat × Nat) := []
  /-- A compute die fenced since the last round A (R231, 16 R449). -/
  fencePending : Option Nat := none
  /-- Consecutive periods with an instance-class fault, and whether this one had it (16 R439). -/
  storm : Nat := 0
  stormed : Bool := false
  deriving DecidableEq, Repr

/-- A prefix node (09_requests.md R236); the default is a free record. -/
structure PrefixNode where
  /-- 0 free, 1 root, 2 node. -/
  kind : Nat := 0
  lesson : Nat := 0
  scope : Nat := 0
  parent : Nat := 0
  firstChild : Nat := 0
  nextSibling : Nat := 0
  depth : Nat := 0
  /-- Entries whose PREFIX_NODE is this node. -/
  hold : Nat := 0
  lastUse : Nat := 0
  tokens : List Nat := []
  /-- This module's page list: layer group × 2^24 + map entry index, page. -/
  pages : List (Nat × Nat) := []
  deriving DecidableEq, Repr

/-- A budget record (R258). -/
structure Budget where
  balance : Int := 0
  granted : Nat := 0
  consumed : Nat := 0
  refill : Nat := 0
  capacity : Nat := 0
  promptWeight : Nat := 0
  genWeight : Nat := 0
  flags : Nat := 0
  deriving DecidableEq, Repr

/-- A Lesson pack (R255): its page, its quarter of the page, and whether a step has started since it was loaded (R256). -/
structure Lesson where
  bytes : Bytes
  page : Nat
  slot : Nat
  usable : Bool := false
  deriving DecidableEq, Repr

/-- What the home module sent ahead of an ADMIT (R237, R245): tokens to match, bias list. -/
structure Incoming where
  seqId : Nat
  tokens : List Nat := []
  bias : Bytes := []
  deriving DecidableEq, Repr

/-- A pending prefix walk (R237). -/
structure Walk where
  entry : Nat
  tokens : List Nat
  found : Nat := 0xFFFFFFFF
  depth : Nat := 0
  walked : Bool := false
  deriving DecidableEq, Repr

/-- Requests of one index (R235 to R264). -/
structure ReqSt where
  nodes : Sparse PrefixNode := []
  incoming : List Incoming := []
  /-- Row data of a step that is not built here yet: message kind, entry, step number, bytes (R226, R246). -/
  early : List (Nat × Nat × Nat × Bytes) := []
  walks : List Walk := []
  bias : Sparse Bytes := []
  history : Sparse (List Nat) := []
  /-- Token records beyond PROD that a step end commits: (entry, ring, record) (R253). -/
  posted : List (Nat × Nat × Bytes) := []
  /-- BELL of the last record of each ring (R252). -/
  lastBell : Sparse Nat := []
  lessons : List (Nat × Lesson) := []
  /-- Lessons unloaded whose roots are pruned at the step end (R240). -/
  unloaded : List Nat := []
  budgets : Sparse Budget := []
  /-- The records as of the last final replica (R263). -/
  budgetsFinal : Sparse Budget := []
  wLast : Option Nat := none
  sets : List BudgetChange := []
  deriving DecidableEq, Repr

/-- Numeric telemetry of a layer (05_accumulation.md R146); FP64 codes for the ratios. -/
structure LayerTel where
  sampled : Nat := 0
  rhoMax : Nat := 0
  /-- FP64 code of the sum of ρ, and how many were added. -/
  rhoSum : Nat := 0
  rhoCount : Nat := 0
  codesDiffer : Nat := 0
  saturations : Nat := 0
  lostSpecials : Nat := 0
  invalidCodes : Nat := 0
  alignLosses : Nat := 0
  deriving DecidableEq, Repr

/-- A piece this module keeps (11_weights.md R315, R319). -/
structure PieceSt where
  piece : Nat
  tensor : Nat
  /-- 0 `MISSING`, 1 `RECEIVING`, 2 `CHECKED`, 3 `FAILED`. -/
  state : Nat := 0
  pass : Nat := 0
  bitmap : List Nat := []
  /-- The run of the piece: its first page number and its pages. -/
  firstPage : Nat := 0
  pages : Nat := 0
  library : Bool := false
  copy : Bool := false
  deriving DecidableEq, Repr

/-- The arrival book (16_faults_availability.md R451). -/
structure ArrivalBook where
  issued : Nat := 0
  entered : Nat := 0
  applied : Nat := 0
  discarded : Nat := 0
  exited : Nat := 0
  deriving DecidableEq, Repr

/-- Lockstep of one index (13_bell_timetable.md R379 to R382). -/
structure LockSt where
  leaveAt : Option Nat := none
  readies : List Nat := []
  resumeAt : Option Nat := none
  /-- The step at whose end BELL is cleared on every entry. -/
  clearAt : Option Nat := none
  histogram : List Nat := [0, 0, 0, 0, 0]
  lastRecord : Bytes := []
  deriving DecidableEq, Repr

/-- Everything one index n holds. -/
structure InstSt where
  /-- The epoch of the index, advanced at each release (03_cores_and_slates.md R92). -/
  epoch : Nat := 0
  bind : BindSt := {}
  kv : KvSt := {}
  roster : RosterSt := {}
  req : ReqSt := {}
  tel : Sparse LayerTel := []
  /-- Samples of the step in progress, not yet folded (R146). -/
  telNow : Sparse LayerTel := []
  /-- Sentinel override in force since the last step start (05 R147). -/
  sentinel : Nat := 0
  pieces : List PieceSt := []
  book : ArrivalBook := {}
  lock : LockSt := {}
  deriving DecidableEq, Repr

/-! ## Tolgil (10_tolgil_fabric.md) -/

/-- Hall pass book of one channel and pool of a port (R277 to R280). -/
structure PassBook where
  held : Nat
  inFlight : Nat := 0
  occupied : Nat := 0
  returns : Nat := 0
  deriving DecidableEq, Repr

/-- One Tolgil port (R289 to R295). -/
structure PortSt where
  /-- 0 down, 1 training, 2 up, 3 disabled. -/
  state : Nat := 0
  lanes : Nat := 0
  failedMask : Nat := 0
  retrains : Nat := 0
  counters : List Nat := [0, 0, 0, 0, 0, 0]
  txSeq : Nat := 0
  rxSeq : Nat := 0
  acked : Nat := 0
  replay : List Flit := []
  badRun : Nat := 0
  nakPending : Bool := false
  passes : Sparse PassBook := []
  partner : Option Nat := none
  partnerSerial : Nat := 0
  partnerIncarnation : Nat := 0
  partnerLive : Nat := 0
  lastHeartbeat : Nat := 0
  narrowing : Bool := false
  /-- Held down until the next wake or a change of index (R269, 16 R444). -/
  held : Bool := false
  /-- Packets that wait for hall passes, for a retrain or for room in the replay buffer (R278, R291, R294). -/
  waiting : List Packet := []
  deriving DecidableEq, Repr

/-- State of a node (R296). -/
inductive NodeState where
  | live | suspect | lost | unconfigured
  deriving DecidableEq, Repr

/-- A non-posted request that awaits its answer (R271, R298). -/
structure Outstanding where
  die : Nat
  tag : Nat
  node : Nat
  inst : Nat
  opcode : Nat
  /-- The core, command and slot that wait for it; core 19,200 stands for K0 and the X dies' own units,
  19,201 for an aperture read of `cmdNo` bytes from byte `slot` of its first beat. -/
  core : Nat := 19200
  cmdNo : Nat := 0
  slot : Nat := 0
  since : Nat := 0
  deriving DecidableEq, Repr

/-- The fabric (R265 to R303). -/
structure FabSt where
  ports : Sparse PortSt := []
  nodes : Sparse NodeState := []
  incarnations : Sparse Nat := []
  liveSince : Sparse Nat := []
  suspectSince : Sparse Nat := []
  heldRequests : List (Nat × Packet) := []
  /-- A raised supervisor timeout is not in force yet: the old one, and the indices whose cores still have their old LIMIT (R302). -/
  timeoutHold : Option (Nat × List Nat) := none
  outstanding : List Outstanding := []
  quarantined : List (Nat × Nat) := []
  badVias : List (Nat × Nat) := []
  /-- Streams draining: (origin die, destination node, channel), and their waiting packets with the origin die (R285). -/
  draining : List (Nat × Nat × Nat) := []
  drainQueue : List (Nat × Packet) := []
  /-- Path of each stream that has sent: (origin die, node, channel), port (R284). -/
  paths : List ((Nat × Nat × Nat) × Nat) := []
  mailbox : List Packet := []
  /-- Packets, and link entries, put on a port, oldest first: what the module has sent. -/
  sent : List (Nat × Packet) := []
  sentLinks : List (Nat × List LinkEntry) := []
  deriving DecidableEq, Repr

/-! ## Weights (11_weights.md) -/

/-- A key slot (R309). -/
structure KeySlot where
  keyId : Nat
  owner : Nat
  epoch : Nat
  key : Bytes
  usable : Bool
  deriving DecidableEq, Repr

/-- A registered package (R312); `reader` is the reader module's index, `members` the registered list on the reader. -/
structure Package where
  id : Bytes
  reader : Nat
  addr : Nat := 0
  len : Nat := 0
  header : Bytes := []
  table : List PieceEntry := []
  members : List Nat := []
  deriving DecidableEq, Repr

/-- A PKG_REGISTER whose members have not all answered: module, code (R312). -/
structure RegJob where
  id : Bytes
  members : List Nat
  answers : List (Nat × Nat) := []
  statusAddr : Nat
  ref : CmdRef
  deriving DecidableEq, Repr

/-- An INGEST this module reads for (R316, R323), or a restore, which has no command (R326). -/
structure IngestJob where
  ingestId : Nat
  package : Bytes
  /-- The group by rank, the reader first; the members that the command lists. -/
  members : List Nat
  listed : List Nat
  last : Nat
  fanout : Nat
  piece : Nat
  segment : Nat
  g : Nat := 0
  statusAddr : Nat
  ref : Option CmdRef
  retried : Bool := false
  ended : Bool := false
  statuses : List MemberStat := []
  deriving DecidableEq, Repr

/-- An INGEST this module takes part in (R316, R323, R324). -/
structure IngestMember where
  ingestId : Nat
  package : Bytes
  first : Nat
  last : Nat
  fanout : Nat
  members : List Nat
  /-- This module is on the command's list. -/
  listed : Bool
  ended : Bool := false
  lost : List Nat := []
  deriving DecidableEq, Repr

/-- A segment in a receive buffer (R318): the children it is still to be sent to, the indices that wait for staging frames. -/
structure HeldSegment where
  die : Nat
  desc : SegmentDesc
  cipher : Bytes
  tag : Bytes
  poisoned : Bool
  parent : Nat
  children : List Nat
  waits : List Nat := []
  deriving DecidableEq, Repr

/-- A page whose RESTORE is out (R326); `loaded` once its segment is verified. -/
structure RestoreJob where
  page : Nat
  inst : Nat
  piece : Nat
  segment : Nat
  since : Nat
  loaded : Bool := false
  deriving DecidableEq, Repr

/-- Weight ingest (R304 to R332). -/
structure WtSt where
  keys : Sparse (Option KeySlot) := []
  /-- Highest epoch accepted of each owner (R310), as the Transcript keeps it. -/
  ratchet : Sparse Nat := []
  packages : List Package := []
  regs : List RegJob := []
  /-- Package tables on their way in: reader, bytes so far (R312). -/
  parcels : List (Nat × Bytes) := []
  jobs : List IngestJob := []
  member : List IngestMember := []
  nextIngest : Nat := 0
  held : List HeldSegment := []
  /-- Credits held, keyed child × 4 + X die − 20 (log entry 8). -/
  credits : Sparse Nat := []
  restores : List RestoreJob := []
  deriving DecidableEq, Repr

/-! ## Power and thermal (12_power_thermal.md) -/

/-- A decided state save (R356). -/
structure SaveSt where
  cause : Nat
  fromBank : Bool
  bell : Nat
  deriving DecidableEq, Repr

/-- Power and thermal control (R333 to R364); mV, mA, mW, mJ, 1/16 °C. -/
structure PwrSt where
  switchClosed : Bool := false
  /-- Regulators off: dies 0 to 24, HBM sides 25 and 26, Library halves 27 and 28. -/
  regsOff : List Nat := []
  /-- Caps of the sag band and of the ramp governor (R338, R344, R355); the silence cap is in force (R360). -/
  capSag : Nat := 2000000
  governor : Nat := 2000000
  silent : Bool := false
  /-- The power duty, and its least value in the loop in progress; the input stayed above the target in it (R342, R344, R346). -/
  dutyP : Nat := 0
  dutyLeast : Nat := 0
  overLoop : Bool := true
  /-- Thermal duty by die (R352). -/
  dutyT : Sparse Nat := []
  throttleMem : Nat := 0
  throttleLink : Nat := 0
  /-- Throttle steps of a single die 0 to 24, or of stack s at 25 + s (R352). -/
  unitThrottle : Sparse Nat := []
  milliVolt : Nat := 0
  milliAmp : Nat := 0
  milliWatt : Nat := 0
  milliWatt1ms : Nat := 0
  setpoints : Sparse Nat := []
  /-- The die whose detector stretches the clock (R349). -/
  stretch : Option Nat := none
  recess : Sparse Nat := []
  ballast : Bool := false
  ballastShort : Bool := false
  sag : Bool := false
  temps : Sparse Int := []
  inlet : Nat := 0
  outlet : Nat := 0
  flow : Nat := 0
  save : Option SaveSt := none
  thermalHold : Bool := false
  /-- The hold came from a leak: Auto wake does not apply (20_physical.md R543). -/
  leakHold : Bool := false
  /-- The last 256 samples of input voltage, current and effective cap (R357). -/
  events : List (Nat × Nat × Nat) := []
  bankCharged : Bool := false
  bankTimedOut : Bool := false
  bankTest : Bool := false
  lastMgmt : Nat := 0
  /-- Energy drawn since wake, in units of 10 nJ. -/
  energy : Nat := 0
  deriving DecidableEq, Repr

/-! ## Bell (13_bell_timetable.md) -/

/-- The Bell unit's state (R370). -/
inductive BellState where
  | absent | acquiring | locked | holdover | freeRun | slewing
  deriving DecidableEq, Repr

/-- A Timetable entry (R373). -/
structure TtEntry where
  kind : Nat := 0
  inst : Nat := 0
  repeats : Nat := 0
  time : Nat := 0
  period : Nat := 0
  arg : Nat := 0
  /-- Reserved for the schedule of an index (R376). -/
  reserved : Bool := false
  /-- An emptying write waits for the occurrence within the guard. -/
  emptying : Bool := false
  deriving DecidableEq, Repr

/-- An open sweep of the Roll call (R384). -/
structure Sweep where
  bell : Nat
  close : Nat
  samples : List (Nat × Bytes) := []
  deriving DecidableEq, Repr

/-- Bell, Timetable, Roll call (R365 to R389). -/
structure BellSt where
  state : BellState := .absent
  counter : Nat := 0
  since : Nat := 0
  slewFrom : BellState := .absent
  lastCount : Option Nat := none
  lastAt : Nat := 0
  goodRun : Nat := 0
  badRun : Nat := 0
  slew : Int := 0
  discontinuity : Bool := false
  offsetPs : Int := 0
  table : Sparse TtEntry := []
  sweeps : List Sweep := []
  /-- This module's sample on its way: collector, close, bytes (R384). -/
  ownSample : Option (Nat × Nat × Bytes) := none
  /-- Samples that came before their sweep opened. -/
  heldSamples : List Bytes := []
  deriving DecidableEq, Repr

/-! ## Firmware (14_firmware.md) -/

/-- A component of the Proctor (R392). -/
structure CompSt where
  home : Nat := 0
  running : Bool := false
  inbox : List Bytes := []
  /-- Times of restarts, newest first. -/
  restarts : List Nat := []
  total : Nat := 0
  unstable : Bool := false
  handedAt : Option Nat := none
  restarting : Bool := false
  /-- It waits the second that R398 adds before its restart. -/
  delayed : Bool := false
  deriving DecidableEq, Repr

/-- A log record (R400). -/
structure LogRec where
  seq : Nat
  bell : Nat
  part : Nat
  level : Nat
  code : Nat
  args : List Nat
  deriving DecidableEq, Repr

/-- The parts of the factory image (R403; log entry 3). -/
def factoryParts : List PartRow :=
  Config.factoryVersions.map (fun v => { part := v.1, version := v.2, protoMin := if v.1 = 3 ∨ v.1 = 6 then 1 else 0, protoMax := if v.1 = 3 ∨ v.1 = 6 then 1 else 0 })

/-- A flash bank (R403): the factory's image, or bytes; none where it is empty. -/
structure Bank where
  bytes : Bytes := []
  factory : Bool := false
  deriving DecidableEq, Repr

/-- Firmware (R390 to R418). -/
structure FwSt where
  comps : Sparse CompSt := []
  blocked : List (Nat × Nat × Bytes) := []
  log : List LogRec := []
  logSeq : Nat := 0
  /-- Records not mirrored since the last one that was; records the kernel holds while the telemetry component restarts. -/
  logSkipped : Nat := 0
  logHeld : List LogRec := []
  traceNow : Nat := 0
  traceMs : Nat := 0
  traceGap : Bool := false
  trace : List Bytes := []
  banks : List Bank := [{ factory := true }, {}]
  active : Nat := 0
  /-- The parts that run (R413). -/
  parts : List PartRow := factoryParts
  /-- Bank state of `0x2500:03` (R404), and the offset of the next chunk. -/
  staged : Nat := 0
  stageNext : Nat := 0
  /-- The other bank holds the previous image (R411). -/
  revertible : Bool := false
  termId : Nat := 0
  /-- Parts still to hand over, in order; rows of the parts that were replaced, newest first (R406, R410). -/
  todo : List Nat := []
  changed : List PartRow := []
  /-- The next part waits in the successor area; a point fired before it did: its answer and its freeze (R407). -/
  loaded : Bool := false
  late : Option (Bool × Nat) := none
  /-- A rollback runs; its hand-back was rejected and is tried again (R410). -/
  back : Bool := false
  backHeld : Bool := false
  granted : Nat := 0
  negotiated : Bool := false
  hostMinor : Nat := 0
  grantFn : Nat := 0
  /-- Combinations that 0x1E06 was logged for (R413). -/
  warned : List Nat := []
  debugOpen : Bool := false
  deriving DecidableEq, Repr

/-! ## Wake and reset (15_bringup_reset.md) -/

/-- What STATUS_N shows (R420). -/
inductive StatusPin where
  | low | released | coded (code : Nat)
  deriving DecidableEq, Repr

/-- Wake and reset (R419 to R434). -/
structure WakeSt where
  running : Bool := false
  started : Nat := 0
  faults : List Nat := []
  diesUp : Nat := 0
  stacksUp : Nat := 0
  kind : Nat := 0
  fallbackClock : Bool := false
  retryPending : Bool := false
  pin : StatusPin := .low
  perst : Bool := true
  held : List FaultRecord := []
  deriving DecidableEq, Repr

/-! ## Faults and availability (16_faults_availability.md) -/

/-- Fault records, sparing and books (R435 to R454). -/
structure FltSt where
  seq : Nat := 0
  byClass : List Nat := [0, 0, 0, 0, 0, 0]
  lifeByClass : List Nat := [0, 0, 0, 0, 0, 0]
  last : Option FaultRecord := none
  fenced : Nat := 0
  routersLost : Nat := 0
  /-- Spare maps, keyed die × 48 + tile: good mask and position the spare serves (17 R465). -/
  spares : Sparse (Nat × Nat) := []
  failedLanes : Nat := 0
  /-- Errors counted for sparing: (unit key, cause, time) (R444). -/
  windows : List (Nat × Nat × Nat) := []
  /-- Hour in which a corrected cause of a unit was last journalled: (unit key, cause, hour) (R437). -/
  hours : List (Nat × Nat × Nat) := []
  toSpare : List Nat := []
  toRetire : List (Bool × Nat) := []
  saveDie : Nat := 16
  copying : Bool := false
  /-- Poison-read records of the steps in progress, one per index and owner, merged until the step ends (03 R81). -/
  merging : List FaultRecord := []
  /-- Last time a rate-limited cause was logged: cause and key to time. -/
  lastLogged : Sparse Nat := []
  deriving DecidableEq, Repr

/-! ## Management (17_object_dictionary.md) -/

/-- A bus request in the service queue (R470), with the answers given so far. -/
structure MgmtReq where
  path : Path
  source : Nat
  port : Nat
  reqId : Nat
  stop : Bool
  tagged : Bool
  seq : Nat
  ops : List DictOp
  answers : List DictAnswer := []
  /-- The microsecond in which it arrived. -/
  since : Nat := 0
  deriving DecidableEq, Repr

/-- A cached response (R471). -/
structure Cached where
  source : Nat
  port : Nat
  reqId : Nat
  bytes : Bytes
  deriving DecidableEq, Repr

/-- A datagram the module puts on the bus: UDP to an address and port, or ICMPv6 where the port is 0. -/
structure Datagram where
  dest : Nat
  port : Nat
  bytes : Bytes
  deriving DecidableEq, Repr

/-- The dictionary service and the bus (R455 to R483). -/
structure MgmtSt where
  gens : Sparse Nat := []
  queue : List MgmtReq := []
  cache : List Cached := []
  /-- Staging of WRITE_PART: (source, entry, bytes). -/
  parts : List (Nat × Nat × Bytes) := []
  /-- Authenticated sources, most recent first: (address, sequence). -/
  sources : List (Nat × Nat) := []
  dropped : Nat := 0
  noticeSeq : Nat := 0
  noticeNow : Nat := 0
  noticeSecond : Nat := 0
  key : Option Bytes := none
  stopped : Bool := false
  lastManager : Nat := 0
  /-- The last operation's answer (the model's own view of it). -/
  answer : Option DictAnswer := none
  sent : List Datagram := []
  deriving DecidableEq, Repr

/-! ## Transcript (18_transcript.md) -/

/-- A journal record (R485). -/
structure JRec where
  kind : Nat
  flags : Nat := 0
  seq : Nat
  key : Nat
  body : Bytes
  deriving DecidableEq, Repr

/-- A record at its offset in one copy; `whole` is false for torn or decayed bytes (R486). -/
structure JSlot where
  off : Nat
  record : JRec
  whole : Bool := true
  deriving DecidableEq, Repr

/-- An anchor (R489). -/
structure Anchor where
  segment : Nat
  seq : Nat
  firstSeq : Nat
  ckptLen : Nat
  ckptCrc : Nat := 0
  seqFloor : Nat
  whole : Bool := true
  deriving DecidableEq, Repr

/-- A submission to the journal service (R490, R492). -/
structure JSub where
  kind : Nat
  key : Nat
  body : Bytes
  replayed : Bool := false
  deriving DecidableEq, Repr

/-- A save image in the save region (12_power_thermal.md R357, 18 R494); `whole` is false where the save was cut. -/
structure SaveImage where
  bell : Nat
  cause : Nat
  /-- The header, the power event record, and the other parts before the pending records. -/
  header : Bytes
  power : Bytes
  parts : Bytes
  pending : List JSub
  whole : Bool
  deriving DecidableEq, Repr

/-- What the wear record of a unit holds (R500); `heq` is the FP64 code of the equivalent hours. -/
structure WearSt where
  hours : Nat := 0
  heq : Nat := 0
  hot : Nat := 0
  aging : Nat := 0
  droop : Nat := 0
  deriving DecidableEq, Repr

/-- The Transcript in MRAM and the journal service (R484 to R502). -/
structure TrSt where
  anchors : List (Option Anchor) := [none, none]
  /-- Copy A and copy B of segments 0 and 1. -/
  copyA : List (List JSlot) := [[], []]
  copyB : List (List JSlot) := [[], []]
  image : Option SaveImage := none
  queue : List JSub := []
  nextSeq : Nat := 1
  segment : Nat := 0
  fill : Nat := 0
  /-- The journal service runs: repaired at W5 (R496). -/
  up : Bool := false
  /-- Compaction in progress: C, records still to copy, bytes written into the other segment. -/
  compact : Option (Nat × List JRec × Nat) := none
  /-- Wear by unit: die 0 to 24, stack s at 32 + s. -/
  wear : Sparse WearSt := []
  deriving DecidableEq, Repr

/-! ## Host interface (19_host_interface.md) -/

/-- A ring context (R510) with the module's own marks on the ring. -/
structure Ring where
  base : Nat := 0
  shadow : Nat := 0
  kind : Nat := 0
  sizeLog2 : Nat := 0
  link : Nat := 0
  enable : Bool := false
  irq : Bool := false
  vector : Nat := 0
  cq : Nat := 0
  prod : Nat := 0
  cons : Nat := 0
  coalCount : Nat := 0
  coalTime : Nat := 0
  overflow : Bool := false
  error : Bool := false
  dropped : Nat := 0
  unsignalled : Nat := 0
  gap : Bool := false
  /-- Commands in flight that will complete on this ring (R513). -/
  inFlight : Nat := 0
  /-- Assigned to a sequence: index × 2^16 + entry (R516). -/
  assigned : Option Nat := none
  deriving DecidableEq, Repr

/-- A host function, X0 or X1 (R503 to R508, R525, R527). -/
structure FnSt where
  up : Bool := false
  errRing : Nat := 0
  errReason : Nat := 0
  errValid : Bool := false
  apertureBase : Nat := 0
  mirrorBusy : Bool := false
  mirrorOverrun : Bool := false
  respLen : Nat := 0
  respReady : Bool := false
  vector : Nat := 0
  vectorIrq : Bool := false
  request : Bytes := []
  response : Bytes := []
  /-- MSI-X table: vector × 4 + word, read as masked where unlisted (log entry 4); pending vectors. -/
  msix : Sparse Nat := []
  pendingBits : List Nat := []
  /-- SPDM connection: 0 none, 1 version, 2 capabilities, 3 algorithms, 4 key exchanged; version in use, generation of the
  session's keys. -/
  spdm : Nat := 0
  spdmVersion : Nat := 0x10
  session : Bool := false
  keyGen : Nat := 0
  /-- Keys of the IDE stream, and whether the stream is secure; keys without a secure stream are a stream that failed. -/
  ideKeys : Option Bytes := none
  ideSecure : Bool := false
  /-- The link went down and carries the event ring: its HOST_LINK event is written after it returns (R523). -/
  downOwed : Bool := false
  /-- The last answer of the function's session or DOE mailbox. -/
  answer : Bytes := []
  deriving DecidableEq, Repr

/-- The host interface (R503 to R530). -/
structure HostSt where
  rings : Sparse Ring := []
  fns : Sparse FnSt := []
  /-- Host memory as the module has written it; unlisted bytes are not the module's (log entry 2). -/
  image : List Host.Cell := []
  /-- Completions held for a link that is down: (ring, record) (R529). -/
  heldDone : List (Nat × Bytes) := []
  signals : List (Nat × Nat) := []
  eventSeq : Nat := 0
  /-- Bytes of the last answer to the host: a completion record, or what an aperture read returned with EP by beat. -/
  answer : Bytes := []
  answerEp : List Bool := []
  deriving DecidableEq, Repr

/-! ## Module and pins (20_physical.md) -/

/-- Mate loop, leak sensor, JTAG (R533 to R543). -/
structure PhysSt where
  mated : Bool := false
  /-- Leak sensor: 0 dry, 1 wet, 2 open; the hour in which 0x2403 was raised last (R543). -/
  leak : Nat := 0
  leakHour : Option Nat := none
  /-- Instruction in force: 0 `BYPASS`, 1 `IDCODE`, above 1 the boundary-scan ones; IDCODE after reset (log entry 9). -/
  jtagIr : Nat := 1
  cells : List Bool := []
  tdo : List Bool := []
  deriving DecidableEq, Repr

/-- The whole module. -/
structure State where
  /-- Scalar dictionary entries that differ from their default: index × 256 + sub to value. -/
  dict : Sparse Nat := []
  /-- BLOB entries that hold bytes of their own, by the same key. -/
  blobs : Sparse Bytes := []
  /-- Library fitted: -L3 (00_scope.md R2, R3; log entry 3). -/
  library : Bool := true
  /-- Landing packets sent on the Corridor and not yet landed (01 R20, 03 R93). -/
  corridor : List LandingPkt := []
  cores : Sparse CoreSt := []
  /-- Dispatch records sent to tiles and cores yet to accept: (die × 48 + tile, record) (R228). -/
  tiles : List (Nat × DispatchRec) := []
  mem : MemSt := {}
  insts : Sparse InstSt := []
  /-- Binder queue: indices in order of arrival (R52). -/
  binder : List Nat := []
  /-- Index of the last dispatched layer (R229). -/
  lastInst : Option Nat := none
  fab : FabSt := {}
  wt : WtSt := {}
  pwr : PwrSt := {}
  bell : BellSt := {}
  fw : FwSt := {}
  wake : WakeSt := {}
  flt : FltSt := {}
  mgmt : MgmtSt := {}
  tr : TrSt := {}
  host : HostSt := {}
  phys : PhysSt := {}
  /-- The model's own counter that keys the free values (log entry 10). -/
  free : Nat := 0
  /-- Commands waiting, first in first out. -/
  pending : List Instr := []
  deriving DecidableEq, Repr

/-- The module before its first input comes into range: unpowered, factory-fresh (log entry 3). -/
def State.reset : State := {}

end Sys2Proof.Machine
end

