-- ==== Sys2Proof/Machine/Ops.lean ====
section
/-! DEFINITION. The named operations over the state: sparse tables, byte strings, memory, dictionary values, the parts of
the state that a number selects. Everything else in Machine/ is written over these. -/

namespace Sys2Proof.Machine

/-! ## Sparse tables: keys rising, no entry equal to the default -/

/-- The value at key `k`, `d` where none is listed. -/
def sget {α : Type} (d : α) : Sparse α → Nat → α
  | [], _ => d
  | (j, v) :: r, k => if j = k then v else sget d r k

/-- Put `v` at key `k`, at its place in the order. -/
def sins {α : Type} : Sparse α → Nat → α → Sparse α
  | [], k, v => [(k, v)]
  | (j, w) :: r, k, v =>
    if k < j then (k, v) :: (j, w) :: r
    else if k = j then (k, v) :: r
    else (j, w) :: sins r k v

/-- Drop every entry of key `k`. -/
def serase {α : Type} (m : Sparse α) (k : Nat) : Sparse α := m.filter (fun e => e.1 != k)

/-- Set key `k`; setting the default removes the entry, so that equal tables are equal data. -/
def sset {α : Type} [DecidableEq α] (d : α) (m : Sparse α) (k : Nat) (v : α) : Sparse α :=
  if v = d then serase m k else sins m k v

/-- Change the value at key `k`. -/
def supd {α : Type} [DecidableEq α] (d : α) (m : Sparse α) (k : Nat) (f : α → α) : Sparse α :=
  sset d m k (f (sget d m k))

/-- Change every listed value; one that becomes the default is dropped. -/
def smap {α : Type} [DecidableEq α] (d : α) (f : Nat → α → α) (m : Sparse α) : Sparse α :=
  (m.map (fun (e : Nat × α) => (e.1, f e.1 e.2))).filter (fun (e : Nat × α) => decide (e.2 ≠ d))

/-- Keys strictly rising. -/
def rising {α : Type} : Sparse α → Bool
  | [] => true
  | [_] => true
  | a :: b :: r => decide (a.1 < b.1) && rising (b :: r)

/-- The canonical form: keys strictly rising, no entry equal to the default. -/
def Sparse.wf {α : Type} [DecidableEq α] (d : α) (m : Sparse α) : Bool :=
  rising m && m.all (fun e => decide (e.2 ≠ d))

/-! ## Numbers and bytes, little-endian (00_scope.md R12) -/

/-- Bits `hi` to `lo` of `x`. -/
def bits (x hi lo : Nat) : Nat := (x / 2 ^ lo) % 2 ^ (hi + 1 - lo)

/-- Bit `k` of `x`. -/
def bit (x k : Nat) : Bool := x.testBit k

/-- `x` with bit `k` set to `b`. -/
def setBit (x k : Nat) (b : Bool) : Nat :=
  if x.testBit k = b then x else if b then x + 2 ^ k else x - 2 ^ k

/-- How many of the first `w` bits are set. -/
def popCount (x w : Nat) : Nat := ((List.range w).filter (x.testBit ·)).length

/-- The mask of a list of bit numbers. -/
def maskOf (l : List Nat) : Nat := l.foldl (fun m k => setBit m k true) 0

/-- A bit as a number. -/
def bitOf (b : Bool) : Nat := if b then 1 else 0

/-- `n` bytes of `x`, lowest first. -/
def le : Nat → Nat → Bytes
  | 0, _ => []
  | n + 1, x => BitVec.ofNat 8 x :: le n (x / 256)

/-- The number a byte string spells, lowest byte first. -/
def unle : Bytes → Nat
  | [] => 0
  | b :: r => b.toNat + 256 * unle r

/-- `n` zero bytes. -/
def zeros (n : Nat) : Bytes := List.replicate n 0#8

/-- The first `n` bytes, padded with zeros. -/
def padTo (n : Nat) (b : Bytes) : Bytes := b.take n ++ zeros (n - b.length)

/-- The number in `len` bytes at offset `off`. -/
def field (b : Bytes) (off len : Nat) : Nat := unle ((b.drop off).take len)

/-- `len` bytes at offset `off`. -/
def slice (b : Bytes) (off len : Nat) : Bytes := (b.drop off).take len

/-- Two's complement reading of the low `w` bits. -/
def toInt (w x : Nat) : Int := if x % 2 ^ w < 2 ^ (w - 1) then ((x % 2 ^ w : Nat) : Int) else ((x % 2 ^ w : Nat) : Int) - 2 ^ w

/-- Two's complement code of `w` bits. -/
def ofInt (w : Nat) (x : Int) : Nat := (x % (2 ^ w : Nat)).toNat

/-- The bytes of a list of U64. -/
def le64s (l : List Nat) : Bytes := l.flatMap (le 8)

/-- Round `x` up to a multiple of `m`. -/
def roundUp (m x : Nat) : Nat := (x + m - 1) / m * m

/-- One bit of CRC-32C, reflected polynomial 0x82F63B78. -/
def crcBit (c : BitVec 32) : BitVec 32 := if c.getLsbD 0 then (c >>> 1) ^^^ 0x82F63B78#32 else c >>> 1

/-- One byte of CRC-32C. -/
def crcByte (c : BitVec 32) (b : Byte) : BitVec 32 :=
  crcBit (crcBit (crcBit (crcBit (crcBit (crcBit (crcBit (crcBit (c ^^^ b.setWidth 32))))))))

/-- CRC-32C of a byte string (initial value and final inversion all ones). -/
def crc32c (b : Bytes) : Nat := (~~~ (b.foldl crcByte 0xFFFFFFFF#32)).toNat

/-- The last element that satisfies nothing more: element `i` of a list, or `d`. -/
def nth {α : Type} (l : List α) (i : Nat) (d : α) : α := l.getD i d

/-- Remove the first element that satisfies `p`. -/
def dropFirst {α : Type} (p : α → Bool) : List α → List α
  | [] => []
  | a :: r => if p a then r else a :: dropFirst p r

/-- Change the elements that satisfy `p`. -/
def mapIf {α : Type} (p : α → Bool) (f : α → α) (l : List α) : List α := l.map (fun a => if p a then f a else a)

/-- Put `x` before the first element that it may precede. -/
def insertBy {α : Type} (le : α → α → Bool) (x : α) : List α → List α
  | [] => [x]
  | y :: r => if le x y then x :: y :: r else y :: insertBy le x r

/-- Sort by `le`; equal elements keep their order. -/
def sortBy {α : Type} (le : α → α → Bool) (l : List α) : List α := l.foldr (insertBy le) []

/-- Add `x` at the end unless it is there. -/
def addOnce {α : Type} [DecidableEq α] (l : List α) (x : α) : List α := if x ∈ l then l else l ++ [x]

/-! ## Memory: a sparse table of bytes, an unlisted byte reads 0 (log entry 6) -/

/-- The byte at an address. -/
def byteAt (m : List Host.Cell) (a : Nat) : Byte := sget 0#8 m a

/-- Store one byte; storing 0 removes the entry. -/
def putByte (m : List Host.Cell) (a : Nat) (b : Byte) : List Host.Cell := sset 0#8 m a b

/-- Store bytes at rising addresses. -/
def putBytes : List Host.Cell → Nat → Bytes → List Host.Cell
  | m, _, [] => m
  | m, a, b :: r => putBytes (putByte m a b) (a + 1) r

/-- Read `n` bytes at rising addresses. -/
def getBytes (m : List Host.Cell) (a : Nat) : Nat → Bytes
  | 0 => []
  | n + 1 => byteAt m a :: getBytes m (a + 1) n

/-- The canonical form of a memory. -/
def Memory.wf (m : List Host.Cell) : Bool := Sparse.wf 0#8 m

/-- Drop every listed byte in `[a, a + n)`, so that they read 0. -/
def clearBytes (m : List Host.Cell) (a n : Nat) : List Host.Cell := m.filter (fun c => !(decide (a ≤ c.1) && decide (c.1 < a + n)))

/-! ## Times: the Bell counter ticks every 2.5 ns (13_bell_timetable.md R365) -/

def ticksPerUs : Nat := 400
def ticksPerMs : Nat := 400000
def ticksPerSec : Nat := 400000000
def ticksPerHour : Nat := 3600 * ticksPerSec
def ticksPerDay : Nat := 24 * ticksPerHour

/-! ## Numbers of the hardware -/

/-- Physical cores: 16 dies, 48 tiles, 25 positions (01 R17). -/
def numCores : Nat := 19200
def numInsts : Nat := 64
def numRings : Nat := 16384
def numPorts : Nat := 16
def numDies : Nat := 25
def numEntries : Nat := 12288
def dieK0 : Nat := 24

/-- The number of the core at a die, tile and physical position. -/
def coreNo (die tile phys : Nat) : Nat := die * 1200 + tile * 25 + phys
def coreDie (c : Nat) : Nat := c / 1200
def coreTile (c : Nat) : Nat := c % 1200 / 25
def corePhys (c : Nat) : Nat := c % 25

/-! ## Parts of the state -/

/-- Core number `c`. -/
def State.core (s : State) (c : Nat) : CoreSt := sget {} s.cores c

/-- Change core `c`. -/
def State.onCore (s : State) (c : Nat) (f : CoreSt → CoreSt) : State := { s with cores := supd {} s.cores c f }

/-- What index `n` holds. -/
def State.inst (s : State) (n : Nat) : InstSt := sget {} s.insts n

/-- Change what index `n` holds. -/
def State.onInst (s : State) (n : Nat) (f : InstSt → InstSt) : State := { s with insts := supd {} s.insts n f }

/-- Change the binding of index `n`. -/
def State.onBind (s : State) (n : Nat) (f : BindSt → BindSt) : State := s.onInst n (fun i => { i with bind := f i.bind })

/-- Change the Roster of index `n`. -/
def State.onRoster (s : State) (n : Nat) (f : RosterSt → RosterSt) : State := s.onInst n (fun i => { i with roster := f i.roster })

/-- Change the KV cache of index `n`. -/
def State.onKv (s : State) (n : Nat) (f : KvSt → KvSt) : State := s.onInst n (fun i => { i with kv := f i.kv })

/-- Change the requests of index `n`. -/
def State.onReq (s : State) (n : Nat) (f : ReqSt → ReqSt) : State := s.onInst n (fun i => { i with req := f i.req })

/-- Change the lockstep of index `n`. -/
def State.onLock (s : State) (n : Nat) (f : LockSt → LockSt) : State := s.onInst n (fun i => { i with lock := f i.lock })

/-- Change the step in progress of index `n`, if there is one. -/
def State.onStep (s : State) (n : Nat) (f : StepSt → StepSt) : State := s.onRoster n (fun r => { r with step := r.step.map f })

/-- A Roster entry. -/
def State.entry (s : State) (n e : Nat) : RosterEntry := sget {} (s.inst n).roster.entries e

/-- Change a Roster entry. -/
def State.onEntry (s : State) (n e : Nat) (f : RosterEntry → RosterEntry) : State :=
  s.onRoster n (fun r => { r with entries := supd {} r.entries e f })

/-- A ring context. -/
def State.ring (s : State) (r : Nat) : Ring := sget {} s.host.rings r

/-- Change a ring context. -/
def State.onRing (s : State) (r : Nat) (f : Ring → Ring) : State := { s with host := { s.host with rings := supd {} s.host.rings r f } }

/-- A host function, 0 on X0, 1 on X1. -/
def State.fn (s : State) (f : Nat) : FnSt := sget {} s.host.fns f

/-- Change a host function. -/
def State.onFn (s : State) (k : Nat) (f : FnSt → FnSt) : State := { s with host := { s.host with fns := supd {} s.host.fns k f } }

/-- A Tolgil port. -/
def State.port (s : State) (p : Nat) : PortSt := sget {} s.fab.ports p

/-- Change a Tolgil port. -/
def State.onPort (s : State) (p : Nat) (f : PortSt → PortSt) : State := { s with fab := { s.fab with ports := supd {} s.fab.ports p f } }

/-- A page descriptor. -/
def State.page (s : State) (p : Nat) : PageDesc := sget {} s.mem.pages p

/-- Change a page descriptor. -/
def State.onPage (s : State) (p : Nat) (f : PageDesc → PageDesc) : State := { s with mem := { s.mem with pages := supd {} s.mem.pages p f } }

/-- A component of the Proctor. -/
def State.comp (s : State) (p : Nat) : CompSt := sget {} s.fw.comps p

/-- Change a component. -/
def State.onComp (s : State) (p : Nat) (f : CompSt → CompSt) : State := { s with fw := { s.fw with comps := supd {} s.fw.comps p f } }

/-- The present tick. -/
def State.now (s : State) : Nat := s.bell.counter

/-- Set the time counter forward: an event that is due at `t` happens no earlier (log entry 16). -/
def State.reach (s : State) (t : Nat) : State := { s with bell := { s.bell with counter := max s.bell.counter t } }

/-- A fresh free value of the given kind, and the state that has used it (log entry 10). -/
def State.fresh (s : State) : State := { s with free := s.free + 1 }

/-- A beat of bytes that the spec does not state (log entry 10). -/
def freeBeat (k i : Nat) : Bytes := le 64 (Config.freeValue k i)

/-- Beats of an access that was not served: poisoned with owner 0x3FFF, their bytes free (10 R276; log entry 47). -/
def poisonBeats (k n : Nat) : List Beat := (List.range n).map (fun i => ⟨freeBeat k i, some 0x3FFF⟩)

/-- Is die `d` working: present at wake and not fenced (16 R440)? -/
def State.dieWorks (s : State) (d : Nat) : Bool := s.wake.diesUp.testBit d && !s.flt.fenced.testBit d

/-- Indices that are in use. -/
def State.instsWith (s : State) (p : InstSt → Bool) : List Nat := (s.insts.filter (fun e => p e.2)).map (·.1)

/-- The answer of a meaning that always has an effect. -/
def done (s : State) : Host.Outcome State Fault Refusal := .next s

/-- The answer of a meaning about unit `n` of `limit` units. -/
def unitOf (limit n : Nat) (s : State) : Host.Outcome State Fault Refusal :=
  if n < limit then .next s else .fault (.noSuchUnit n)

end Sys2Proof.Machine
end

