-- ==== Sys2Proof/Machine/Entries.lean ====
section
/-! DEFINITION. The object dictionary: every entry of the spec's tables with its type, right, range and default
(17_object_dictionary.md R455 to R465, R481, R482 and the settings table of each chapter), and the scalar values. -/

namespace Sys2Proof.Machine

/-- One entry. Types: 1 to 4 U8 to U64, 5 I32, 6 F32, 7 STR, 8 BLOB, 9 BITS (R456). Rights: 0 RO, 1 RW, 2 RWP, 3 WO,
4 RWS (R469). `lo` and `hi` bound a written number; `len` is the length in bytes (the greatest one for STR and BLOB). -/
structure EntryDef where
  idx : Nat
  sub : Nat
  typ : Nat
  right : Nat
  dflt : Nat := 0
  lo : Nat := 0
  hi : Nat := 0
  len : Nat := 0
  deriving DecidableEq, Repr

/-- Length in bytes of a numeric type. -/
def typeLen (t : Nat) : Nat :=
  match t with
  | 1 => 1 | 2 => 2 | 3 => 4 | 4 => 8 | 5 => 4 | 6 => 4 | _ => 0

/-- A read-only number. -/
def ro (idx sub typ : Nat) (dflt : Nat := 0) : EntryDef := { idx, sub, typ, right := 0, dflt, len := typeLen typ }
/-- A read-only BITS, STR or BLOB entry of a length. -/
def roN (idx sub typ len : Nat) : EntryDef := { idx, sub, typ, right := 0, len }
/-- A writable number with its range. -/
def wr (right idx sub typ dflt lo hi : Nat) : EntryDef := { idx, sub, typ, right, dflt, lo, hi, len := typeLen typ }
/-- A writable BLOB of a length. -/
def wb (right idx sub len : Nat) : EntryDef := { idx, sub, typ := 8, right, len }

def entriesIdentity : List EntryDef := [
  roN 0x1000 1 7 16, ro 0x1000 2 1, roN 0x1000 3 7 2, ro 0x1000 4 3, roN 0x1000 5 7 16, roN 0x1000 6 8 6, ro 0x1000 7 2,
  ro 0x1000 8 2, ro 0x1000 9 2 0x0103, ro 0x1000 0xA 1 1, ro 0x1000 0xB 3, roN 0x1000 0xC 7 8]

def entriesMgmt : List EntryDef := [
  roN 0x1100 1 8 16, wr 2 0x1100 2 2 50420 1024 65535, wr 2 0x1100 3 1 255 1 255, wr 2 0x1100 4 1 0 0 1, wb 3 0x1100 5 32,
  ro 0x1100 6 1, wb 2 0x1100 7 18, wr 2 0x1100 8 1 4 0 6, wr 2 0x1100 9 1 0 0 1, wr 3 0x1100 0xA 2 0 0 0xFFFF, ro 0x1100 0xB 4,
  ro 0x1100 0xC 4, ro 0x1100 0xD 4, roN 0x1100 0xE 8 16]

def entriesPower : List EntryDef := [
  wr 2 0x2000 1 1 0 0 1, wr 2 0x2000 2 2 2000 600 2000, wr 2 0x2000 3 1 0 0 1, wr 2 0x2000 4 2 1750 1000 1750,
  wr 2 0x2000 5 1 25 5 25, wr 1 0x2000 6 2 0 0 2000, wr 2 0x2000 7 2 0 0 2000, wr 2 0x2000 8 3 60 10 3600, ro 0x2000 9 2,
  ro 0x2000 0xA 1, ro 0x2000 0xB 6, ro 0x2000 0xC 6, ro 0x2000 0xD 2 1500,
  ro 0x2010 1 4, ro 0x2010 2 3, ro 0x2010 3 4, ro 0x2010 4 3, ro 0x2010 5 4, ro 0x2010 6 3,
  wr 2 0x2020 1 1 105 85 105, wr 2 0x2020 2 1 110 106 112, wr 2 0x2020 3 1 0 0 1, roN 0x2020 4 8 74, ro 0x2020 5 6,
  ro 0x2020 6 6, ro 0x2020 7 6, ro 0x2020 8 1,
  ro 0x2030 1 6, wr 2 0x2030 2 3 86400 3600 604800, ro 0x2030 3 1 1, roN 0x2030 4 8 65536]

/-- Timetable entries (R386): 0x2110:00 to 0x2111:FF. -/
def entriesTimetable : List EntryDef :=
  (List.range 256).map (fun i => wb 1 0x2110 i 32) ++ (List.range 256).map (fun i => wb 1 0x2111 i 32)

def entriesBell : List EntryDef := [
  ro 0x2100 1 1, wr 2 0x2100 2 3 0 0 500000, ro 0x2100 3 4, ro 0x2100 4 3, ro 0x2100 5 5, ro 0x2100 6 4, ro 0x2100 7 1,
  wr 3 0x2100 8 1 0 1 1] ++ entriesTimetable ++ [
  wb 2 0x2120 1 16, roN 0x2120 2 8 65536, ro 0x2120 3 3, ro 0x2120 4 4]

def entriesMemory : List EntryDef := [
  ro 0x2200 1 4, ro 0x2200 2 4, ro 0x2200 3 4 3221225472, ro 0x2200 4 3, ro 0x2200 5 3,
  wr 2 0x2210 1 1 52 0 64, wr 2 0x2210 2 1 4 0 64, wr 2 0x2210 3 1 4 0 64, wr 2 0x2210 4 1 2 0 64, wr 2 0x2210 5 1 2 0 64,
  wr 2 0x2211 1 1 40 0 64, wr 2 0x2211 2 1 4 0 64, wr 2 0x2211 3 1 16 0 64, wr 2 0x2211 4 1 2 0 64, wr 2 0x2211 5 1 2 0 64,
  wr 2 0x2212 1 2 0x0FFF 1 0xFFFF, wr 2 0x2212 2 2 0x1000 1 0xFFFF, wr 2 0x2212 3 2 0x2000 1 0xFFFF,
  wr 2 0x2212 4 2 0x4000 1 0xFFFF, wr 2 0x2212 5 2 0x8000 1 0xFFFF,
  wr 2 0x2220 1 3 50 5 1000, wr 2 0x2220 2 3 500 50 10000,
  wr 2 0x2230 1 3 0 0 0xFFFFFFFF, wr 2 0x2230 2 3 0 0 0xFFFFFFFF, wr 2 0x2230 3 3 0 0 0xFFFFFFFF, wr 2 0x2230 4 3 0 0 0xFFFFFFFF,
  wr 1 0x2240 1 4 0 0 0xFFFFFFFFFFFFFFFF, wr 1 0x2240 2 4 0 0 0x40000000000,
  ro 0x2250 1 4, ro 0x2250 2 4, ro 0x2250 3 3, wr 2 0x2250 4 3 600 60 86400] ++
  (List.range 16).map (fun i => wb 4 0x2260 (i + 1) 528)

def entriesFabric : List EntryDef := [
  wr 2 0x2300 1 1 0xFF 0 0xFF, wr 2 0x2300 2 3 2000 200 50000, wr 2 0x2300 3 3 50 10 1000, ro 0x2300 4 3, roN 0x2300 5 8 16,
  ro 0x2300 6 3, roN 0x2300 7 8 1024] ++
  (List.range 120).map (fun i => wr 2 0x2310 (i + 1) 4 0 0 0xFFFFFFFFFFFFFFFF) ++
  (List.range 8).map (fun i => wr 2 0x2320 (i + 1) 1 0xFF 0 0xFF) ++
  (List.range 16).map (fun i => wr 2 0x2330 (i + 1) 3 9 0 0x1F) ++
  (List.range 16).map (fun i => ro 0x2331 (i + 1) 3) ++ (List.range 16).map (fun i => roN 0x2340 (i + 1) 8 48)

def entriesServing : List EntryDef := [
  wr 2 0x2400 1 3 300 10 3600, wr 2 0x2400 2 1 0 0 0xFF, wr 2 0x2400 3 1 0 0 14, wr 2 0x2400 4 1 0 0 1, wr 2 0x2400 5 1 6 0 15,
  wr 2 0x2400 6 3 4096 256 1048576, wr 2 0x2400 7 3 65536 0 16777216, wr 2 0x2400 8 1 2 1 8, wr 2 0x2400 9 1 4 1 16,
  wr 2 0x2400 0xA 2 1024 64 1024, wr 2 0x2400 0xB 3 65536 0 1048576, wr 2 0x2400 0xC 3 65536 0 1048576,
  wr 2 0x2400 0xD 4 400000000 400000 400000000000,
  wr 2 0x2410 1 3 100 1 100, wr 2 0x2410 2 1 4 1 8, wr 2 0x2410 3 3 1000 100 60000, ro 0x2410 4 3, roN 0x2410 5 9 2,
  ro 0x2410 6 1, ro 0x2410 7 4, ro 0x2410 8 4, ro 0x2410 9 3, ro 0x2410 0xA 3]

def entriesFirmware : List EntryDef := [
  ro 0x2500 1 1, roN 0x2500 2 8 55, ro 0x2500 3 1, roN 0x2500 4 8 55, ro 0x2500 5 3, ro 0x2500 6 1, wb 2 0x2500 7 16,
  { roN 0x2500 8 9 1 with dflt := 0x3F }, ro 0x2500 9 4,
  ro 0x2510 1 3, ro 0x2510 2 3, ro 0x2510 3 3, ro 0x2510 4 3, ro 0x2510 5 3, ro 0x2510 6 3, ro 0x2510 7 3, ro 0x2510 8 3,
  ro 0x2520 1 3, ro 0x2520 2 1, ro 0x2520 3 2, ro 0x2520 4 3,
  wr 2 0x2530 1 1 2 0 3, ro 0x2530 2 4, ro 0x2530 3 4, wr 1 0x2530 4 2 15360 15360 16383,
  wb 1 0x2540 1 512, wr 1 0x2540 2 2 15361 15360 16383, wr 2 0x2540 3 3 65536 1 1048576, ro 0x2540 4 4,
  ro 0x2550 1 1, ro 0x2550 2 1, ro 0x2550 3 3, roN 0x2550 4 9 4, roN 0x2550 5 9 2, wr 2 0x2550 6 1 0 0 1, wr 3 0x2550 7 1 0 1 1,
  wr 3 0x2550 8 3 0 0 0xFFFF, ro 0x2550 9 1, wb 3 0x2550 0xA 65536,
  wr 1 0x2560 1 2 14337 14336 15359, ro 0x2560 2 4, ro 0x2560 3 4]

def entriesFaults : List EntryDef := [
  wr 1 0x2600 1 2 14336 14336 15359, roN 0x2600 2 8 48, roN 0x2600 3 8 64, wr 2 0x2600 4 1 2 0 4, roN 0x2600 5 9 4,
  roN 0x2600 6 8 32, roN 0x2600 7 8 8, roN 0x2600 8 8 56, ro 0x2600 9 4, ro 0x2600 0xA 3, ro 0x2600 0xB 3,
  wr 2 0x2610 1 2 64 8 4096, wr 2 0x2610 2 2 8 1 256, wr 2 0x2610 3 2 64 8 4096, wr 2 0x2610 4 1 4 3 9, wr 2 0x2610 5 1 4 2 64,
  wr 2 0x2610 6 1 1 0 1, wr 3 0x2610 7 1 0 1 1,
  ro 0x2700 1 1 1, ro 0x2700 2 4, ro 0x2700 3 1, ro 0x2700 4 3, ro 0x2700 5 4, ro 0x2700 6 3, ro 0x2700 7 4, ro 0x2700 8 3,
  ro 0x2700 9 4, wr 2 0x2700 0xA 3 86400 3600 604800, roN 0x2700 0xB 8 24, wr 3 0x2700 0xC 1 0 1 1, roN 0x2700 0xD 8 12,
  ro 0x2700 0xE 4]

/-- The identity range of a die, written for die 0 (R464). -/
def entriesDie : List EntryDef := [
  ro 0x3000 1 1, roN 0x3000 2 7 2, roN 0x3000 3 7 12, ro 0x3000 4 1, ro 0x3000 5 5, ro 0x3000 6 5, ro 0x3000 7 1, roN 0x3000 8 8 32,
  roN 0x3000 9 8 384, ro 0x3000 0xA 1, ro 0x3000 0xB 2, ro 0x3000 0xC 2, ro 0x3000 0xD 3]

/-- The range of an index, written for index 0 (R462). -/
def entriesInst : List EntryDef := [
  ro 0x4010 1 1, ro 0x4010 2 2, ro 0x4010 3 4, ro 0x4010 4 3, roN 0x4010 5 9 2, ro 0x4010 6 2, wr 4 0x4010 7 3 300 10 3600,
  ro 0x4020 1 4, roN 0x4020 2 8 65536, wr 3 0x4020 3 1 0 1 1, wr 1 0x4020 4 1 0 0 0xFF, ro 0x4020 5 3,
  wr 4 0x4030 1 1 0 0 14, ro 0x4030 2 3, ro 0x4030 3 3, ro 0x4030 4 3, ro 0x4030 5 3, ro 0x4030 6 3,
  ro 0x4040 1 1, wr 1 0x4040 2 1 0 0 1, wr 1 0x4040 3 1 6 0 15, wr 1 0x4040 4 3 4096 256 1048576,
  wr 1 0x4040 5 3 65536 0 16777216, wr 1 0x4040 6 1 2 1 8, ro 0x4040 7 4, ro 0x4040 8 4, ro 0x4040 9 3, ro 0x4040 0xA 4,
  ro 0x4040 0xB 3, ro 0x4040 0xC 3, ro 0x4040 0xD 4,
  ro 0x4050 1 4, ro 0x4050 2 2 1, wr 1 0x4050 3 1 4 1 16, ro 0x4050 4 2, ro 0x4050 5 2, ro 0x4050 6 2, ro 0x4050 7 1,
  wr 1 0x4050 8 2 1024 64 1024, ro 0x4050 9 4,
  wr 4 0x4060 1 3 65536 0 1048576, wr 4 0x4060 2 3 65536 0 1048576, ro 0x4060 3 3, ro 0x4060 4 4, ro 0x4060 5 4, ro 0x4060 6 3,
  wr 4 0x4060 7 4 400000000 400000 400000000000, ro 0x4060 8 4, ro 0x4060 9 3, ro 0x4060 0xA 4, ro 0x4060 0xB 4,
  wr 1 0x4060 0xC 2 0 0 0xFFFF, roN 0x4060 0xD 8 48,
  roN 0x4070 1 8 16, ro 0x4070 2 3, ro 0x4070 3 3, ro 0x4070 4 3, ro 0x4070 5 3 0xFFFFFFFF, ro 0x4070 6 4, ro 0x4070 7 3,
  ro 0x4070 8 3,
  ro 0x4080 1 4, ro 0x4080 2 1, roN 0x4080 3 8 32, roN 0x4080 4 8 40, ro 0x4080 5 4, ro 0x4080 6 4, ro 0x4080 7 3]

/-- Every entry of the module in ascending index, the two families written once. -/
def entriesBefore3000 : List EntryDef :=
  entriesIdentity ++ entriesMgmt ++ entriesPower ++ entriesBell ++ entriesMemory ++ entriesFabric ++ entriesServing ++
  entriesFirmware ++ entriesFaults

/-- The table that serves index `i`, with the index its rows are written at. -/
def tableOf (i : Nat) : List EntryDef × Nat :=
  if i < 0x1100 then (entriesIdentity, i)
  else if i < 0x2000 then (entriesMgmt, i)
  else if i < 0x2100 then (entriesPower, i)
  else if i < 0x2200 then (entriesBell, i)
  else if i < 0x2300 then (entriesMemory, i)
  else if i < 0x2400 then (entriesFabric, i)
  else if i < 0x2500 then (entriesServing, i)
  else if i < 0x2600 then (entriesFirmware, i)
  else if i < 0x3000 then (entriesFaults, i)
  else if i < 0x3019 then (entriesDie, 0x3000)
  else if 0x4000 ≤ i ∧ i < 0x8000 then (entriesInst, 0x4000 + i % 256)
  else ([], i)

/-- The entry at index `i`, sub-index `sub` (R461). -/
def entryDef (i sub : Nat) : Option EntryDef :=
  (tableOf i).1.find? (fun e => e.idx == (tableOf i).2 && e.sub == sub)

/-- The key of a scalar value. -/
def ekey (i sub : Nat) : Nat := i * 256 + sub

/-- The default of an entry (R458). -/
def entryDefault (i sub : Nat) : Nat :=
  match entryDef i sub with
  | some e => e.dflt
  | none => 0

/-- A stored scalar value. -/
def State.ent (s : State) (i sub : Nat) : Nat := sget (entryDefault i sub) s.dict (ekey i sub)

/-- Store a scalar value. -/
def State.setEnt (s : State) (i sub v : Nat) : State := { s with dict := sset (entryDefault i sub) s.dict (ekey i sub) v }

/-- The greatest value a numeric entry holds. -/
def entryMax (i sub : Nat) : Nat :=
  match entryDef i sub with
  | some e => 2 ^ (8 * e.len)
  | none => 2 ^ 64

/-- Count `n` more; a counter wraps at its width (log entry 17). -/
def State.bump (s : State) (i sub : Nat) (n : Nat := 1) : State :=
  s.setEnt i sub ((s.ent i sub + n) % entryMax i sub)

/-- Index of block `b` of model `n` (R462). -/
def instIdx (n b : Nat) : Nat := 0x4000 + 0x100 * n + b

/-- The bytes of a BLOB entry, empty where nothing was written. -/
def State.blob (s : State) (i sub : Nat) : Bytes := sget [] s.blobs (ekey i sub)

/-- Store the bytes of a BLOB entry. -/
def State.setBlob (s : State) (i sub : Nat) (b : Bytes) : State := { s with blobs := sset [] s.blobs (ekey i sub) b }

/-- GENERATION of an entry advances (R472). -/
def State.touch (s : State) (i sub : Nat) : State :=
  { s with mgmt := { s.mgmt with gens := supd 0 s.mgmt.gens (ekey i sub) (fun g => (g + 1) % 2 ^ 32) } }

/-- The module changes a BLOB's content by itself: its GENERATION counts it (R472). -/
def State.putBlob (s : State) (i sub : Nat) (b : Bytes) : State := (s.setBlob i sub b).touch i sub

/-- Module index `0x2300:01`; 0xFF when unset. -/
def State.moduleIndex (s : State) : Nat := s.ent 0x2300 1

/-- Wake stage `0x2550:01`. -/
def State.wakeStage (s : State) : Nat := s.ent 0x2550 1

/-- Firmware term `0x1000:04`. -/
def State.term (s : State) : Nat := s.ent 0x1000 4

/-- The incarnation `0x2300:04`. -/
def State.incarnation (s : State) : Nat := s.ent 0x2300 4

/-! ## The effective cap (12_power_thermal.md R344) -/

/-- The silence cap in mW while it is in force (R360). -/
def State.capSilence (s : State) : Nat := if s.pwr.silent ∧ s.ent 0x2000 7 ≠ 0 then 1000 * s.ent 0x2000 7 else 2000000

/-- cap_eff in mW. -/
def State.capEff (s : State) : Nat := min (min (1000 * s.ent 0x2000 2) s.pwr.capSag) (min s.capSilence s.pwr.governor)

/-- The term that limits (R362): 4, none, while the power duty is 0; of equal terms the lowest number (log entry 30). -/
def State.limitingTerm (s : State) : Nat :=
  let c := s.capEff
  if s.pwr.dutyP = 0 then 4
  else if 1000 * s.ent 0x2000 2 = c then 0
  else if s.pwr.capSag = c then 1
  else if s.capSilence = c then 2
  else 3

end Sys2Proof.Machine
end

