-- ==== Sys2Proof/Machine/Report.lean ====
section
/-! DEFINITION. What the module reports: records on host rings and their signals (19_host_interface.md R512 to R514),
events (R523), management notices (17 R475), submissions to the journal (18 R490, R492), fault records (16 R435, R437). -/

namespace Sys2Proof.Machine

/-! ## Rings produced by the module -/

/-- Records that a ring has room for in all (R510). -/
def ringSize (r : Ring) : Nat := 2 ^ r.sizeLog2

/-- Records held: (PROD − CONS) mod 2³² (R512). -/
def ringHeld (r : Ring) : Nat := (r.prod + 2 ^ 32 - r.cons) % 2 ^ 32

/-- Records that still fit. -/
def ringFree (r : Ring) : Nat := ringSize r - ringHeld r

/-- Record size of a kind (R509). -/
def recLen (kind : Nat) : Nat :=
  match kind with
  | 1 => 16 | 2 => 64 | 3 => 32 | 4 => 64 | 5 => 32 | 6 => 16 | _ => 64

/-- Host address of record `i` (R512). -/
def ringSlot (r : Ring) (i : Nat) : Nat := r.base + (i % ringSize r) * recLen r.kind

/-- The module writes bytes into host memory. -/
def State.hostPut (s : State) (a : Nat) (b : Bytes) : State := { s with host := { s.host with image := putBytes s.host.image a b } }

/-- A word of the MSI-X table; vector control reads masked until it is written (log entry 4). -/
def msixWord (f : FnSt) (k : Nat) : Nat := sget (if k % 4 = 3 then 1 else 0) f.msix k

/-- Signal a vector: a masked vector sets its pending bit (R514). -/
def State.signal (s : State) (fn vec : Nat) : State :=
  if msixWord (s.fn fn) (4 * vec + 3) % 2 = 1 then s.onFn fn (fun f => { f with pendingBits := addOnce f.pendingBits vec })
  else { s with host := { s.host with signals := s.host.signals ++ [(fn, vec)] } }

/-- PROD has advanced by one on ring `r`: signal at once or count toward the coalesced signal (R514). -/
def State.coalesce (s : State) (k : Nat) : State :=
  let r := s.ring k
  if r.irq then
    if r.coalCount = 0 ∨ r.coalCount ≤ r.unsignalled + 1 then
      (s.onRing k (fun r => { r with unsignalled := 0 })).signal r.link r.vector
    else s.onRing k (fun r => { r with unsignalled := r.unsignalled + 1 })
  else s

/-- Write the index to SHADOW, 4 bytes, unless it is 0 (R510; log entry 18). -/
def State.shadowWrite (s : State) (k v : Nat) : State :=
  if (s.ring k).shadow = 0 then s else s.hostPut (s.ring k).shadow (le 4 v)

/-- Write one record and then PROD (R512). -/
def State.produce (s : State) (k : Nat) (b : Bytes) : State :=
  let r := s.ring k
  let s := s.hostPut (ringSlot r r.prod) (padTo (recLen r.kind) b)
  let s := s.onRing k (fun r => { r with prod := (r.prod + 1) % 2 ^ 32, gap := false })
  (s.shadowWrite k ((r.prod + 1) % 2 ^ 32)).coalesce k

/-- The ring is enabled with a kind and its link is up. -/
def State.ringUp (s : State) (k kind : Nat) : Bool :=
  let r := s.ring k
  r.enable && decide (r.kind = kind) && (s.fn r.link).up

/-- Does a record fit on ring `k` now? -/
def State.ringRoom (s : State) (k kind : Nat) : Bool := s.ringUp k kind && decide (0 < ringFree (s.ring k))

/-- A record is dropped: DROPPED saturates, OVERFLOW is set, the next record marks the gap (R513). -/
def State.ringDrop (s : State) (k kind : Nat) : State :=
  if (s.ring k).enable && decide ((s.ring k).kind = kind) then
    s.onRing k (fun r => { r with dropped := min (r.dropped + 1) (2 ^ 32 - 1), overflow := true, gap := true })
  else s

/-! ## Events (R523) -/

/-- Write an event, or count it as dropped (R513, R524). -/
def State.postEvent (s : State) (kind : Nat) (payload : Bytes) : State :=
  let k := s.ent 0x2560 1
  let seq := (s.host.eventSeq + 1) % 2 ^ 32
  let s := { s with host := { s.host with eventSeq := seq } }
  if s.ringRoom k 4 then
    let gap := if (s.ring k).gap then 1 else 0
    (s.produce k (le 2 kind ++ le 2 gap ++ le 4 seq ++ le 8 s.now ++ padTo 48 payload)).bump 0x2560 2
  else (s.ringDrop k 4).bump 0x2560 3

/-! ## The log (14_firmware.md R400, R401) -/

/-- The 32 bytes of a log record. -/
def logBytes (r : LogRec) : Bytes := le 8 r.bell ++ le 4 r.seq ++ le 1 r.part ++ le 1 r.level ++ le 2 r.code ++ padTo 16 (r.args.flatMap (le 4))

/-- Mirror a record to the host's log ring; the first one after a gap carries code 0x0001 and the number skipped. -/
def State.logMirror (s : State) (r : LogRec) : State :=
  let k := s.ent 0x2530 4
  if s.ringRoom k 5 then
    let n := s.fw.logSkipped
    let r := if 0 < n then { r with code := 1, args := [n] } else r
    State.produce { s with fw := { s.fw with logSkipped := 0 } } k (logBytes r)
  else if (s.ring k).enable ∧ (s.ring k).kind = 5 then
    (State.ringDrop { s with fw := { s.fw with logSkipped := s.fw.logSkipped + 1 } } k 5).bump 0x2530 3
  else s

/-- Write a log record; `always` passes the log level. While the telemetry component restarts the kernel holds up to 256 (R397). -/
def State.logWrite (s : State) (part level code : Nat) (args : List Nat) (always : Bool := false) : State :=
  if !always && decide (s.ent 0x2530 1 < level) then s
  else
    let r : LogRec := { seq := (s.fw.logSeq + 1) % 2 ^ 32, bell := s.now, part, level, code, args }
    let log := s.fw.log ++ [r]
    let s : State := { s with fw := { s.fw with logSeq := r.seq, log := log.drop (log.length - 2048) } }
    let s := s.bump 0x2530 2
    if (s.comp 8).restarting then
      (if s.fw.logHeld.length < 256 then { s with fw := { s.fw with logHeld := s.fw.logHeld ++ [r] } } else s)
    else s.logMirror r

/-- The log record of a fault record: level 0 for a class from request up, else 1 (log entry 31). -/
def State.logFault (s : State) (r : FaultRecord) : State :=
  s.logWrite 0x10 (if 2 ≤ r.cls then 0 else 1) r.cause [r.seq, r.inst, r.owner, r.detail] true

/-! ## The journal queue (R490, R492) -/

/-- Bytes of a record on the MRAM (R485). -/
def jRecLen (body : Nat) : Nat := roundUp 64 (32 + roundUp 4 body + 4)

/-- Bytes that wait in the submission queue. -/
def queueBytes (q : List JSub) : Nat := q.foldl (fun n r => n + jRecLen r.body.length) 0

/-- Put a record on the queue; false where the queue is full (R492). -/
def State.submit (s : State) (r : JSub) : State × Bool :=
  if queueBytes s.tr.queue + jRecLen r.body.length ≤ 3145728 then
    ({ s with tr := { s.tr with queue := s.tr.queue ++ [r] } }, true)
  else (s, false)

/-! ## Notices (17 R475) -/

/-- Header of a datagram (17 R468). -/
def dgHeader (kind reqId ops flags status authSeq : Nat) : Bytes :=
  le 2 0x4442 ++ le 1 1 ++ le 1 kind ++ le 4 reqId ++ le 2 ops ++ le 2 flags ++ le 2 status ++ le 2 0 ++ le 8 authSeq

/-- A datagram with its tag where the manager authenticates (17 R474). -/
def State.tagged (s : State) (auth : Bool) (mk : Nat → Bytes) : Bytes :=
  match s.mgmt.key with
  | some k => if auth then mk 1 ++ (hmacSha256 k (mk 1)).take 16 else mk 0
  | none => mk 0

/-- Address of ff02::4b25 as a number, first byte lowest. -/
def multicastAddr : Nat := unle ([0xFF#8, 0x02#8] ++ zeros 12 ++ [0x4B#8, 0x25#8])

/-- Where notices go: `0x1100:07`, or ff02::4b25 on the module's port when that entry is zero. -/
def State.noticeDest (s : State) : Nat × Nat :=
  let b := s.blob 0x1100 7
  if unle b = 0 then (multicastAddr, s.ent 0x1100 2) else (field b 0 16, field b 16 2)

/-- Send a notice: one record of a kind. The sequence advances for a dropped one too; above 100 in a second it is dropped. -/
def State.notice (s : State) (kind : Nat) (content : Bytes) : State :=
  let sec := s.now / ticksPerSec
  let m := s.mgmt
  let n := if m.noticeSecond = sec then m.noticeNow else 0
  let seq := (m.noticeSeq + 1) % 2 ^ 32
  let s := { s with mgmt := { m with noticeSeq := seq, noticeSecond := sec, noticeNow := n + 1 } }
  if 100 ≤ n ∨ m.stopped then s.bump 0x1100 0xD
  else
    let dest := s.noticeDest
    let auth := m.sources.any (fun e => e.1 == dest.1)
    let body := le 1 kind ++ zeros 3 ++ content
    let b := s.tagged auth (fun flag => dgHeader 3 seq 1 flag 0 (if flag = 1 then s.incarnation * 2 ^ 32 + seq else 0) ++ body)
    { s with mgmt := { s.mgmt with sent := s.mgmt.sent ++ [⟨dest.1, dest.2, b⟩] } }

/-! ## Fault records -/

/-- Class of a cause by its chapter's table: 0 none, 1 corrected, 2 request, 3 one model, 4 die, 5 module. A cause whose
table gives two classes has its narrower one here and the raising rule gives the other. -/
def causeClass (c : Nat) : Nat :=
  if c ∈ [0x1301, 0x1609, 0x160B, 0x1905, 0x1A07, 0x1A09, 0x1B06, 0x1C08, 0x1E01, 0x1E03, 0x1F04, 0x2004, 0x2201, 0x2207] then 1
  else if c ∈ [0x1303, 0x1603, 0x1604, 0x1704, 0x1802, 0x1901, 0x1902, 0x1903, 0x1906] then 2
  else if c ∈ [0x1305, 0x1306, 0x1307, 0x1308, 0x1309, 0x1501, 0x1606, 0x1607, 0x1608, 0x1702, 0x1801, 0x1803, 0x1805, 0x1A01,
    0x1A02, 0x1A03, 0x1A04, 0x1A05, 0x1B07, 0x2002, 0x2003, 0x2005] then 3
  else if c ∈ [0x1C07, 0x1F01, 0x1F03, 0x2001] then 4
  else if c ∈ [0x1C02, 0x1C04, 0x1C06, 0x1F02, 0x1F06, 0x1F07, 0x2205, 0x2401, 0x2402] then 5
  else 0

/-- Bytes 0x00 to 0x3B of a record (R435). -/
def faultBody (r : FaultRecord) : Bytes :=
  le 8 r.bell ++ le 4 r.seq ++ le 2 r.cause ++ le 1 r.cls ++ le 1 r.flags ++ le 1 r.modIdx ++ le 1 r.loc.die ++ le 1 r.loc.unit ++
  le 1 r.inst ++ le 2 r.loc.locA ++ le 2 r.loc.locB ++ le 2 r.owner ++ le 2 r.merged ++ le 4 r.term ++ le 8 r.step ++
  le 8 r.address ++ le 8 r.seqId ++ le 4 r.detail

/-- The 64 bytes of a record. -/
def faultBytes (r : FaultRecord) : Bytes := faultBody r ++ le 4 (crc32c (faultBody r))

/-- A number for the unit that a record names. -/
def unitKey (l : FaultLoc) : Nat := ((l.die * 256 + l.unit) * 65536 + l.locA) * 65536 + (if l.unit = 5 ∨ l.unit = 6 then l.locB else 0)

/-- A record goes to the history: every class from request up, every sparing action, and the first corrected one of a
unit and cause in an hour (R437). -/
def journals (s : State) (r : FaultRecord) : Bool :=
  decide (2 ≤ r.cls) || decide (r.cause = 0x2004) ||
  (decide (r.cls = 1) && !s.flt.hours.any (fun h => h.1 == unitKey r.loc && h.2.1 == r.cause && h.2.2 == s.now / ticksPerHour))

/-- A record goes to the fault event ring (R437). -/
def posts (s : State) (r : FaultRecord) : Bool := decide (4 ≤ r.cls) || decide (s.ent 0x2600 4 ≤ r.cls)

/-- A submission that the queue has no room for is counted, and 0x2206 is logged once a minute (18 R492): class none, so
it reaches neither the journal nor, below report level 0, a ring. -/
def State.dropSubmission (s : State) : State :=
  let s := s.bump 0x2700 9
  let t := sget 0 s.flt.lastLogged 0x2206
  if t = 0 ∨ 60 * ticksPerSec ≤ s.now + 1 - t then
    let seq := (s.flt.seq + 1) % 2 ^ 32
    let r : FaultRecord := { bell := s.now, seq, cause := 0x2206, modIdx := s.moduleIndex, term := s.term }
    State.logFault { s with flt := { s.flt with seq, last := some r, byClass := s.flt.byClass.modify 0 (· + 1),
                                                lifeByClass := s.flt.lifeByClass.modify 0 (· + 1),
                                                lastLogged := sins s.flt.lastLogged 0x2206 (s.now + 1) } } r
  else s

/-- Journal, post and send a record that has its SEQ. -/
def State.deliver (s : State) (r : FaultRecord) : State :=
  let j := journals s r
  let k := s.ent 0x2600 1
  let room := s.ringRoom k 4
  let p := posts s r
  let r := { r with flags := setBit (setBit r.flags 2 j) 3 (p && room) }
  let s := { s with flt := { s.flt with last := some r } }
  let s := s.touch 0x2600 3
  let s := if p then (if room then s.produce k (faultBytes r) else s.ringDrop k 4) else s
  let s : State := if j then
      let s : State := if r.cls = 1 then
          let old := s.flt.hours.filter (fun h => !(h.1 == unitKey r.loc && h.2.1 == r.cause))
          { s with flt := { s.flt with hours := (unitKey r.loc, r.cause, s.now / ticksPerHour) :: old } }
        else s
      let q := s.submit { kind := 5, key := r.seq, body := faultBytes r }
      if q.2 then q.1 else q.1.dropSubmission
    else s
  if s.ent 0x1100 8 ≤ r.cls then s.notice 3 (faultBytes r) else s

/-- A cause produces one record: K0 gives it its SEQ (R435). Before the journal runs it is held (15 R434). -/
def State.emit (s : State) (r : FaultRecord) : State :=
  let seq := (s.flt.seq + 1) % 2 ^ 32
  let r := { r with bell := s.now, seq, modIdx := s.moduleIndex, term := s.term }
  let s := { s with flt := { s.flt with seq, byClass := s.flt.byClass.modify r.cls (· + 1),
                                        lifeByClass := s.flt.lifeByClass.modify r.cls (· + 1) } }
  let s := s.logFault r
  if s.tr.up then s.deliver r
  else
    let r := { r with flags := setBit r.flags 1 true }
    { s with flt := { s.flt with last := some r }, wake := { s.wake with held := s.wake.held ++ [r] } }

/-- A record of a cause in its table's class. -/
def fault (cause : Nat) (loc : FaultLoc := {}) : FaultRecord := { cause, cls := causeClass cause, loc }

/-- Log a cause that the spec logs at most once in `period` ticks for a key. -/
def State.emitRarely (s : State) (key period : Nat) (r : FaultRecord) : State :=
  let t := sget 0 s.flt.lastLogged key
  if t = 0 ∨ period ≤ s.now + 1 - t then
    State.emit { s with flt := { s.flt with lastLogged := sins s.flt.lastLogged key (s.now + 1) } } r
  else s

/-! ## Completions -/

/-- The 32 bytes of a completion record. -/
def State.completion (s : State) (r : CmdRef) (result value aux : Nat) : Bytes :=
  le 4 r.cmdId ++ le 2 r.sq ++ le 2 result ++ le 2 r.opcode ++ le 2 0 ++ le 4 (if r.secured then 0 else (s.ring r.sq).cons) ++ le 8 value ++ le 8 aux

/-- A command completes: its record goes to the session it came in, or to the completion ring of its submission ring; it is
held while that link is down (R529). -/
def State.complete (s : State) (r : CmdRef) (result : Nat) (value aux : Nat := 0) : State :=
  let b := s.completion r result value aux
  let s := { s with host := { s.host with answer := b } }
  if r.secured then s.onFn r.fn (fun f => { f with answer := b })
  else
    let k := (s.ring r.sq).cq
    let s := s.onRing k (fun q => { q with inFlight := q.inFlight - 1 })
    if (s.ring k).enable ∧ (s.ring k).kind = 3 then
      if (s.fn (s.ring k).link).up then s.produce k b
      else { s with host := { s.host with heldDone := s.host.heldDone ++ [(k, b)] } }
    else s

end Sys2Proof.Machine
end

