-- ==== Sys2Proof/Machine/Send.lean ====
section
/-! DEFINITION. Putting packets on Tolgil: nodes, routes and paths (10_tolgil_fabric.md R265, R283, R284), hall passes
(R277, R278), the replay buffer (R291) and node states (R296). -/

namespace Sys2Proof.Machine

/-- Node value 32 × module + die (R265). -/
def nodeOf (m d : Nat) : Nat := 32 * m + d
def nodeModule (n : Nat) : Nat := n / 32
def nodeDie (n : Nat) : Nat := n % 32

/-- A Tolgil address (R265). -/
def tolgilAddr (node off : Nat) : Nat := node * 2 ^ 52 + off

/-- The route entry of a module index (R283). -/
def State.route (s : State) (m : Nat) : Nat := s.ent 0x2310 (m + 1)

/-- Ports cabled to module `m`. -/
def State.directPorts (s : State) (m : Nat) : List Nat := (List.range 16).filter (fun p => (s.route m).testBit p)

/-- Via modules of module `m`, in listed order (R283). -/
def State.vias (s : State) (m : Nat) : List Nat :=
  (List.range (min 4 (bits (s.route m) 18 16))).map (fun i => bits (s.route m) (25 + 7 * i) (19 + 7 * i))

/-- A port carries streams: up. A port that retrains narrower keeps its streams (R294). -/
def State.portUp (s : State) (p : Nat) : Bool := decide ((s.port p).state = 2)

/-- Live direct ports of a module, ascending (R284). -/
def State.livePorts (s : State) (m : Nat) : List Nat := (s.directPorts m).filter s.portUp

/-- Vias that can carry a stream to `m`: not marked by NO_ROUTE, with a live direct port (R284). -/
def State.usableVias (s : State) (m : Nat) : List Nat :=
  (s.vias m).filter (fun v => !decide ((v, m) ∈ s.fab.badVias) && !(s.livePorts v).isEmpty)

/-- The stream hash h (R284). -/
def streamHash (m o d v : Nat) : Nat := ((((32 * m + o) * 4096 + d) * 4 + v) * 0x9E3779B1 % 2 ^ 32) / 2 ^ 16

/-- The module that a node is reached through: the bridge of a host endpoint (R267), else the node's own. -/
def State.hopModule (s : State) (m : Nat) : Nat := if 120 ≤ m then s.ent 0x2320 (m - 119) else m

/-- The port of a stream: a live direct port, else the first hop to a usable via, else none (R284). -/
def State.choosePort (s : State) (o d v : Nat) : Option Nat :=
  let h := streamHash s.moduleIndex o d v
  let m := s.hopModule (nodeModule d)
  let live := s.livePorts m
  if live.isEmpty then
    let vs := s.usableVias m
    if vs.isEmpty then none
    else
      let lv := s.livePorts (vs.getD (h % vs.length) 0)
      lv[h % lv.length]?
  else live[h % live.length]?

/-- A module is reachable when a path to it exists (R296). -/
def State.reachable (s : State) (m : Nat) : Bool := !(s.livePorts m).isEmpty || !(s.usableVias m).isEmpty

/-- Units a packet occupies, and the hall passes it needs (R278). -/
def packetUnits (p : Packet) : Nat := 1 + p.beats + (if p.poisonMask = 0 then 0 else 1)

/-- Initial grant of a channel and pool, key 2 × channel + pool (R277). -/
def initialGrant (k : Nat) : Nat :=
  match k with
  | 0 => 256 | 1 => 128 | 2 => 512 | 3 => 256 | 4 => 1024 | 5 => 512 | _ => 64

/-- The pass book of a channel and pool. -/
def passBook (p : PortSt) (k : Nat) : PassBook := sget { held := initialGrant k } p.passes k

/-- Change a pass book. -/
def onPass (p : PortSt) (k : Nat) (f : PassBook → PassBook) : PortSt :=
  { p with passes := supd { held := initialGrant k } p.passes k f }

/-- Does the port send this packet now: up, not retraining, passes held, replay buffer not full? -/
def canSend (p : PortSt) (q : Packet) : Bool :=
  decide (p.state = 2) && !p.narrowing && decide (packetUnits q ≤ (passBook p (2 * q.vc + q.hop)).held) && decide (p.replay.length < 256)

/-- Put a packet on the port in a flit of its own: passes are given up, the flit is kept for replay. -/
def putOnPort (p : PortSt) (q : Packet) : PortSt :=
  let u := packetUnits q
  let p := onPass p (2 * q.vc + q.hop) (fun b => { b with held := b.held - u, inFlight := b.inFlight + u })
  { p with txSeq := (p.txSeq + 1) % 4096, replay := p.replay ++ [{ seq := p.txSeq, packets := [q] }] }

/-- Send on a chosen port, or let the packet wait there behind earlier ones of its channel and pool. -/
def State.portSend (s : State) (p : Nat) (q : Packet) : State :=
  let st := s.port p
  let behind := st.waiting.any (fun w => w.vc == q.vc && w.hop == q.hop)
  if canSend st q && !behind then
    let s := s.onPort p (fun st => putOnPort st q)
    { s with fab := { s.fab with sent := s.fab.sent ++ [(p, q)] } }
  else s.onPort p (fun st => { st with waiting := st.waiting ++ [q] })

/-- Order in which waiting packets go: control, then response, then the other two (R277). -/
def vcRank (v : Nat) : Nat := if v = 3 then 0 else if v = 1 then 1 else 2

/-- One waiting packet of a port that can go, highest channel first. -/
def nextWaiting (st : PortSt) : Option Packet :=
  let firsts := st.waiting.filter (fun q => canSend st q && (st.waiting.find? (fun w => w.vc == q.vc && w.hop == q.hop)) == some q)
  match firsts.find? (fun q => vcRank q.vc == 0) with
  | some q => some q
  | none =>
    match firsts.find? (fun q => vcRank q.vc == 1) with
    | some q => some q
    | none => firsts.head?

/-- Send up to `n` waiting packets of a port. -/
def State.drainPort (s : State) (p : Nat) : Nat → State
  | 0 => s
  | n + 1 =>
    match nextWaiting (s.port p) with
    | none => s
    | some q =>
      let s := s.onPort p (fun st => putOnPort { st with waiting := dropFirst (· == q) st.waiting } q)
      State.drainPort { s with fab := { s.fab with sent := s.fab.sent ++ [(p, q)] } } p n

/-- State of a node; the module's own nodes are live while they work (R296). -/
def State.nodeState (s : State) (n : Nat) : NodeState :=
  if nodeModule n = s.moduleIndex then (if s.flt.fenced.testBit (nodeDie n) then .lost else .live)
  else sget (if s.route (nodeModule n) = 0 then .unconfigured else .lost) s.fab.nodes n

/-- Set the state of a remote node. -/
def State.setNode (s : State) (n : Nat) (v : NodeState) : State := { s with fab := { s.fab with nodes := sins s.fab.nodes n v } }

/-- Send a packet of a stream: it waits while the stream drains (R285), is held while the node is `SUSPECT` (R296), or goes
out on the stream's port with that port's X die as its source. A packet with no path is not sent. -/
def State.sendPacket (s : State) (o : Nat) (q : Packet) : State :=
  let key := (o, q.node, q.vc)
  if decide (key ∈ s.fab.draining) then { s with fab := { s.fab with drainQueue := s.fab.drainQueue ++ [(o, q)] } }
  else if s.nodeState q.node = .suspect ∧ (q.vc = 0 ∨ q.vc = 2) then
    { s with fab := { s.fab with heldRequests := s.fab.heldRequests ++ [(o, q)] } }
  else
    match s.choosePort o q.node q.vc with
    | none => s
    | some p =>
      let q := { q with src := nodeOf s.moduleIndex (20 + p / 4) }
      let s := { s with fab := { s.fab with paths := (key, p) :: s.fab.paths.filter (fun e => e.1 != key) } }
      s.portSend p q

/-- A free tag of an X die: not outstanding and not quarantined (R271, R298). -/
def State.freeTag (s : State) (x : Nat) : Option Nat :=
  (List.range 4096).find? (fun t => !s.fab.outstanding.any (fun o => o.die == x && o.tag == t) && !decide ((x, t) ∈ s.fab.quarantined))

/-- The X die that carries a stream; X0 where there is no path. -/
def State.xDie (s : State) (o d v : Nat) : Nat :=
  match s.choosePort o d v with
  | some p => 20 + p / 4
  | none => 20

/-- Issue a non-posted request: it takes a tag of its X die, kept until it is answered. -/
def State.sendRequest (s : State) (o : Nat) (q : Packet) (w : Outstanding) : State :=
  let x := s.xDie o q.node q.vc
  match s.freeTag x with
  | none => s
  | some t =>
    let s := { s with fab := { s.fab with outstanding := s.fab.outstanding ++ [{ w with die := x, tag := t, node := q.node, inst := q.inst, opcode := q.opcode, since := s.now }] } }
    s.sendPacket o { q with tag := t }

/-- A control message from K0 to the K0 of another module (R272). -/
def controlPacket (m : Nat) (opcode inst : Nat) (data : Bytes) : Packet :=
  { opcode, vc := 3, beats := max 1 ((data.length + 63) / 64), priv := true, inst, node := nodeOf m dieK0, data }

/-- Members of a model other than this module. -/
def State.peers (s : State) (n : Nat) : List Nat := ((s.inst n).bind.place.members).filter (· != s.moduleIndex)

/-- The model spans modules. -/
def State.spans (s : State) (n : Nat) : Bool := !(s.peers n).isEmpty

/-- Send a control message to every other member. -/
def State.sendPeers (s : State) (n opcode : Nat) (data : Bytes) : State :=
  (s.peers n).foldl (fun s m => s.sendPacket dieK0 (controlPacket m opcode n data)) s

end Sys2Proof.Machine
end

