-- ==== Sys2Proof/Machine/Messages.lean ====
section
/-! DEFINITION. The contents of the firmware's CONTROL messages that carry data between the members of an instance: tokens
to match, bias lists, the tokens of prefill rows, mask bitmaps (08_roster.md R226; 09_requests.md R237, R245, R246), digests
and the lockstep messages. The spec gives their purpose and not their bytes: the layout is the model's (log entry 23). -/

namespace Sys2Proof.Machine

/-- Data bytes of one message: 62 beats behind a header of 64 bytes. -/
def messageRoom : Nat := 3968

/-- The messages of a payload: kind, two numbers, offset and length, then a part of the payload. -/
def messageParts (kind a b : Nat) (payload : Bytes) : List Bytes :=
  (List.range (max 1 ((payload.length + messageRoom - 1) / messageRoom))).map (fun i =>
    let part := slice payload (messageRoom * i) messageRoom
    padTo 64 (le 1 kind ++ zeros 3 ++ le 4 a ++ le 8 b ++ le 4 (messageRoom * i) ++ le 4 part.length) ++ part)

/-- Send a message to one module of model `n`. -/
def State.tell (s : State) (m n kind a b : Nat) (payload : Bytes) : State :=
  (messageParts kind a b payload).foldl (fun s d => s.sendPacket dieK0 (controlPacket m 0x38 n d)) s

/-- Send a message to every other member of model `n`. -/
def State.tellPeers (s : State) (n kind a b : Nat) (payload : Bytes) : State :=
  (s.peers n).foldl (fun s m => s.tell m n kind a b payload) s

/-- 32-bit words of a byte string. -/
def words32 (b : Bytes) : List Nat := (List.range (b.length / 4)).map (fun i => field b (4 * i) 4)

/-- Add what arrived ahead of an ADMIT to its sequence. -/
def onIncoming (l : List Incoming) (q : Nat) (f : Incoming → Incoming) : List Incoming :=
  if l.any (fun x => x.seqId == q) then mapIf (fun (x : Incoming) => x.seqId == q) f l else l ++ [f { seqId := q }]

/-- A mask or token part for a row of the step in progress. -/
def rowGets (kind : Nat) (part : Bytes) (r : StepRow) : StepRow :=
  if kind = 3 then { r with tokens := r.tokens ++ words32 part } else { r with mask := some (r.mask.getD [] ++ part) }

/-- K0 takes a message: true where it is one of these. -/
def State.hear (s : State) (n : Nat) (d : Bytes) : State × Bool :=
  let kind := field d 0 1
  let a := field d 4 4
  let b := field d 8 8
  let part := slice d 64 (field d 20 4)
  if kind = 1 then (s.onReq n (fun q => { q with incoming := onIncoming q.incoming b (fun x => { x with tokens := x.tokens ++ words32 part }) }), true)
  else if kind = 2 then (s.onReq n (fun q => { q with incoming := onIncoming q.incoming b (fun x => { x with bias := x.bias ++ part }) }), true)
  else if kind = 3 ∨ kind = 4 then
    match (s.inst n).roster.step with
    | some st =>
      if st.number = b then (s.onStep n (fun st => { st with rows := mapIf (fun (r : StepRow) => r.entry == a) (rowGets kind part) st.rows }), true)
      else (s.onReq n (fun q => { q with early := q.early ++ [(kind, a, b, part)] }), true)
    | none => (s.onReq n (fun q => { q with early := q.early ++ [(kind, a, b, part)] }), true)
  else (s, false)

end Sys2Proof.Machine
end

