-- ==== Sys2Proof/Machine/Real.lean ====
section
/-! DEFINITION. Exact arithmetic under the number formats: rounding of an exact quotient, and the correctly rounded real
functions of 02_syllabus.md R41, computed by enclosing the exact value between two fixed-point numbers. -/

namespace Sys2Proof.Machine

/-! ## Rounding a positive quotient to a grid -/

/-- `floor(log2 (n / d))` for positive `n`, `d`. -/
def log2Quot (n d : Nat) : Int :=
  let e := (Nat.log2 n : Int) - (Nat.log2 d : Int)
  let below := if 0 ≤ e then decide (n < d * 2 ^ e.toNat) else decide (n * 2 ^ (-e).toNat < d)
  if below then e - 1 else e

/-- Numerator and denominator of `(n / d) / 2^u`. -/
def overGrid (n d : Nat) (u : Int) : Nat × Nat := if 0 ≤ u then (n, d * 2 ^ u.toNat) else (n * 2 ^ (-u).toNat, d)

/-- The integer nearest `n / d`, ties to even. -/
def rneQuot (n d : Nat) : Nat :=
  let k := n / d
  let f := n % d
  if d < 2 * f ∨ (2 * f = d ∧ k % 2 = 1) then k + 1 else k

/-- Round `n / d` down, and up where the 24-bit draw is below the fraction (04_number_formats.md R120, R123). -/
def drawQuot (n d r : Nat) : Nat := if r < n % d * 2 ^ 24 / d then n / d + 1 else n / d

/-- Magnitude code of a positive quotient in a format of `m` mantissa bits and bias `b`, before the overflow rule: exponent
field × 2^m + mantissa field (R120). -/
def magCode (m b : Nat) (draw : Option Nat) (n d : Nat) : Nat :=
  if n = 0 then 0
  else
    let e := max (log2Quot n d) (1 - (b : Int))
    let g := overGrid n d (e - m)
    let k := match draw with
      | none => rneQuot g.1 g.2
      | some r => drawQuot g.1 g.2 r
    k + (e + b - 1).toNat * 2 ^ m

/-! ## FP32 -/

def nan32 : Nat := 0x7FC00000
def one32 : Nat := 0x3F800000
def inf32 (neg : Bool) : Nat := if neg then 0xFF800000 else 0x7F800000
def zero32 (neg : Bool) : Nat := if neg then 0x80000000 else 0

/-- Round a signed quotient to FP32; beyond the largest finite value it is an infinity (R121). -/
def round32 (neg : Bool) (n d : Nat) : Nat :=
  let c := magCode 23 127 none n d
  (if 0x7F800000 ≤ c then 0x7F800000 else c) + (if neg then 0x80000000 else 0)

/-- The exact value of an FP32 code. -/
def dec32 (c : Nat) : Num :=
  let neg := c.testBit 31
  let e := bits c 30 23
  let f := bits c 22 0
  if e = 255 then (if f = 0 then .inf neg else .nan)
  else if e = 0 then .fin neg f (-149)
  else .fin neg (f + 2 ^ 23) ((e : Int) - 150)

/-- Round an exact number to FP32. -/
def rnd32 : Num → Nat
  | .nan => nan32
  | .inf s => inf32 s
  | .fin s n q => if n = 0 then zero32 s else if 0 ≤ q then round32 s (n * 2 ^ q.toNat) 1 else round32 s n (2 ^ (-q).toNat)

/-- Exact product. -/
def mulNum : Num → Num → Num
  | .nan, _ => .nan
  | _, .nan => .nan
  | .inf s, .inf t => .inf (s != t)
  | .inf s, .fin t n _ => if n = 0 then .nan else .inf (s != t)
  | .fin s n _, .inf t => if n = 0 then .nan else .inf (s != t)
  | .fin s n q, .fin t k p => .fin (s != t) (n * k) (q + p)

/-- Signed significand at exponent `q0 ≤ q`. -/
def atExp (s : Bool) (n : Nat) (q q0 : Int) : Int :=
  let v : Int := (n * 2 ^ (q - q0).toNat : Nat)
  if s then -v else v

/-- Exact sum; an exact zero of two values is +0 unless both are −0. -/
def addNum : Num → Num → Num
  | .nan, _ => .nan
  | _, .nan => .nan
  | .inf s, .inf t => if s = t then .inf s else .nan
  | .inf s, .fin _ _ _ => .inf s
  | .fin _ _ _, .inf t => .inf t
  | .fin s n q, .fin t k p =>
    let q0 := min q p
    let v := atExp s n q q0 + atExp t k p q0
    if v = 0 then .fin (s && t) 0 0 else .fin (decide (v < 0)) v.natAbs q0

/-- The opposite. -/
def negNum : Num → Num
  | .nan => .nan
  | .inf s => .inf (!s)
  | .fin s n q => .fin (!s) n q

/-- Quotient rounded once to FP32. -/
def divNum : Num → Num → Nat
  | .nan, _ => nan32
  | _, .nan => nan32
  | .inf _, .inf _ => nan32
  | .inf s, .fin t _ _ => inf32 (s != t)
  | .fin s _ _, .inf t => zero32 (s != t)
  | .fin s n q, .fin t k p =>
    if k = 0 then (if n = 0 then nan32 else inf32 (s != t))
    else if n = 0 then zero32 (s != t)
    else if p ≤ q then round32 (s != t) (n * 2 ^ (q - p).toNat) k else round32 (s != t) n (k * 2 ^ (p - q).toNat)

/-- Order of two numbers that are not NaN, −0 equal to +0: is `a < b`? -/
def ltNum : Num → Num → Bool
  | .nan, _ => false
  | _, .nan => false
  | .inf s, .inf t => s && !t
  | .inf s, .fin _ _ _ => s
  | .fin _ _ _, .inf t => !t
  | .fin s n q, .fin t k p => decide (atExp s n q (min q p) < atExp t k p (min q p))

/-! FP32 operations on codes, each rounded once (R41). -/
def add32 (a b : Nat) : Nat := rnd32 (addNum (dec32 a) (dec32 b))
def sub32 (a b : Nat) : Nat := rnd32 (addNum (dec32 a) (negNum (dec32 b)))
def mul32 (a b : Nat) : Nat := rnd32 (mulNum (dec32 a) (dec32 b))
def fma32 (a b c : Nat) : Nat := rnd32 (addNum (mulNum (dec32 a) (dec32 b)) (dec32 c))
def div32 (a b : Nat) : Nat := divNum (dec32 a) (dec32 b)
def lt32 (a b : Nat) : Bool := ltNum (dec32 a) (dec32 b)
def isNan32 (a : Nat) : Bool := dec32 a == .nan
def neg32 (a : Nat) : Nat := if a.testBit 31 then a - 2 ^ 31 else a + 2 ^ 31

/-- FP32 code of a natural number. -/
def ofNat32 (n : Nat) : Nat := if n = 0 then 0 else round32 false n 1

/-- The larger of two values that are not NaN, +0 above −0. -/
def max32 (a b : Nat) : Nat := if lt32 a b then b else if lt32 b a then a else if a.testBit 31 then b else a

/-- IEEE 754 minimumNumber with −0 < +0 (10 R273). -/
def minNumber32 (a b : Nat) : Nat :=
  if isNan32 a then (if isNan32 b then nan32 else b)
  else if isNan32 b then a
  else if lt32 a b then a else if lt32 b a then b else if a.testBit 31 then a else b

/-- IEEE 754 maximumNumber (10 R273). -/
def maxNumber32 (a b : Nat) : Nat :=
  if isNan32 a then (if isNan32 b then nan32 else b)
  else if isNan32 b then a
  else max32 a b

/-! ## Real functions: fixed-point enclosures with `p` fraction bits -/

/-- Taylor sum of exp at `y / 2^p`, `y` small: terms are cut off toward zero, at most `n` ulps below in all. -/
def expSeries (p y : Nat) : Nat → Nat → Nat → Nat
  | 0, _, _ => 0
  | n + 1, k, t => t + expSeries p y n (k + 1) (t * y / 2 ^ p / k)

/-- Square `n` times. -/
def squares (p : Nat) : Nat → Nat → Nat
  | 0, v => v
  | n + 1, v => squares p n (v * v / 2 ^ p)

/-- exp of the non-negative `a / 2^p`, in units of 2^−p, between the two results. -/
def expUp (p a : Nat) : Nat × Nat :=
  let k := 8 + Nat.log2 (a / 2 ^ p + 1)
  let y := a / 2 ^ k
  let v := squares p k (expSeries p y (p / 4 + 8) 1 (2 ^ p))
  let err := v * (2 ^ (k + 24)) / 2 ^ p + 2 ^ (k + 24)
  (v - err, v + err)

/-- exp of a signed `a / 2^p`: a quotient enclosure as two pairs (numerator, denominator). -/
def expQuot (p : Nat) (neg : Bool) (a : Nat) : (Nat × Nat) × (Nat × Nat) :=
  let e := expUp p a
  if neg then ((2 ^ p, e.2), (2 ^ p, e.1)) else ((e.1, 2 ^ p), (e.2, 2 ^ p))

/-- A finite number as `a / 2^p`, cut off toward zero: magnitude. -/
def fixed (p : Nat) (n : Nat) (q : Int) : Nat :=
  let s := q + p
  if 0 ≤ s then n * 2 ^ s.toNat else n / 2 ^ (-s).toNat

/-- Round an enclosure that a precision gives; double the precision until both ends round alike. -/
def ziv (f : Nat → (Bool × (Nat × Nat)) × (Bool × (Nat × Nat))) : Nat → Nat → Nat
  | 0, p => let r := f p; round32 r.1.1 r.1.2.1 r.1.2.2
  | n + 1, p =>
    let r := f p
    let a := round32 r.1.1 r.1.2.1 r.1.2.2
    if a = round32 r.2.1 r.2.2.1 r.2.2.2 then a else ziv f n (2 * p)

/-- Precision is doubled at most six times from 320 bits. -/
def zivRounds : Nat := 6

/-- Is `|x|` at least the integer `k`? -/
def absGe (n : Nat) (q : Int) (k : Nat) : Bool :=
  if 0 ≤ q then decide (k ≤ n * 2 ^ q.toNat) else decide (k * 2 ^ (-q).toNat ≤ n)

/-- Correctly rounded exp. Beyond ±128 the result is past the range. -/
def exp32 (c : Nat) : Nat :=
  match dec32 c with
  | .nan => nan32
  | .inf s => if s then 0 else inf32 false
  | .fin s n q =>
    if n = 0 then 0x3F800000
    else if absGe n q 128 then (if s then 0 else inf32 false)
    else ziv (fun p => let r := expQuot p s (fixed p n q); ((false, r.1), (false, r.2))) zivRounds 320

/-- `1 / (1 + exp(−x))` as an enclosure, for a signed fixed-point `x`. -/
def sigmoidQuot (p : Nat) (neg : Bool) (a : Nat) : (Nat × Nat) × (Nat × Nat) :=
  let r := expQuot p (!neg) a
  ((r.2.2, r.2.2 + r.2.1), (r.1.2, r.1.2 + r.1.1))

/-- Correctly rounded sigmoid. -/
def sigmoid32 (c : Nat) : Nat :=
  match dec32 c with
  | .nan => nan32
  | .inf s => if s then 0 else 0x3F800000
  | .fin s n q =>
    if n = 0 then 0x3F000000
    else if absGe n q 128 then (if s then 0 else 0x3F800000)
    else ziv (fun p => let r := sigmoidQuot p s (fixed p n q); ((false, r.1), (false, r.2))) zivRounds 320

/-- Multiply a quotient by the magnitude `n × 2^q`. -/
def timesMag (n : Nat) (q : Int) (r : Nat × Nat) : Nat × Nat := if 0 ≤ q then (r.1 * n * 2 ^ q.toNat, r.2) else (r.1 * n, r.2 * 2 ^ (-q).toNat)

/-- Correctly rounded SiLU, x × sigmoid(x). -/
def silu32 (c : Nat) : Nat :=
  match dec32 c with
  | .nan => nan32
  | .inf s => if s then zero32 true else inf32 false
  | .fin s n q =>
    if n = 0 then zero32 s
    else if absGe n q 256 then (if s then zero32 true else c)
    else ziv (fun p => let r := sigmoidQuot p s (fixed p n q); ((s, timesMag n q r.1), (s, timesMag n q r.2))) zivRounds 320

/-- arctan (1 / k) in units of 2^−p, at most `n` ulps off. -/
def atanInv (p k : Nat) : Nat → Nat → Nat → Bool → Int
  | 0, _, _, _ => 0
  | n + 1, t, j, s => (if s then -((t / j : Nat) : Int) else ((t / j : Nat) : Int)) + atanInv p k n (t / (k * k)) (j + 2) (!s)

/-- π in units of 2^−p, by Machin's formula, within 2^20 ulps. -/
def piFixed (p : Nat) : Nat :=
  let q := p + 32
  let a := atanInv q 5 (q / 2) (2 ^ q / 5) 1 false
  let b := atanInv q 239 (q / 2) (2 ^ q / 239) 1 false
  (16 * a - 4 * b).toNat / 2 ^ 32

/-- Correctly rounded GELU in its tanh form: x × sigmoid(2 √(2/π) (x + 0.044715 x³)). -/
def gelu32 (c : Nat) : Nat :=
  match dec32 c with
  | .nan => nan32
  | .inf s => if s then zero32 true else inf32 false
  | .fin s n q =>
    if n = 0 then zero32 s
    else if absGe n q 32 then (if s then zero32 true else c)
    else
      ziv (fun p =>
        let x := fixed p n q
        let cubic := x + 44715 * (x * x / 2 ^ p * x / 2 ^ p) / 1000000
        let root := Nat.sqrt (8 * 2 ^ (3 * p) / piFixed p)
        let a := root * cubic / 2 ^ p
        let w := 2 ^ 40
        let lo := sigmoidQuot p s (if s then a + w else a - w)
        let hi := sigmoidQuot p s (if s then a - w else a + w)
        ((s, timesMag n q lo.1), (s, timesMag n q hi.2))) zivRounds 320

/-- Correctly rounded 1 / √x. -/
def rsqrt32 (c : Nat) : Nat :=
  match dec32 c with
  | .nan => nan32
  | .inf s => if s then nan32 else 0
  | .fin s n q =>
    if n = 0 then inf32 s
    else if s then nan32
    else
      let e : Int := if q % 2 = 0 then q else q - 1
      let k := if q % 2 = 0 then n else 2 * n
      let r := Nat.sqrt (2 ^ 256 / k)
      let exact := decide (r * r * k = 2 ^ 256)
      let num := if exact then 2 * r else 2 * r + 1
      let h := e / 2
      if 0 ≤ h then round32 false num (2 ^ (129 + h.toNat)) else round32 false (num * 2 ^ (-h).toNat) (2 ^ 129)

/-- Correctly rounded √x. -/
def sqrt32 (c : Nat) : Nat :=
  match dec32 c with
  | .nan => nan32
  | .inf s => if s then nan32 else c
  | .fin s n q =>
    if n = 0 then zero32 s
    else if s then nan32
    else
      let e : Int := if q % 2 = 0 then q else q - 1
      let k := (if q % 2 = 0 then n else 2 * n) * 2 ^ 128
      let r := Nat.sqrt k
      let num := if r * r = k then 2 * r else 2 * r + 1
      let h := e / 2 - 65
      if 0 ≤ h then round32 false (num * 2 ^ h.toNat) 1 else round32 false num (2 ^ (-h).toNat)

/-- Sine and cosine series at `y / 2^p`, signed, terms cut off. -/
def trigSeries (p y2 : Nat) : Nat → Nat → Nat → Bool → Int
  | 0, _, _, _ => 0
  | n + 1, j, t, s => (if s then -(t : Int) else t) + trigSeries p y2 n (j + 2) (t * y2 / 2 ^ p / (j * (j + 1))) (!s)

/-- sin (`cosine` false) or cos of a non-negative number, in units of 2^−p, within 2^(−p+40). -/
def trigFixed (cosine : Bool) (p n : Nat) (q : Int) : Int :=
  let g := p + 160
  let half := piFixed g / 2
  let a := fixed g n q
  let k := a / half
  let y := a % half / 2 ^ 160
  let y2 := y * y / 2 ^ p
  let sine := trigSeries p y2 (p / 4 + 8) 2 y false
  let cos_ := trigSeries p y2 (p / 4 + 8) 1 (2 ^ p) false
  match (k + (if cosine then 1 else 0)) % 4 with
  | 0 => sine
  | 1 => cos_
  | 2 => -sine
  | _ => -cos_

/-- An enclosure of a signed fixed-point value. -/
def around (p : Nat) (v : Int) : (Bool × (Nat × Nat)) × (Bool × (Nat × Nat)) :=
  let w : Int := 2 ^ 40
  ((decide (v - w < 0), ((v - w).natAbs, 2 ^ p)), (decide (v + w < 0), ((v + w).natAbs, 2 ^ p)))

/-- Correctly rounded sine. -/
def sin32 (c : Nat) : Nat :=
  match dec32 c with
  | .nan => nan32
  | .inf _ => nan32
  | .fin s n q =>
    if n = 0 then zero32 s
    else ziv (fun p => around p (if s then -trigFixed false p n q else trigFixed false p n q)) zivRounds 320

/-- Correctly rounded cosine. -/
def cos32 (c : Nat) : Nat :=
  match dec32 c with
  | .nan => nan32
  | .inf _ => nan32
  | .fin _ n q => if n = 0 then 0x3F800000 else ziv (fun p => around p (trigFixed true p n q)) zivRounds 320

/-- ln of `n / d` in units of 2^−p: 2 artanh((n − d)/(n + d)) after scaling by a power of two, within 2^24 ulps. -/
def lnFixed (p n d : Nat) : Int :=
  let series (z : Nat) : Nat :=
    let z2 := z * z / 2 ^ p
    let rec go : Nat → Nat → Nat → Nat
      | 0, _, _ => 0
      | k + 1, t, j => t / j + go k (t * z2 / 2 ^ p) (j + 2)
    2 * go (p / 2 + 8) z 1
  let e := log2Quot n d
  let g := overGrid n d e
  let ln2 := series (2 ^ p / 3)
  e * ln2 + series ((g.1 - g.2) * 2 ^ p / (g.1 + g.2))

/-- Correctly rounded natural logarithm (09 R247): of +0 it is −∞, of a negative value NaN. -/
def log32 (c : Nat) : Nat :=
  match dec32 c with
  | .nan => nan32
  | .inf s => if s then nan32 else inf32 false
  | .fin s n q =>
    if n = 0 then inf32 true
    else if s then nan32
    else if c = 0x3F800000 then 0
    else
      let r := if 0 ≤ q then (n * 2 ^ q.toNat, 1) else (n, 2 ^ (-q).toNat)
      ziv (fun p => around p (lnFixed p r.1 r.2)) zivRounds 320

/-! ## Canonical sums (R42) -/

/-- Add the upper half of `2 w` partial sums onto the lower, down to one. -/
def foldSums : Nat → List Nat → Nat
  | 0, l => l.getD 0 0
  | n + 1, l =>
    let w := l.length / 2
    foldSums n ((List.range w).map (fun j => add32 (l.getD j 0) (l.getD (j + w) 0)))

/-- Fold terms into 32 partial sums by `f`, in ascending order. -/
def lanes (f : Nat → Nat → Nat) : List Nat → Nat → List Nat → List Nat
  | [], _, l => l
  | x :: r, i, l => lanes f r (i + 1) (l.modify (i % 32) (fun s => f s x))

/-- The canonical sum. -/
def sum32 (l : List Nat) : Nat := foldSums 5 (lanes add32 l 0 (List.replicate 32 0))

/-- The canonical sum of squares. -/
def sumSq32 (l : List Nat) : Nat := foldSums 5 (lanes (fun s x => fma32 x x s) l 0 (List.replicate 32 0))

/-- Fold pairs into 32 partial sums with fused multiply-adds. -/
def dotLanes : List (Nat × Nat) → Nat → List Nat → List Nat
  | [], _, l => l
  | x :: r, i, l => dotLanes r (i + 1) (l.modify (i % 32) (fun s => fma32 x.1 x.2 s))

/-- The canonical dot product (07 R197). -/
def dot32 (l : List (Nat × Nat)) : Nat := foldSums 5 (dotLanes l 0 (List.replicate 32 0))

end Sys2Proof.Machine
end

