-- ==== Sys2Proof/Machine/Contain.lean ====
section
/-! DEFINITION. Containment by class (16_faults_availability.md R438, R439): ending a request, releasing a model
(03_cores_and_slates.md R92, 10_tolgil_fabric.md R300), dismissing it (08_roster.md R232), and raising a cause. -/

namespace Sys2Proof.Machine

/-! ## A release on one core (03 R92) -/

/-- A slot in a fill becomes `POISON` with owner 0x3FFF. -/
def endFill (sl : Slot) : Slot := if sl.filling then { tag := .poison, filling := false, owner := 0x3FFF } else sl

/-- Load commands of which requests are outstanding; what they have not issued is dropped. -/
def outstandingLoads (l : List LoadJob) : List LoadJob := (l.filter (fun j => !j.left.isEmpty)).map (fun j => { j with todo := [] })

/-- The local part of a release: waits end, queues are discarded, fills are poisoned, the epoch advances. RELEASE stays
set while load responses are outstanding. -/
def coreReleased (c : CoreSt) : CoreSt :=
  { c with
    loads := outstandingLoads c.loads
    seqWait := .none, loadWait := .none, mathWait := .none, storeWait := .none
    loadQ := [], mathQ := [], storeQ := [], stores := [], arrived := []
    slots := smap {} (fun _ sl => endFill sl) c.slots
    epoch := (c.epoch + 1) % 256
    release := !(outstandingLoads c.loads).isEmpty
    seqRunning := false, kernel := none, next := none }

/-- Does a core hold work of model `n`? -/
def holds (n : Nat) (c : CoreSt) : Bool := c.instValid && decide (c.inst = n)

/-- A core reset (15_bringup_reset.md R430): every register takes its reset value, the slate's bytes stay, FENCED is set. -/
def hardReset (k : CoreSt) : CoreSt := { ({} : CoreSt) with slate := k.slate, fenced := true }

/-- A release ends on a core once no load response is outstanding; a core reset that waited for it follows. -/
def releaseEnds (k : CoreSt) : CoreSt :=
  if !k.loads.isEmpty then k else if k.resetAfter then hardReset k else { k with release := false }

/-- K0 sets RELEASE on every core that holds work of model `n`; the step is voided for it (03 R92, 01 R29). -/
def State.releaseLocal (s : State) (n : Nat) : State :=
  let s := { s with cores := smap {} (fun _ c => if holds n c then coreReleased c else c) s.cores }
  (s.onInst n (fun i => { i with epoch := (i.epoch + 1) % 256 })).onStep n (fun st => { st with void := true })

/-- Release a model, and tell the other members unless it is being dismissed (10 R300). -/
def State.releaseInst (s : State) (n : Nat) : State :=
  let step := match (s.inst n).roster.step with
    | some st => st.number
    | none => s.ent (instIdx n 0x50) 1
  (s.releaseLocal n).sendPeers n 0x34 (le 8 step)

/-! ## Dismissal (08 R232) -/

/-- A model is to be dismissed for a reason (08 R213): DISMISS goes into the next round A; before its first step, and on an
index that does not serve, the dismissal applies at once. -/
def State.dismissInst (s : State) (n reason : Nat) : State :=
  match (s.inst n).bind.state with
  | .serving =>
    let s := s.onRoster n (fun r => { r with dismiss := true, dismissReason := reason })
    if (s.inst n).roster.step.isNone ∧ s.ent (instIdx n 0x50) 1 = 0 then s.onBind n (fun b => { b with state := .dismissing }) else s
  | .binding | .bound =>
    (s.onRoster n (fun r => { r with dismiss := true, dismissReason := reason })).onBind n (fun b => { b with state := .dismissing, timer := none })
  | _ => s

/-! ## Raising a cause -/

/-- The owner's sequence is to be ended at the step end (R438). -/
def State.endRequest (s : State) (n owner cause : Nat) : State :=
  if owner = 0x3FFF then s
  else s.onRoster n (fun r => if r.faulted.any (fun e => e.1 == owner) then r else { r with faulted := r.faulted ++ [(owner, cause)] })

/-- The step number that a record of model `n` carries. -/
def State.stepOf (s : State) (n : Nat) : Nat :=
  match (s.inst n).roster.step with
  | some st => st.number
  | none => s.ent (instIdx n 0x50) 1

/-- Fill in the step and the sequence of the charged model and owner. -/
def State.charged (s : State) (r : FaultRecord) : FaultRecord :=
  if r.inst < 64 then
    { r with step := s.stepOf r.inst, seqId := if r.owner < numEntries then (s.entry r.inst r.owner).seqId else r.seqId }
  else r

/-- Raise a cause: one record, and the effect of its class on the request or the model (R438). Die and module classes act
through `fenceDie` and the save, at the rule that raises them. -/
def State.raise (s : State) (r : FaultRecord) : State :=
  let s := s.emit (s.charged r)
  if r.inst < 64 then
    if r.cls = 2 then s.endRequest r.inst r.owner r.cause
    else if r.cls = 3 then (s.releaseInst r.inst).onRoster r.inst (fun q => { q with stormed := true })
    else s
  else s

/-- A cause whose chapter dismisses the model (R438): the record, then the dismissal. -/
def State.raiseDismiss (s : State) (r : FaultRecord) (reason : Nat) : State :=
  let s := s.emit (s.charged r)
  let s := s.onStep r.inst (fun st => { st with void := true })
  (s.onRoster r.inst (fun q => { q with dismissCause := r.cause })).dismissInst r.inst reason

/-- A cause whose chapter dismisses the model at once, with the step in flight voided (08 R221, R222). -/
def State.dismissAtOnce (s : State) (r : FaultRecord) (reason : Nat) : State :=
  if (s.inst r.inst).roster.dismiss then s
  else ((s.raiseDismiss r reason).onBind r.inst (fun b => { b with state := .dismissing })).releaseLocal r.inst

/-- Poison-read records of one step are merged into one per owner (03 R81): the record waits for the step's end, its effect
does not. -/
def State.raiseMerged (s : State) (r : FaultRecord) : State :=
  let same (q : FaultRecord) : Bool := q.cause == r.cause && q.inst == r.inst && q.owner == r.owner
  let s :=
    if s.flt.merging.any same then
      { s with flt := { s.flt with merging := mapIf same (fun q => { q with merged := min 65535 (q.merged + 1), flags := setBit q.flags 0 true }) s.flt.merging } }
    else { s with flt := { s.flt with merging := s.flt.merging ++ [s.charged r] } }
  if r.inst < 64 then
    if r.cls = 2 then s.endRequest r.inst r.owner r.cause
    else if r.cls = 3 then (s.releaseInst r.inst).onRoster r.inst (fun q => { q with stormed := true })
    else s
  else s

/-- The step of model `n` is over: its merged records go out. -/
def State.flushMerged (s : State) (n : Nat) : State :=
  let mine := s.flt.merging.filter (fun q => q.inst == n)
  let s := { s with flt := { s.flt with merging := s.flt.merging.filter (fun q => q.inst != n) } }
  mine.foldl (fun s r => s.emit r) s

/-! ## Sparing counts (16 R444) -/

/-- Count one error of a unit; errors older than 30 days are forgotten. -/
def State.countError (s : State) (key cause : Nat) : State :=
  let keep := s.flt.windows.filter (fun e => s.now ≤ e.2.2 + 30 * ticksPerDay)
  { s with flt := { s.flt with windows := (key, cause, s.now) :: keep } }

/-- Errors of a unit and cause within the last `w` ticks. -/
def State.errorsIn (s : State) (key cause w : Nat) : Nat :=
  (s.flt.windows.filter (fun e => e.1 == key && e.2.1 == cause && decide (s.now ≤ e.2.2 + w))).length

/-- Sparing acts while `0x2610:06` is 1 (R453). -/
def State.sparing (s : State) : Bool := decide (s.ent 0x2610 6 = 1)

/-- A sparing action is journalled under 0x2004 with the unit in the record (R444). -/
def State.spared (s : State) (loc : FaultLoc) (addr : Nat := 0) : State := s.emit { fault 0x2004 loc with address := addr }

/-- The unit that stands for core `c` in a record (R436). -/
def coreLoc (c : Nat) (slot : Nat := 0) : FaultLoc :=
  { die := coreDie c, unit := 1, locA := coreTile c + 64 * corePhys c, locB := slot }

/-- The key under which a core's errors are counted. -/
def coreKey (c : Nat) : Nat := unitKey (coreLoc c)

/-- The core's error counts meet a threshold: it waits to be spared (R444, R445). -/
def State.checkCore (s : State) (c : Nat) : State :=
  let k := coreKey c
  let bad := decide (s.ent 0x2610 1 ≤ s.errorsIn k 0x1301 ticksPerDay) ||
    decide (2 ≤ s.errorsIn k 0x1302 ticksPerDay + s.errorsIn k 0x130A ticksPerDay) || decide (2 ≤ s.errorsIn k 0x1501 ticksPerDay)
  if bad && s.sparing then { s with flt := { s.flt with toSpare := addOnce s.flt.toSpare c } } else s

/-- Raise a cause of core `c` that counts toward its sparing thresholds. -/
def State.coreError (s : State) (c : Nat) (r : FaultRecord) : State :=
  ((s.raise { r with flags := setBit r.flags 4 true }).countError (coreKey c) r.cause).checkCore c

end Sys2Proof.Machine
end

