-- ==== Sys2Proof/Machine/Keeper.lean ====
section
/-! DEFINITION. The page keepers (06_memory_tiers.md): page numbers and frames, pools and grants, page states, moves,
books, and the access rules of the paged range. Commands of the family are in Pages.lean. -/

namespace Sys2Proof.Machine

/-! ## Page numbers, keepers, frames -/

/-- The keeper of a page, h(p) (R151). -/
def keeperOf (p : Nat) : Nat := ((p % 4) ^^^ (p / 4 % 4)) ^^^ ((p / 16 % 4) ^^^ (p / 64 % 4))

/-- Index of a page number: bits 31:26 (R150). -/
def pageInst (p : Nat) : Nat := p / 2 ^ 26 % 64

/-- Size of a page and of a granule. -/
def pageBytes : Nat := 65536
def granuleBytes : Nat := 4096

/-- The `i`-th HBM frame of M die `d` in ascending order (R156). -/
def hbmFrame (d i : Nat) : Nat := 24 * (i / 6) + 6 * d + i % 6
/-- The `i`-th Library frame of M die `d` (R157). -/
def libFrame (d i : Nat) : Nat := 4 * i + d
def frameDie (library : Bool) (f : Nat) : Nat := if library then f % 4 else f % 24 / 6
/-- Channel group of an HBM frame; of a Library frame, its die (R156, R158). -/
def frameGroup (library : Bool) (f : Nat) : Nat := if library then f % 4 else f % 24
/-- Row of an HBM frame; local number of a Library frame. -/
def frameRow (library : Bool) (f : Nat) : Nat := if library then f / 4 else f / 24

/-- Live channels of a group, ascending (R158). -/
def State.liveChannels (s : State) (library : Bool) (g : Nat) : List Nat :=
  if library then (List.range 12).map (12 * g + ·) |>.filter (fun c => !decide (c ∈ s.mem.retiredLib) && !decide (27 + g / 2 ∈ s.pwr.regsOff))
  else (List.range 16).map (16 * g + ·) |>.filter (fun c => !decide (c ∈ s.mem.retiredHbm) && s.wake.stacksUp.testBit (c / 32))

/-- Rows of a group that are in service: 32,768 × c of HBM, 1,048,576 × c of the Library (R158). -/
def State.liveRows (s : State) (library : Bool) (g : Nat) : Nat :=
  (if library then 1048576 else 32768) * (s.liveChannels library g).length

/-- The HBM channel of a granule of a frame (R156, R158). -/
def State.granuleChannel (s : State) (library : Bool) (f g : Nat) : Nat :=
  let live := s.liveChannels library (frameGroup library f)
  let r := frameRow library f
  if library then live.getD ((16 * r + g) % live.length) 0
  else if live.length = 16 then live.getD ((g + (r * 0x9E3779B1 % 2 ^ 32) / 2 ^ 28) % 16) 0
  else live.getD ((16 * r + g) % live.length) 0

/-- Frames that a descriptor or a frame in flight names in a tier. -/
def State.usedFrames (s : State) (library : Bool) : List Nat :=
  let t : Tier := if library then .library else .hbm
  (s.mem.pages.filter (fun (e : Nat × PageDesc) => e.2.state != .free && e.2.tier == t)).map (fun e => e.2.frame) ++
  (if library then [] else (s.mem.pages.filter (fun (e : Nat × PageDesc) => e.2.hbmCopy)).map (fun e => e.2.copyFrame)) ++
  (s.mem.inflight.filter (fun f => f.library == library)).map (·.frame)

/-- May frame `f` be allocated: free, in service, not retired or about to be, its group not draining? -/
def State.frameFree (s : State) (library : Bool) (used : List Nat) (f : Nat) : Bool :=
  !decide (f ∈ used) && decide (frameRow library f < s.liveRows library (frameGroup library f)) &&
  !s.mem.retired.any (fun r => r.1 == library && r.2.1 == f) && !decide ((library, f) ∈ s.flt.toRetire) &&
  !decide ((library, frameGroup library f) ∈ s.mem.draining)

/-- The lowest free frame at or after the `i`-th one of a die. -/
def State.findFrame (s : State) (library : Bool) (d : Nat) (used : List Nat) : Nat → Nat → Option Nat
  | 0, _ => none
  | n + 1, i =>
    let f := if library then libFrame d i else hbmFrame d i
    if s.frameFree library used f then some f else s.findFrame library d used n (i + 1)

/-- The frame a keeper takes next: the lowest free one of its die (R156). -/
def State.takeFrame (s : State) (library : Bool) (d : Nat) : Option Nat :=
  let used := s.usedFrames library
  s.findFrame library d used (6 * (used.length + s.mem.retired.length + s.flt.toRetire.length + 1)) 0

/-- The frame book of keeper `d` and a tier (R178). -/
def State.book (s : State) (library : Bool) (d : Nat) : FrameBook := s.mem.books.getD ((if library then 4 else 0) + d) ⟨0, 0, 0, 0⟩

/-- Change a frame book. -/
def State.onBook (s : State) (library : Bool) (d : Nat) (f : FrameBook → FrameBook) : State :=
  { s with mem := { s.mem with books := s.mem.books.modify ((if library then 4 else 0) + d) f } }

/-- The page number of keeper `d` in group `i` of four of the region of model `n`: each aligned group holds one (R151). -/
def keeperPage (n d i : Nat) : Nat :=
  let base := n * 2 ^ 26 + 4 * (i % 2 ^ 24)
  base + (d % 4 ^^^ keeperOf base)

/-- The first free page number of keeper `d` in the region of model `n` at or after group `i`. -/
def State.findPage (s : State) (n d : Nat) : Nat → Nat → Option Nat
  | 0, _ => none
  | k + 1, i => if (s.page (keeperPage n d i)).state = .free then some (keeperPage n d i) else s.findPage n d k (i + 1)

/-- A page number of keeper `d` that is free in the region of model `n`: which one is a free choice (log entry 13). -/
def State.freePageNo (s : State) (n d : Nat) : Option Nat :=
  s.findPage n d (s.mem.pages.length + 1) (Config.freeValue s.free (2 ^ 61))

/-- Mapped pages of a keeper (R151). -/
def State.mappedOn (s : State) (d : Nat) : Nat :=
  (s.mem.pages.filter (fun (e : Nat × PageDesc) => e.2.state != .free && keeperOf e.1 == d)).length

/-! ## Pools -/

/-- Quota of a pool before any binding (R174): the system reserve, the growth pool, the Library. -/
def poolDefault (k : Nat) : Pool :=
  if k = 0 then { quota := 49152 } else if k = 65 then { quota := 12582912 - 49152 } else if k = 66 then { quota := 50331648 } else {}

/-- A pool's book. -/
def State.pool (s : State) (k : Nat) : Pool := sget (poolDefault k) s.mem.pools k

/-- Change a pool's book. -/
def State.onPool (s : State) (k : Nat) (f : Pool → Pool) : State :=
  { s with mem := { s.mem with pools := supd (poolDefault k) s.mem.pools k f } }

/-- Free quota of a pool. -/
def poolFree (p : Pool) : Nat := p.quota - p.used - p.transit

/-- Codes of a page's state and tier in its descriptor. -/
def pageStateCode : PageState → Nat
  | .free => 0 | .owned => 1 | .sealed => 2 | .reclaim => 3
def tierCode : Tier → Nat
  | .hbm => 0 | .library => 1 | .host => 2 | .none => 3

/-- The 16-byte descriptor of a page as K0 reads it (R167). -/
def descBits (d : PageDesc) : Nat :=
  pageStateCode d.state + 2 ^ 2 * tierCode d.tier + 2 ^ 4 * bitOf d.hbmCopy + 2 ^ 5 * bitOf d.migrating + 2 ^ 6 * bitOf d.sealPending +
  2 ^ 7 * bitOf d.pinSat + 2 ^ 8 * bitOf d.poisoned + 2 ^ 9 * bitOf d.growth + 2 ^ 10 * d.cls + 2 ^ 12 * d.inst + 2 ^ 18 * d.holder +
  2 ^ 32 * d.prevHolder + 2 ^ 46 * d.refs + 2 ^ 62 * d.pins + 2 ^ 76 * d.frame + 2 ^ 103 * d.copyFrame

/-- The pool that a page counts in (R174). -/
def pagePool (d : PageDesc) : Nat :=
  match d.tier with
  | .library => 66
  | .host => 67
  | _ => if d.reserve then 0 else if d.growth then 65 else 1 + d.inst

/-- The pool that pays for a page's HBM copy (R174). -/
def copyPool (d : PageDesc) : Nat := if d.copyGrowth then 65 else 1 + d.inst

/-- Floor of a tenant class (R176). -/
def State.floorOf (s : State) (c : Nat) : Nat := s.ent 0x2230 (c + 1)

/-- Growth pages whose class is `c` (R176). -/
def State.growthHeld (s : State) (c : Nat) : Nat :=
  (s.mem.pages.filter (fun (e : Nat × PageDesc) => e.2.state != .free && e.2.growth && e.2.tier == .hbm && e.2.cls == c)).length

/-- The deficit D (R176). -/
def State.deficit (s : State) : Nat := (List.range 4).foldl (fun d c => d + (s.floorOf c - s.growthHeld c)) 0

/-- R176's test of a growth allocation by class `c`; while a claim is open only classes below their floors pass (R177). -/
def State.growthGrant (s : State) (c : Nat) : Bool :=
  let free := poolFree (s.pool 65)
  (decide (s.growthHeld c < s.floorOf c) && decide (1 ≤ free)) || (s.mem.claim.isNone && decide (s.deficit < free))

/-- The quota test of a pool. -/
def State.quotaGrant (s : State) (pool c : Nat) : Bool :=
  if pool = 65 then s.growthGrant c else decide (1 ≤ poolFree (s.pool pool))

/-- Keepers in the order a grant tries them: the requester's own die, else the one after the last such grant (R175). -/
def State.keeperOrder (s : State) (pool requester : Nat) : List Nat :=
  let first := if 16 ≤ requester ∧ requester < 20 then requester - 16
    else match s.mem.lastGrant.find? (fun e => e.1 == pool) with
      | some e => (e.2 + 1) % 4
      | none => 0
  (List.range 4).map (fun i => (first + i) % 4)

/-- The keeper of a grant: the first working die with a free frame and a free descriptor. -/
def State.chooseKeeper (s : State) (pool requester : Nat) : Option Nat :=
  (s.keeperOrder pool requester).find? (fun d =>
    !s.flt.fenced.testBit (16 + d) && decide (1 ≤ (s.book false d).free) && decide (s.mappedOn d < 16777216))

/-- A page comes into being on keeper `d`: `OWNED`, one reference, a frame taken (R169). -/
def State.createPage (s : State) (page frame pool n holder cls : Nat) : State :=
  let s := s.onPage page (fun _ => { state := .owned, tier := .hbm, growth := decide (pool = 65), cls, inst := n, holder, refs := 1, frame, reserve := decide (pool = 0) })
  let s := s.onBook false (keeperOf page) (fun b => { b with free := b.free - 1, owned := b.owned + 1 })
  let s := s.onPool pool (fun p => { p with used := p.used + 1 })
  if pool = 65 then s.bump (instIdx n 0x30) 3 else s

/-- A keeper answers (R168). -/
def State.answers (s : State) (code : Nat) (page : Nat := 0) : State := { s with mem := { s.mem with answer := code, answerPage := page } }

/-- Grant one page of a pool; nothing where quota, keeper, frame or number is missing. Pools 66 and 67 create no page: a
page that ALLOC makes is `OWNED` and so in HBM (R152). -/
def State.grant (s : State) (pool n holder cls requester : Nat) : Option (State × Nat) :=
  if 66 ≤ pool ∨ !s.quotaGrant pool cls then none
  else
    match s.chooseKeeper pool requester with
    | none => none
    | some d =>
      match s.takeFrame false d, s.freePageNo n d with
      | some f, some p =>
        let s := (s.createPage p f pool n holder cls).fresh
        let s := if 16 ≤ requester ∧ requester < 20 then s else { s with mem := { s.mem with lastGrant := sins s.mem.lastGrant pool d } }
        some (s, p)
      | _, _ => none

/-- ALLOC (R175): granted, or NOPAGE, or QUEUED when WAIT is set. -/
def State.alloc (s : State) (pool n holder cls : Nat) (wait : Bool) (requester : Nat) : State :=
  match s.grant pool n holder cls requester with
  | some r => r.1.answers 0 r.2
  | none =>
    if wait then State.answers { s with mem := { s.mem with queued := s.mem.queued ++ [{ pool, inst := n, holder, cls, requester }] } } 2
    else s.answers 1

/-- The pool a KV allocation of model `n` names: its own while it has free quota, then the growth pool (R174). -/
def State.kvPool (s : State) (n : Nat) : Nat := if 1 ≤ poolFree (s.pool (1 + n)) then 1 + n else 65

/-! ## Pages going away -/

/-- A frame returns to its keeper's free list. -/
def State.returnFrame (s : State) (library : Bool) (f : Nat) : State :=
  s.onBook library (frameDie library f) (fun b => { b with owned := b.owned - 1, free := b.free + 1 })

/-- A frame in flight returns. -/
def State.landFrame (s : State) (x : FlightFrame) : State :=
  let s := { s with mem := { s.mem with inflight := dropFirst (· == x) s.mem.inflight } }
  s.onBook x.library (frameDie x.library x.frame) (fun b => { b with flight := b.flight - 1, free := b.free + 1 })

/-- The HBM copy of a Library page is dropped: its frame and its quota return (R174). -/
def State.dropCopy (s : State) (page : Nat) : State :=
  let d := s.page page
  if d.hbmCopy then
    let s := s.onPage page (fun d => { d with hbmCopy := false, copyFrame := 0, copyGrowth := false })
    (s.returnFrame false d.copyFrame).onPool (copyPool d) (fun p => { p with used := p.used - 1 })
  else s

/-- A page returns to `FREE`: frames and quota return, its bytes and poison are gone (R169). -/
def State.toFree (s : State) (page : Nat) : State :=
  let s := s.dropCopy page
  let d := s.page page
  let s := match d.tier with
    | .hbm => s.returnFrame false d.frame
    | .library => s.returnFrame true d.frame
    | _ => s
  let s := s.onPool (pagePool d) (fun p => { p with used := p.used - 1 })
  let s := if d.growth ∧ d.tier = .hbm then s.setEnt (instIdx d.inst 0x30) 3 (s.ent (instIdx d.inst 0x30) 3 - 1) else s
  let m := s.mem
  let m := { m with
    bytes := clearBytes m.bytes (page * pageBytes) pageBytes
    poison := m.poison.filter (fun (e : Nat × Nat) => e.1 / 1024 != page)
    failedGranules := m.failedGranules.filter (fun e => e.1 != page)
    late := m.late.filter (fun e => e.1 != page)
    waitingWrites := m.waitingWrites.filter (fun w => w.page != page) }
  State.onPage { s with mem := m } page (fun _ => {})

/-- A reference is dropped; at none left the page waits in `RECLAIM` for its step end (R169). -/
def dropRef (d : PageDesc) : PageDesc := if d.refs ≤ 1 then { d with refs := 0, state := .reclaim } else { d with refs := d.refs - 1 }

/-- What R170 decides of a FREE by holder `x`: 0 accepted, 3 double, 4 foreign. -/
def freeCheck (d : PageDesc) (n x : Nat) : Nat :=
  if d.state = .free ∨ d.state = .reclaim then 3
  else if d.inst ≠ n then 4
  else if d.holder = 0x3FFF ∧ d.prevHolder = x then 3
  else if d.holder ≠ x then 4
  else 0

/-- What R170 decides of an UNREF. -/
def unrefCheck (d : PageDesc) (n : Nat) : Nat :=
  if d.state = .free ∨ d.state = .reclaim then 3
  else if d.inst ≠ n then 4
  else if d.holder ≠ 0x3FFF ∧ d.refs = 1 then 4
  else 0

/-- A rejected FREE or UNREF: logged with the page, requester and holders, counted, nothing else (R170). -/
def State.rejectFree (s : State) (page n requester code : Nat) : State :=
  let d := s.page page
  let cause := if code = 3 then 0x1601 else 0x1602
  let s := s.emit { fault cause { die := 16 + keeperOf page, unit := 2, locA := pagePool d, locB := code } with
    inst := n, owner := requester, address := page, detail := d.holder + d.prevHolder * 2 ^ 16 }
  let s := s.bump 0x2250 1
  (s.bump (instIdx n 0x30) (if code = 3 then 4 else 5)).answers code

/-- FREE (R169, R170). -/
def State.freePage (s : State) (page n x : Nat) : State :=
  let code := freeCheck (s.page page) n x
  if code = 0 then (s.onPage page (fun d => dropRef { d with prevHolder := d.holder, holder := 0x3FFF })).answers 0
  else s.rejectFree page n x code

/-- UNREF (R169, R170). -/
def State.unrefPage (s : State) (page n : Nat) : State :=
  let code := unrefCheck (s.page page) n
  if code = 0 then (s.onPage page dropRef).answers 0 else s.rejectFree page n 0x3FFF code

/-- REF (R169). -/
def State.refPage (s : State) (page n : Nat) : State :=
  let d := s.page page
  if d.state = .free then s.answers 7
  else if d.inst ≠ n then s.answers 5
  else if d.state = .reclaim then s.answers 6
  else if d.refs = 65535 then s.answers 8
  else (s.onPage page (fun d => { d with refs := d.refs + 1 })).answers 0

/-- PIN (R169). -/
def State.pinPage (s : State) (page n : Nat) : State :=
  let d := s.page page
  if d.state = .free then s.answers 7
  else if d.inst ≠ n then s.answers 5
  else (s.onPage page (fun d => if d.pins = 16383 then { d with pinSat := true } else { d with pins := d.pins + 1 })).answers 0

/-- SEAL (R169). -/
def State.sealPage (s : State) (page n : Nat) : State :=
  let d := s.page page
  if d.state = .free then s.answers 7
  else if d.inst ≠ n then s.answers 5
  else
    match d.state with
    | .owned => (s.onPage page (fun d => { d with sealPending := true })).answers 0
    | .sealed => s.answers 0
    | _ => s.answers 6

/-! ## Moves (R171) -/

/-- A destination frame is taken: it is in flight until the switch. -/
def State.flyFrame (s : State) (library : Bool) (f page : Nat) (r : ReturnAt) : State :=
  let s := { s with mem := { s.mem with inflight := s.mem.inflight ++ [(⟨library, f, r, page⟩ : FlightFrame)] } }
  s.onBook library (frameDie library f) (fun b => { b with free := b.free - 1, flight := b.flight + 1 })

/-- Where the bytes of a page of the host swap lie: the lowest number not in use. -/
def State.hostFrame (s : State) : Nat :=
  let used := (s.mem.pages.filter (fun (e : Nat × PageDesc) => e.2.state != .free && e.2.tier == .host)).map (fun e => e.2.frame)
  ((List.range (used.length + 1)).find? (fun f => !decide (f ∈ used))).getD 0

/-- Start a move: destination quota and frame are taken, MIGRATING is set. -/
def State.startMove (s : State) (page : Nat) (target : Tier) (copy promote restore : Bool) : Option State :=
  let d := s.page page
  let k := keeperOf page
  let go (s : State) (f : Nat) : State :=
    let s := s.onPage page (fun d => { d with migrating := true })
    { s with mem := { s.mem with moves := s.mem.moves ++ [{ page, target, frame := f, copy, promote, restore }] } }
  match target with
  | .hbm =>
    let samePool := d.tier == .hbm && !restore
    let payer := if copy ∧ (d.holder = 0x3FF0 ∨ d.holder = 0x3FF2 ∨ d.prevHolder = 0x3FF2) then 1 + d.inst else 65
    if !samePool && !s.quotaGrant payer d.cls then none
    else
      match s.takeFrame false k with
      | none => none
      | some f =>
        let s := s.flyFrame false f page (.move page)
        let s := if samePool then s else s.onPool payer (fun p => { p with used := p.used + 1 })
        some (go s f)
  | .library =>
    if poolFree (s.pool 66) = 0 ∧ d.tier ≠ .library then none
    else
      match s.takeFrame true k with
      | none => none
      | some f =>
        let s := s.flyFrame true f page (.move page)
        let s := if d.tier = .library then s else s.onPool 66 (fun p => { p with used := p.used + 1 })
        some (go s f)
  | .host =>
    if poolFree (s.pool 67) = 0 then none
    else
      let f := s.hostFrame
      some (go (s.onPool 67 (fun p => { p with used := p.used + 1 })) f)
  | .none => none

/-- The target tier a MOVE names. -/
def tierOf (t : Nat) : Tier := match t with | 0 => .hbm | 1 => .library | 2 => .host | _ => .none

/-- MOVE (R171): what may move, and the answer OK, BAD_STATE or NOPAGE. -/
def State.movePage (s : State) (page target : Nat) (copy : Bool) : State :=
  let d := s.page page
  let t := tierOf target
  let may :=
    !d.migrating &&
    match d.state, t with
    | .sealed, .hbm => !copy || (d.tier == .library && !d.hbmCopy)
    | .sealed, .library => !d.poisoned && !copy && (d.tier == .hbm || d.tier == .library)
    | .sealed, .host => !d.poisoned && !copy && d.tier == .hbm
    | .owned, .hbm => !copy
    | _, _ => false
  if !may then s.answers 6
  else
    match s.startMove page t copy false false with
    | some s => s.answers 0
    | none => s.answers 1

/-- A model that has a step end: it serves (R171). -/
def State.hasStepEnd (s : State) (n : Nat) : Bool := decide ((s.inst n).bind.state = .serving)

/-- The switch of a move: FRAME and TIER change in one step, the source frame stays in flight (R171). -/
def State.switchMove (s : State) (j : MoveJob) : State :=
  let d := s.page j.page
  let dropFlight (s : State) (library : Bool) : State :=
    let s := { s with mem := { s.mem with inflight := s.mem.inflight.filter (fun x => !(x.library == library && x.frame == j.frame && x.until_ == ReturnAt.move j.page)) } }
    s.onBook library (frameDie library j.frame) (fun b => { b with flight := b.flight - 1, owned := b.owned + 1 })
  let s := { s with mem := { s.mem with moves := s.mem.moves.filter (fun m => m.page != j.page) } }
  let s := if j.target = .hbm then dropFlight s false else if j.target = .library then dropFlight s true else s
  if j.copy then
    s.onPage j.page (fun d => { d with migrating := false, hbmCopy := true, copyFrame := j.frame, copyGrowth := !(d.holder == 0x3FF0 || d.holder == 0x3FF2 || d.prevHolder == 0x3FF2) })
  else if j.keep then
    let s := s.onPool (pagePool d) (fun p => { p with used := p.used - 1 })
    let s := s.onPool (1 + d.inst) (fun p => { p with used := p.used + 1 })
    s.onPage j.page (fun d => { d with
      migrating := false, tier := j.target, frame := j.frame, hbmCopy := true, copyFrame := d.frame, copyGrowth := false, reserve := false, growth := false })
  else
    let ret : ReturnAt := if s.hasStepEnd d.inst then .stepEnd d.inst else .timer (s.now + ticksPerMs)
    let fly (s : State) (library : Bool) : State :=
      let s := { s with mem := { s.mem with inflight := s.mem.inflight ++ [(⟨library, d.frame, ret, j.page⟩ : FlightFrame)] } }
      s.onBook library (frameDie library d.frame) (fun b => { b with owned := b.owned - 1, flight := b.flight + 1 })
    let s := if d.tier = .hbm then fly s false else if d.tier = .library then fly s true else s
    let s := if j.target = .hbm ∧ d.tier ≠ .hbm then s.dropCopy j.page else s
    let moved := j.target ≠ d.tier ∨ j.restore
    let s := if moved then s.onPool (pagePool d) (fun p => { p with used := p.used - 1 }) else s
    let toGrowth := decide (j.target = .hbm) && (decide (d.tier ≠ .hbm) || j.restore)
    let s := if toGrowth && !d.growth then s.bump (instIdx d.inst 0x30) 3
      else if d.tier = .hbm ∧ moved ∧ d.growth ∧ !toGrowth then s.setEnt (instIdx d.inst 0x30) 3 (s.ent (instIdx d.inst 0x30) 3 - 1) else s
    s.onPage j.page (fun d => { d with
      migrating := false, tier := j.target, frame := j.frame
      growth := if moved then toGrowth else d.growth
      reserve := d.reserve && !moved
      state := if j.promote then .owned else d.state })

/-- A move ends without a switch: the destination returns, the source stays (R171). -/
def State.failMove (s : State) (j : MoveJob) : State :=
  let d := s.page j.page
  let s := { s with mem := { s.mem with moves := s.mem.moves.filter (fun m => m.page != j.page) } }
  let s := match s.mem.inflight.find? (fun x => x.frame == j.frame && x.until_ == ReturnAt.move j.page) with
    | some x => s.landFrame x
    | none => s
  let payer := match j.target with
    | .library => 66
    | .host => 67
    | _ => if j.copy ∧ (d.holder = 0x3FF0 ∨ d.holder = 0x3FF2 ∨ d.prevHolder = 0x3FF2) then 1 + d.inst else 65
  let s := if j.target = d.tier ∧ !j.restore then s else s.onPool payer (fun p => { p with used := p.used - 1 })
  s.onPage j.page (fun d => { d with migrating := false })

/-- Promote a lower-tier page for a privileged write or an UNSEAL (R154). -/
def State.promote (s : State) (page : Nat) : Option State :=
  if (s.page page).migrating then none else s.startMove page .hbm false true false

/-- UNSEAL (R169, R154). -/
def State.unsealPage (s : State) (page : Nat) : State :=
  let d := s.page page
  match d.state with
  | .owned => s.answers 0
  | .sealed =>
    if d.refs > 1 then s.answers 6
    else if d.tier = .hbm then (s.onPage page (fun d => { d with state := .owned })).answers 0
    else match s.promote page with
      | some s => s.answers 0
      | none => s.answers 6
  | _ => s.answers 6

/-! ## Access to the paged range -/

/-- The page at an offset of the paged range. -/
def offPage (off : Nat) : Nat := off / pageBytes

/-- Cause that an access meets: 0 none, 0x1607 another model's page, 0x1608 reserved offset or `FREE` page (R149, R150). -/
def State.accessCause (s : State) (n : Nat) (priv : Bool) (off : Nat) : Nat :=
  if 2 ^ 48 ≤ off then 0x1608
  else if !priv && decide (pageInst (offPage off) ≠ n) then 0x1607
  else if (s.page (offPage off)).state = .free then 0x1608
  else 0

/-- Is the page data of a sequence: held, now or before, by a Roster entry or the prefix tree (R165)? -/
def kvPage (d : PageDesc) : Bool :=
  decide (d.holder < numEntries) || decide (d.holder = 0x3FF1) ||
  (decide (d.holder = 0x3FFF) && (decide (d.prevHolder < numEntries) || decide (d.prevHolder = 0x3FF1)))

/-- Read one beat: bytes and the owner of its poison. A failed granule of a lower tier reads poisoned, with the load's owner
on a KV page and 0x3FFF on a shared one without an HBM copy; so does a granule that came late for this owner (R155, R165, R166). -/
def State.readBeat (s : State) (off owner : Nat) : Beat :=
  let p := offPage off
  let d := s.page p
  let g := off % pageBytes / granuleBytes
  let b := getBytes s.mem.bytes off 64
  if d.tier ≠ .hbm ∧ !(d.hbmCopy) ∧ (p, g) ∈ s.mem.failedGranules then ⟨freeBeat s.free off, some (if kvPage d then owner else 0x3FFF)⟩
  else if (p, g, owner) ∈ s.mem.late then ⟨freeBeat s.free off, some owner⟩
  else ⟨b, (s.mem.poison.find? (fun e => e.1 == off / 64)).map (·.2)⟩

/-- Read `n` beats. -/
def State.readBeats (s : State) (off owner : Nat) (n : Nat) : List Beat := (List.range n).map (fun i => s.readBeat (off + 64 * i) owner)

/-- After beats were read: where one came poisoned, the next read's free bytes are others (log entry 47). -/
def State.afterRead (s : State) (b : List Beat) : State := if b.any (fun x => x.poison.isSome) then s.fresh else s

/-- Store one beat: bytes, and the side-band mark; POISONED stays set (R155). -/
def State.writeBeat (s : State) (off : Nat) (b : Beat) : State :=
  let m := s.mem
  let m := { m with bytes := putBytes m.bytes off b.bytes,
                    poison := match b.poison with
                      | some o => sins m.poison (off / 64) o
                      | none => serase m.poison (off / 64) }
  let s := { s with mem := m }
  if b.poison.isSome then s.onPage (offPage off) (fun d => { d with poisoned := true }) else s

/-- Store beats at rising offsets. -/
def State.writeBeats : State → Nat → List Beat → State
  | s, _, [] => s
  | s, off, b :: r => State.writeBeats (s.writeBeat off b) (off + 64) r

/-- Cut bytes into beats of 64 that carry no poison. -/
def toBeats (b : Bytes) : List Beat := (List.range ((b.length + 63) / 64)).map (fun i => ⟨padTo 64 (slice b (64 * i) 64), none⟩)

/-- A write to the paged range after its access check: the state after it, and 0x1606 where a `SEALED` page turns it away.
A privileged write unseals, through a promotion on a lower tier; it applies when that completes (R154). -/
def State.writePaged (s : State) (priv : Bool) (off : Nat) (beats : List Beat) : State × Nat :=
  let p := offPage off
  let d := s.page p
  if d.state = .sealed then
    if !priv || decide (1 < d.refs) then (s, 0x1606)
    else if d.tier = .hbm then (State.writeBeats (s.onPage p (fun d => { d with state := .owned })) off beats, 0)
    else
      let w : WaitingWrite := ⟨p, off, beats.flatMap (·.bytes)⟩
      if s.mem.moves.any (fun j => j.page == p && j.promote) then
        ({ s with mem := { s.mem with waitingWrites := s.mem.waitingWrites ++ [w] } }, 0)
      else match s.promote p with
        | some s => ({ s with mem := { s.mem with waitingWrites := s.mem.waitingWrites ++ [w] } }, 0)
        | none => (s, 0x1606)
  else (s.writeBeats off beats, 0)

/-! ## Striped windows (R159, R160) -/

/-- Where an offset of the module range lies. -/
inductive Place where
  | paged (off : Nat)
  | remote (node off : Nat)
  | reserved
  deriving DecidableEq, Repr

/-- Translate an offset of the module range: the paged range as it is, a window by its descriptor, the rest reserved. -/
def State.place (s : State) (off : Nat) : Place :=
  if off < 2 ^ 48 then .paged off
  else if off < 2 ^ 48 + 2 ^ 44 then
    let w := (off - 2 ^ 48) / 2 ^ 40
    let o := (off - 2 ^ 48) % 2 ^ 40
    let d := s.blob 0x2260 (w + 1)
    let n := field d 2 1
    if field d 0 1 ≠ 1 ∨ n = 0 ∨ field d 8 8 ≤ o then .reserved
    else
      let i := o / 4096
      let q := i / n
      let m := (i % n + q * 0x9E3779B1 % 2 ^ 32 % n) % n
      let node := field d (0x10 + 8 * m) 2
      let at_ := field d (0x14 + 8 * m) 4 * pageBytes + q * 4096 + o % 4096
      if nodeModule node = s.moduleIndex then .paged at_ else .remote node at_
  else .reserved

end Sys2Proof.Machine
end

