-- ==== Sys2Proof/Machine/Operands.lean ====
section
/-! DEFINITION. Operand forms: the words of engine commands (03_cores_and_slates.md R85 to R87), immediates of sequencer
instructions (R89), math configuration entries (05_accumulation.md R140), and addresses (10_tolgil_fabric.md R265, R266). -/

namespace Sys2Proof

open Machine

/-! ## Load and store commands (R85) -/

/-- A field of word 0. -/
def EngineCmd.f0 (c : EngineCmd) (hi lo : Nat) : Nat := bits c.w0.toNat hi lo
def EngineCmd.op (c : EngineCmd) : Nat := c.f0 7 0
def EngineCmd.tagged (c : EngineCmd) : Bool := c.w0.getLsbD 8
def EngineCmd.counts (c : EngineCmd) : Bool := c.w0.getLsbD 9
def EngineCmd.fence (c : EngineCmd) : Bool := c.w0.getLsbD 10
def EngineCmd.consume (c : EngineCmd) : Bool := c.w0.getLsbD 11
def EngineCmd.ack (c : EngineCmd) : Bool := c.w0.getLsbD 12
def EngineCmd.slot (c : EngineCmd) : Nat := c.f0 25 16
def EngineCmd.nslot (c : EngineCmd) : Nat := c.f0 31 26 + 1
def EngineCmd.counter (c : EngineCmd) : Nat := c.f0 37 32
def EngineCmd.ackCounter (c : EngineCmd) : Nat := c.f0 43 38
def EngineCmd.owner (c : EngineCmd) : Nat := c.f0 57 44
def EngineCmd.addr (c : EngineCmd) : Nat := c.w1.toNat
def EngineCmd.stride (c : EngineCmd) : Nat := bits c.w2.toNat 31 0

/-- Address of slot i. -/
def EngineCmd.addrOf (c : EngineCmd) (i : Nat) : Nat := (c.addr + i * c.stride) % 2 ^ 64

/-- What R87 asks of the words that both kinds share: reserved zero, aligned, slots within 735. -/
def EngineCmd.wellShaped (c : EngineCmd) : Bool :=
  c.f0 15 13 == 0 && c.f0 63 58 == 0 && c.addr % 64 == 0 && c.stride % 64 == 0 &&
  bits c.w2.toNat 63 32 == 0 && c.w3 == 0 && decide (c.slot + c.nslot - 1 ≤ 735)

/-- A load command that is executed (R87). -/
def EngineCmd.loadOk (c : EngineCmd) : Bool :=
  c.op == 1 && c.wellShaped && !c.consume && !c.ack && c.ackCounter == 0

/-- A store command that is executed (R87). -/
def EngineCmd.storeOk (c : EngineCmd) : Bool := c.op == 3 && c.wellShaped && c.owner == 0

/-! ## Math commands (R86) -/

def EngineCmd.unit (c : EngineCmd) : Nat := c.f0 7 0
def EngineCmd.cfg (c : EngineCmd) : Nat := c.f0 13 8
def EngineCmd.slotA (c : EngineCmd) : Nat := c.f0 25 16
def EngineCmd.slotB (c : EngineCmd) : Nat := c.f0 35 26
def EngineCmd.slotD (c : EngineCmd) : Nat := c.f0 45 36
def EngineCmd.count (c : EngineCmd) : Nat := c.f0 51 46 + 1
def EngineCmd.consumeA (c : EngineCmd) : Bool := c.w0.getLsbD 52
def EngineCmd.consumeB (c : EngineCmd) : Bool := c.w0.getLsbD 53
def EngineCmd.taggedD (c : EngineCmd) : Bool := c.w0.getLsbD 54
def EngineCmd.hold (c : EngineCmd) : Bool := c.w0.getLsbD 55
def EngineCmd.hasB (c : EngineCmd) : Bool := c.slotB != 0x3FF

/-- A math command that is executed (R87). -/
def EngineCmd.mathOk (c : EngineCmd) : Bool :=
  (c.unit == 1 || c.unit == 2) && c.f0 15 14 == 0 && c.f0 63 56 == 0 && bits c.w1.toNat 63 32 == 0 && c.w2 == 0 && c.w3 == 0 &&
  decide (c.slotA + c.count - 1 ≤ 735) && (!c.hasB || decide (c.slotB + c.count - 1 ≤ 735)) &&
  (c.hold || decide (c.slotD + c.count - 1 ≤ 735))

end Sys2Proof

namespace Sys2Proof.Machine

/-- The slots of a stream. -/
def slotRange (first n : Nat) : List Nat := (List.range n).map (first + ·)

/-! ## Math configuration entries (05 R140) -/

/-- A math configuration entry, decoded. -/
structure MathCfg where
  aFmt : Nat
  bFmt : Nat
  aScale : Nat
  bScale : Nat
  block : Nat
  staged : Bool
  run : Nat
  promote : Bool
  stochastic : Bool
  sentinelK : Nat
  outFmt : Nat
  outScale : Nat
  outBlock : Nat
  roundKey : Nat
  t : Nat
  kernelId : Nat
  deriving DecidableEq, Repr

/-- Elements of a block code. -/
def blockOf (code : Nat) : Nat := match code with | 1 => 16 | 2 => 32 | 3 => 64 | _ => 0

/-- Decode the 24 bytes of an entry. -/
def decodeCfg (b : Bytes) : MathCfg :=
  let w0 := field b 0 8
  let w1 := field b 8 8
  let w2 := field b 16 8
  { aFmt := bits w0 7 0, bFmt := bits w0 15 8, aScale := bits w0 23 16, bScale := bits w0 31 24, block := blockOf (bits w0 33 32)
    staged := w0.testBit 34, run := bits w0 37 35, promote := w0.testBit 38, stochastic := w0.testBit 39
    sentinelK := bits w0 44 40, outFmt := bits w0 52 45, outScale := bits w0 60 53, outBlock := blockOf (bits w0 62 61)
    roundKey := bits w1 31 0, t := bits w1 63 32, kernelId := bits w2 17 0 }

/-- Reset value of an entry: all zero but T = 1.0. -/
def cfgReset : Bytes := zeros 12 ++ le 4 0x3F800000 ++ zeros 8

/-! ## Immediates (R89) -/

/-- IMM sign-extended to 64 bits. -/
def immSext (i : BitVec 44) : Word64 := i.signExtend 64
/-- A field of IMM. -/
def immBits (i : BitVec 44) (hi lo : Nat) : Nat := bits i.toNat hi lo

/-! ## Cores behind logical positions (R72, 01_architecture.md R17, 17_object_dictionary.md R465) -/

/-- Good mask of a tile and the logical position that its spare serves. -/
def State.spareMap (s : State) (die tile : Nat) : Nat × Nat := sget (0x1FFFFFF, 0xFF) s.flt.spares (die * 48 + tile)

/-- Good cores of a tile. -/
def State.goodCores (s : State) (die tile : Nat) : Nat := popCount (s.spareMap die tile).1 25

/-- The physical core that serves a logical position; none on a vacant one or in a tile with fewer than 20 good cores. -/
def State.coreAt (s : State) (die tile logical : Nat) : Option Nat :=
  let m := s.spareMap die tile
  if s.goodCores die tile < 20 ∨ 24 ≤ logical then none
  else if m.1.testBit logical then some (coreNo die tile logical)
  else if m.2 = logical ∧ m.1.testBit 24 then some (coreNo die tile 24)
  else none

/-- The logical position of core `c`, 31 when it is not mapped. -/
def State.logicalOf (s : State) (c : Nat) : Nat :=
  let m := s.spareMap (coreDie c) (coreTile c)
  let l := if corePhys c = 24 then m.2 else corePhys c
  if s.coreAt (coreDie c) (coreTile c) l = some c then l else 31

/-! ## Targets of an address -/

/-- What an address names for a requester of this module. -/
inductive Target where
  /-- A core of this module, with the offset in its window. -/
  | core (c off : Nat)
  /-- An offset of the module range. -/
  | memory (off : Nat)
  /-- The fabric service page of an X die. -/
  | service (die off : Nat)
  /-- A node of another module or a host endpoint. -/
  | remote (node off : Nat)
  /-- No such place: the cause to raise. -/
  | none (cause : Nat)
  /-- A fenced or lost target (16 R443). -/
  | lost
  deriving DecidableEq, Repr

/-- The window of a C die (R72): a core's slate or control page, else cause 0x1308. -/
def State.window (s : State) (die off : Nat) : Target :=
  if 0x12000000 ≤ off then .none 0x1308
  else
    let k := off / 0x40000
    let o := off % 0x40000
    if 0x31000 ≤ o then .none 0x1308
    else match s.coreAt die (k / 24) (k % 24) with
      | some c => .core c o
      | none => .none 0x1308

/-- A place of this module's own dies; `priv` is K0 or an X die. -/
def State.ownTarget (s : State) (die off : Nat) (priv : Bool) : Target :=
  if 25 ≤ die then .none 0x1A01
  else if s.flt.fenced.testBit die then .lost
  else if die < 16 then s.window die off
  else if die < 20 then
    (if off < 2 ^ 48 ∧ s.flt.fenced.testBit (16 + keeperOf (off / 65536)) then .lost else .memory off)
  else if die < 24 then (if priv ∧ off < 0x100000 then .service die off else .none 0x1A01)
  else .none 0x1A01

/-- Resolve a Tolgil address (10 R265, R270, R296, R297; log entry 19). -/
def State.target (s : State) (addr : Nat) (priv : Bool) : Target :=
  let node := addr / 2 ^ 52
  let off := addr % 2 ^ 52
  let m := nodeModule node
  if m = s.moduleIndex then s.ownTarget (nodeDie node) off priv
  else if 120 ≤ m then
    (if nodeDie node ≠ 0 ∨ s.ent 0x2320 (m - 119) = 0xFF then .none 0x1A01 else .remote node off)
  else if 25 ≤ nodeDie node ∨ s.route m = 0 then .none 0x1A01
  else if s.nodeState node = .lost then .lost
  else .remote node off

end Sys2Proof.Machine
end

