-- ==== Sys2Proof/Machine/Flags.lean ====
section
/-! DEFINITION. The flags beside the data of a slate: tags, fill flags, owners, poison and arrival counters
(03_cores_and_slates.md R77 to R83). -/

namespace Sys2Proof.Machine

/-! ## Owners (R80) -/

/-- Owner of data: the one owner other than 0x3FFF that all inputs leave, else 0x3FFF. -/
def mergeOwner (l : List Nat) : Nat :=
  match (l.filter (· != 0x3FFF)).eraseDups with
  | [x] => x
  | _ => 0x3FFF

/-- Owner of poison: the single member of the set of poison owners, else 0x3FFF. -/
def mergePoison (l : List Nat) : Nat :=
  match l.eraseDups with
  | [x] => x
  | _ => 0x3FFF

/-! ## Slots of a core -/

/-- Slot `i`. -/
def CoreSt.slot (c : CoreSt) (i : Nat) : Slot := sget {} c.slots i

/-- Set slot `i`. -/
def CoreSt.setSlot (c : CoreSt) (i : Nat) (v : Slot) : CoreSt := { c with slots := sset {} c.slots i v }

/-- Is a read of the slot served: `FULL` or `POISON` (R77)? -/
def CoreSt.readable (c : CoreSt) (i : Nat) : Bool := (c.slot i).tag != .empty

/-- May a tagged write begin: `EMPTY`, no fill in progress (R77)? -/
def CoreSt.writable (c : CoreSt) (i : Nat) : Bool := (c.slot i).tag == .empty && !(c.slot i).filling

/-- First beat of a tagged write (R78). -/
def CoreSt.beginFill (c : CoreSt) (i : Nat) : CoreSt := c.setSlot i { c.slot i with filling := true }

/-- A fill's last beat commits: `FULL` with the owner, or `POISON` with the merged owner (R78, R80). -/
def CoreSt.endFill (c : CoreSt) (i owner : Nat) (poison : List Nat) : CoreSt :=
  c.setSlot i (if poison.isEmpty then { tag := .full, owner } else { tag := .poison, owner := mergePoison poison })

/-- A raw write commits: `EMPTY` stays, `FULL` and `POISON` take poison beats (R78). -/
def CoreSt.rawWrite (c : CoreSt) (i : Nat) (poison : List Nat) : CoreSt :=
  let sl := c.slot i
  match sl.tag with
  | .empty => c
  | .full => if poison.isEmpty then c else c.setSlot i { sl with tag := .poison, owner := mergePoison poison }
  | .poison => c.setSlot i { sl with owner := mergePoison (sl.owner :: poison) }

/-- A consuming read empties the slot; a plain one leaves it (R78). -/
def CoreSt.readSlot (c : CoreSt) (i : Nat) (consume : Bool) : CoreSt :=
  if consume then c.setSlot i { c.slot i with tag := .empty } else c

/-- `REL` of one slot that is not in a fill. -/
def CoreSt.relSlot (c : CoreSt) (i : Nat) : CoreSt := c.setSlot i { c.slot i with tag := .empty }

/-- `MARK` of one slot that is not in a fill: `POISON` stays. -/
def CoreSt.markSlot (c : CoreSt) (i owner : Nat) : CoreSt :=
  if (c.slot i).tag = .poison then c else c.setSlot i { c.slot i with tag := .full, owner }

/-- The 256 bytes of a slot. -/
def CoreSt.slotBytes (c : CoreSt) (i : Nat) : Bytes := getBytes c.slate (256 * i) 256

/-- Write bytes into the slate. -/
def CoreSt.putSlate (c : CoreSt) (off : Nat) (b : Bytes) : CoreSt := { c with slate := putBytes c.slate off b }

/-! ## Arrival counters (R82, R83) -/

/-- Counter `n`. -/
def CoreSt.count (c : CoreSt) (n : Nat) : Word32 := sget 0 c.arrival n

/-- Set counter `n`. -/
def CoreSt.setCount (c : CoreSt) (n : Nat) (v : Word32) : CoreSt := { c with arrival := sset 0 c.arrival n v }

/-- One increment; it wraps. -/
def CoreSt.increment (c : CoreSt) (n : Nat) : CoreSt := c.setCount n (c.count n + 1)

/-- Flag counter `n` in ARRIVAL_POISON. -/
def CoreSt.flagCount (c : CoreSt) (n : Nat) : CoreSt := { c with arrivalPoison := c.arrivalPoison ||| (1#64 <<< n) }

/-- Is the wait for threshold `h` satisfied: the signed difference is at least 0 (R83)? -/
def satisfied (count h : Word32) : Bool := !(count - h).msb

end Sys2Proof.Machine
end

