-- ==== Sys2Proof/Machine/Formats.lean ====
section
/-! DEFINITION. The number formats (04_number_formats.md R99 to R125): decoding, packing, output conversion, the counter
generator. -/

namespace Sys2Proof.Machine

/-! ## Format codes (R99) -/

/-- Bits per element; packed ternary counts as 8 for a byte of five. -/
def fmtBits (f : Nat) : Nat :=
  match f with
  | 0x01 => 1 | 0x02 => 2 | 0x03 => 8 | 0x04 => 2 | 0x05 => 3 | 0x06 => 4 | 0x07 => 6 | 0x08 => 8 | 0x09 => 4
  | 0x0A => 6 | 0x0B => 6 | 0x0C => 8 | 0x0D => 8 | 0x0E => 16 | 0x0F => 16 | 0x10 => 32 | _ => 8

/-- A two's-complement integer format. -/
def fmtInt (f : Nat) : Bool := decide (4 ≤ f) && decide (f ≤ 8)

/-- Mantissa bits, bias, magnitude code of the largest finite value, of a floating-point format (R104 to R106). -/
def fmtFloat (f : Nat) : Option (Nat × Nat × Nat) :=
  match f with
  | 0x09 => some (1, 1, 7)
  | 0x0A => some (3, 1, 31)
  | 0x0B => some (2, 3, 31)
  | 0x0C => some (3, 7, 0x7E)
  | 0x0D => some (2, 15, 0x7B)
  | 0x0E => some (7, 127, 0x7F7F)
  | 0x0F => some (10, 15, 0x7BFF)
  | 0x10 => some (23, 127, 0x7F7FFFFF)
  | _ => none

/-- Code of +∞, where the format has one. -/
def fmtInf (f : Nat) : Option Nat :=
  match f with
  | 0x0D => some 0x7C | 0x0E => some 0x7F80 | 0x0F => some 0x7C00 | 0x10 => some 0x7F800000 | _ => none

/-- The canonical NaN, where the format has one (R106). -/
def fmtNan (f : Nat) : Option Nat :=
  match f with
  | 0x0C => some 0x7F | 0x0D => some 0x7E | 0x0E => some 0x7FC0 | 0x0F => some 0x7E00 | 0x10 => some nan32 | _ => none

/-- Exponent of the largest finite binade (R105). -/
def fmtEmax (f : Nat) : Int :=
  match f with
  | 0x09 => 2 | 0x0A => 2 | 0x0B => 4 | 0x0C => 8 | 0x0D => 15 | 0x0E => 127 | 0x0F => 15 | 0x10 => 127 | _ => 0

/-- The lowest exponent of a format, q_lo (R128); 16-bit and 32-bit floats by their smallest subnormal. -/
def fmtLow (f : Nat) (scaled : Bool) : Int :=
  match f with
  | 0x09 => -1 | 0x0A => -3 | 0x0B => -4 | 0x0C => -9 | 0x0D => -16 | 0x0E => -133 | 0x0F => -24 | 0x10 => -149
  | _ => if fmtInt f ∧ scaled then 2 - (fmtBits f : Int) else 0

/-- The exponent step of an integer code: w − 2 fraction bits under a block scale (R102). -/
def intExp (f : Nat) (scaled : Bool) : Int := if scaled then 2 - (fmtBits f : Int) else 0

/-! ## Decoding -/

/-- Decode a floating-point code (R105). -/
def decFloat (f m b : Nat) (c : Nat) : Num :=
  let w := fmtBits f
  let neg := c.testBit (w - 1)
  let mag := c % 2 ^ (w - 1)
  let e := mag / 2 ^ m
  let k := mag % 2 ^ m
  if f = 0x0C ∧ mag = 0x7F then .nan
  else match fmtInf f with
    | some i => if mag = i then .inf neg else if i < mag then .nan
        else if e = 0 then .fin neg k (1 - (b : Int) - m) else .fin neg (k + 2 ^ m) ((e : Int) - b - m)
    | none => if e = 0 then .fin neg k (1 - (b : Int) - m) else .fin neg (k + 2 ^ m) ((e : Int) - b - m)

/-- Decode one element code: its value, and whether the code is invalid (R102 to R106). -/
def decCode (f : Nat) (scaled : Bool) (c : Nat) : Num × Bool :=
  match fmtFloat f with
  | some p => (decFloat f p.1 p.2.1 c, false)
  | none =>
    if f = 0x01 then (.fin (c % 2 == 1) 1 0, false)
    else if f = 0x02 then
      (match c % 4 with
       | 1 => (.fin false 1 0, false)
       | 3 => (.fin true 1 0, false)
       | 2 => (.fin false 0 0, true)
       | _ => (.fin false 0 0, false))
    else
      let v := toInt (fmtBits f) c
      (.fin (decide (v < 0)) v.natAbs (intExp f scaled), false)

/-- Trit `i` of a packed byte, as a T2 code, and whether the byte is invalid (R103). -/
def tritOf (b i : Nat) : Nat × Bool :=
  if 243 ≤ b then (0, true)
  else match b / 3 ^ i % 3 with
    | 0 => (3, false)
    | 1 => (0, false)
    | _ => (1, false)

/-- Code `j` of a run of format `f` that starts at the first byte (R101, R103); T1P answers as a T2 code. -/
def runCode (f : Nat) (run : Bytes) (j : Nat) : Nat × Bool :=
  if f = 0x03 then tritOf (field run (j / 5) 1) (j % 5)
  else
    let w := fmtBits f
    (field run (w * j / 8) 5 / 2 ^ (w * j % 8) % 2 ^ w, false)

/-- Element `j` of a run: value and whether its code is invalid. -/
def runElem (f : Nat) (scaled : Bool) (run : Bytes) (j : Nat) : Num × Bool :=
  let c := runCode f run j
  if f = 0x03 then ((decCode 0x02 scaled c.1).1, c.2) else decCode f scaled c.1

/-- Bytes of a run of `n` elements. -/
def runBytes (f n : Nat) : Nat := if f = 0x03 then (n + 4) / 5 else (fmtBits f * n + 7) / 8

/-- Pack codes into a run, lowest bits first; T1P takes T2 codes (R101, R103). -/
def packRun (f : Nat) (codes : List Nat) : Bytes :=
  if f = 0x03 then
    (List.range ((codes.length + 4) / 5)).map (fun q =>
      BitVec.ofNat 8 ((List.range 5).foldl (fun b i =>
        b + (match codes.getD (5 * q + i) 0 with | 1 => 2 | 3 => 0 | _ => 1) * 3 ^ i) 0))
  else
    let w := fmtBits f
    le (runBytes f codes.length) (codes.foldr (fun c acc => c % 2 ^ w + acc * 2 ^ w) 0)

/-- Decode a scale code (R107): NaN, or an exact value. -/
def decScale (sf c : Nat) : Num :=
  if sf = 0x20 then (if c = 255 then .nan else .fin false 1 ((c : Int) - 127))
  else if sf = 0x21 then decFloat 0x0C 3 7 c
  else .fin false 1 0

/-! ## Output conversion (R118 to R123) -/

/-- What one conversion counts (R122): 0 nothing, 1 a saturation, 2 a lost special. -/
abbrev ConvEvent := Nat

/-- Code of the largest finite magnitude with a sign. -/
def largestCode (f : Nat) (neg : Bool) : Nat :=
  match fmtFloat f with
  | some p => p.2.2 + (if neg then 2 ^ (fmtBits f - 1) else 0)
  | none =>
    if f = 0x02 ∨ f = 0x03 then (if neg then 3 else 1)
    else if f = 0x01 then (if neg then 1 else 0)
    else if neg then 2 ^ (fmtBits f - 1) else 2 ^ (fmtBits f - 1) - 1

/-- Largest magnitude of an integer or ternary format, in units of its step. -/
def intLimit (f : Nat) (neg : Bool) : Nat :=
  if f = 0x02 ∨ f = 0x03 then 1 else if neg then 2 ^ (fmtBits f - 1) else 2 ^ (fmtBits f - 1) - 1

/-- Convert a signed quotient to format `f` (R120, R121): in a block or plain, to nearest even or by a draw. -/
def convQuot (f : Nat) (block : Bool) (draw : Option Nat) (neg : Bool) (n d : Nat) : Nat × ConvEvent :=
  match fmtFloat f with
  | some p =>
    let c := magCode p.1 p.2.1 draw n d
    let s := if neg then 2 ^ (fmtBits f - 1) else 0
    if p.2.2 < c then
      (match fmtInf f with
       | some i => if block ∧ f = 0x0D then (p.2.2 + s, 1) else (i + s, 1)
       | none => (p.2.2 + s, 1))
    else (c + s, 0)
  | none =>
    if f = 0x01 then (if neg ∧ n ≠ 0 then 1 else 0, 0)
    else
      let g := overGrid n d (intExp f (block && fmtInt f))
      let k := match draw with
        | none => rneQuot g.1 g.2
        | some r => drawQuot g.1 g.2 r
      if intLimit f neg < k then (largestCode f neg, 1)
      else (ofInt (if f = 0x02 ∨ f = 0x03 then 2 else fmtBits f) (if neg then -(k : Int) else k), 0)

/-- Convert an exact number to format `f` (R120, R121). T1P answers a T2 code, to be packed. -/
def convNum (f : Nat) (block : Bool) (draw : Option Nat) : Num → Nat × ConvEvent
  | .nan => (match fmtNan f with | some c => (c, 0) | none => (0, 2))
  | .inf s =>
    (match fmtInf f with
     | some c => (c + (if s then 2 ^ (fmtBits f - 1) else 0), 0)
     | none => (largestCode f s, 2))
  | .fin s n q => if 0 ≤ q then convQuot f block draw s (n * 2 ^ q.toNat) 1 else convQuot f block draw s n (2 ^ (-q).toNat)

/-- floor(log2) of a finite non-zero number. -/
def log2Num : Num → Int
  | .fin _ n q => (Nat.log2 n : Int) + q
  | _ => 0

/-- The magnitude of a number. -/
def absNum : Num → Num
  | .fin _ n q => .fin false n q
  | .inf _ => .inf false
  | .nan => .nan

/-- Decoded largest finite magnitude of an element format under a block scale. -/
def qmaxNum (f : Nat) : Num := (decCode (if f = 0x03 then 0x02 else f) true (largestCode f false)).1

/-- Is a number zero? -/
def isZero : Num → Bool
  | .fin _ n _ => n == 0
  | _ => false

/-- Is a number finite? -/
def isFin : Num → Bool
  | .fin _ _ _ => true
  | _ => false

/-- The scale code of a block of FP32 values (R119). -/
def selectScale (sf f : Nat) (w : List Nat) : Nat :=
  let v := w.map (fun c => absNum (dec32 c))
  if v.any (fun x => !isFin x) then (if sf = 0x20 then 0xFF else 0x7F)
  else
    let amax := v.foldl (fun a x => if ltNum a x then x else a) (.fin false 0 0)
    if isZero amax then (if sf = 0x20 then 127 else 0x38)
    else if sf = 0x20 then
      let e := log2Num amax - fmtEmax f + 127
      if e < 0 then 0 else if 254 < e then 254 else e.toNat
    else
      let t := dec32 (divNum amax (qmaxNum f))
      match (List.range 0x7F).find? (fun c => decide (1 ≤ c) && !ltNum (decFloat 0x0C 3 7 c) t) with
      | some c => c
      | none => 0x7E

/-- Convert one block of results: its scale code, the element codes, what was counted (R118, R119, R122). -/
def convBlock (sf f : Nat) (vals : List (Num × Option Nat)) : Nat × List (Nat × ConvEvent) :=
  let w := vals.map (fun v => (rnd32 v.1, v.2))
  let sc := selectScale sf f (w.map (·.1))
  if decScale sf sc = .nan then (sc, w.map (fun _ => (0, 0)))
  else if w.all (fun x => isZero (dec32 x.1)) then (sc, w.map (fun _ => (0, 0)))
  else
    (sc, w.map (fun x =>
      let q := if sf = 0x20 then mulNum (dec32 x.1) (.fin false 1 (127 - (sc : Int))) else dec32 (divNum (dec32 x.1) (decScale sf sc))
      convNum f true x.2 q))

/-! ## Stochastic rounding (R124, R125) -/

/-- One round of the counter generator. -/
def genRound (k0 k1 : Nat) (c : Nat × Nat × Nat × Nat) : Nat × Nat × Nat × Nat :=
  let p := 0xD2511F53 * c.1
  let q := 0xCD9E8D57 * c.2.2.1
  ((q / 2 ^ 32) ^^^ c.2.1 ^^^ k0, q % 2 ^ 32, (p / 2 ^ 32) ^^^ c.2.2.2 ^^^ k1, p % 2 ^ 32)

/-- `n` rounds with their keys. -/
def genRounds : Nat → Nat → Nat → Nat × Nat × Nat × Nat → Nat × Nat × Nat × Nat
  | 0, _, _, c => c
  | n + 1, k0, k1, c => genRounds n ((k0 + 0x9E3779B9) % 2 ^ 32) ((k1 + 0xBB67AE85) % 2 ^ 32) (genRound k0 k1 c)

/-- The counter generator: four words (R124). -/
def counterGen (k0 k1 c0 c1 c2 c3 : Nat) : Nat × Nat × Nat × Nat := genRounds 10 k0 k1 (c0, c1, c2, c3)

/-- Word `i` of the four. -/
def genWord (w : Nat × Nat × Nat × Nat) (i : Nat) : Nat :=
  match i with
  | 0 => w.1 | 1 => w.2.1 | 2 => w.2.2.1 | _ => w.2.2.2

/-- The draw of an output element (R125). -/
def elementDraw (roundKey kernelId : Nat) (k : DrawKey) : Nat :=
  let k1 := (kernelId + 2 ^ 18 * k.slot) % 2 ^ 32
  let w := match k.token with
    | some t => counterGen roundKey k1 (k.col / 4 % 2 ^ 32) t.1 (t.2 % 2 ^ 32) (t.2 / 2 ^ 32)
    | none => counterGen roundKey (setBit k1 31 true) (k.col / 4 % 2 ^ 32) (k.row % 2 ^ 32) (k.row / 2 ^ 32 % 2 ^ 32) 0
  genWord w (k.col % 4) / 256

end Sys2Proof.Machine
end

