-- ==== Sys2Proof/Machine/Pages.lean ====
section
/-! DEFINITION. The keepers' commands, step ends, audits, retirements (06_memory_tiers.md R168 to R178, R158;
16_faults_availability.md R446, R447, R450). -/

namespace Sys2Proof.Machine

/-! ## Commands of a keeper, one meaning per row -/

def execAlloc (pool inst holder cls : Nat) (wait : Bool) (requester : Nat) (s : State) : Host.Outcome State Fault Refusal :=
  if pool < 68 then unitOf numInsts inst (s.alloc pool inst holder cls wait requester) else .fault (.noSuchUnit pool)

def execFree (page inst holder : Nat) (s : State) : Host.Outcome State Fault Refusal := unitOf (2 ^ 32) page (s.freePage page inst holder)

def execRef (page inst : Nat) (s : State) : Host.Outcome State Fault Refusal := unitOf (2 ^ 32) page (s.refPage page inst)

def execUnref (page inst : Nat) (s : State) : Host.Outcome State Fault Refusal := unitOf (2 ^ 32) page (s.unrefPage page inst)

def execPin (page inst : Nat) (s : State) : Host.Outcome State Fault Refusal := unitOf (2 ^ 32) page (s.pinPage page inst)

def execSeal (page inst : Nat) (s : State) : Host.Outcome State Fault Refusal := unitOf (2 ^ 32) page (s.sealPage page inst)

def execUnseal (page : Nat) (s : State) : Host.Outcome State Fault Refusal := unitOf (2 ^ 32) page (s.unsealPage page)

def execMove (page target : Nat) (copy : Bool) (s : State) : Host.Outcome State Fault Refusal :=
  unitOf (2 ^ 32) page (s.movePage page target copy)

/-- The privileged writes that waited for a page's promotion apply, once it is `OWNED` in HBM (R154). -/
def State.applyWaiting (s : State) (page : Nat) : State :=
  let d := s.page page
  if d.state = .owned ∧ d.tier = .hbm ∧ !d.migrating then
    let mine := s.mem.waitingWrites.filter (fun w => w.page == page)
    let s := { s with mem := { s.mem with waitingWrites := s.mem.waitingWrites.filter (fun w => w.page != page) } }
    mine.foldl (fun s w => s.writeBeats w.offset (toBeats w.bytes)) s
  else s

def execPromotedWriteApply (page : Nat) (s : State) : Host.Outcome State Fault Refusal := unitOf (2 ^ 32) page (s.applyWaiting page)

/-- The source frame of a page with no step end returns 1 ms after the switch (R171). -/
def State.returnSources (s : State) (page : Nat) : State :=
  let mine := s.mem.inflight.filter (fun x => x.page == page && match x.until_ with | .timer _ => true | _ => false)
  mine.foldl (fun s x => (s.reach (match x.until_ with | .timer t => t | _ => 0)).landFrame x) s

def execSourceFrameReturn (page : Nat) (s : State) : Host.Outcome State Fault Refusal := unitOf (2 ^ 32) page (s.returnSources page)

/-! ## Books (R178, 16 R450) -/

/-- Frames of a die in service by its live channels. -/
def State.installed (s : State) (library : Bool) (d : Nat) : Nat :=
  if library then (if s.library then s.liveRows true d else 0)
  else (List.range 6).foldl (fun n j => n + s.liveRows false (6 * d + j)) 0

/-- Frames of a die retired one by one that its live rows still hold. -/
def State.retiredOn (s : State) (library : Bool) (d : Nat) : Nat :=
  (s.mem.retired.filter (fun r => r.1 == library && frameDie library r.2.1 == d &&
    decide (frameRow library r.2.1 < s.liveRows library (frameGroup library r.2.1)))).length

/-- What a walk of a keeper's descriptors finds: owned and in flight; the rest of the total is free. -/
def State.recount (s : State) (library : Bool) (d : Nat) : FrameBook :=
  let t : Tier := if library then .library else .hbm
  let mine := s.mem.pages.filter (fun (e : Nat × PageDesc) => e.2.state != .free && keeperOf e.1 == d)
  let owned := (mine.filter (fun e => e.2.tier == t)).length + (if library then 0 else (mine.filter (fun e => e.2.hbmCopy)).length)
  let flight := (s.mem.inflight.filter (fun x => x.library == library && frameDie library x.frame == d)).length
  let total := (s.book library d).total
  ⟨total - owned - flight, owned, flight, total⟩

/-- Pages and copies that a pool pays for. -/
def State.recountPool (s : State) (k : Nat) : Nat :=
  (s.mem.pages.filter (fun (e : Nat × PageDesc) => e.2.state != .free && pagePool e.2 == k)).length +
  (s.mem.pages.filter (fun (e : Nat × PageDesc) => e.2.hbmCopy && copyPool e.2 == k)).length

/-- A book of keeper `d` differs: the record, the count, and 0x2007 with a host event at the third within 24 h (16 R450). -/
def State.booksDiffer (s : State) (d pool : Nat) : State :=
  let s := s.raise (fault 0x160B { die := 16 + d, unit := 2, locA := pool })
  let s := (s.bump 0x2250 3).countError (2 ^ 61 + d) 0x160B
  if 3 ≤ s.errorsIn (2 ^ 61 + d) 0x160B ticksPerDay then
    (s.raise (fault 0x2007 { die := 16 + d, unit := 2 })).postEvent 8 (le 1 (16 + d))
  else s

/-- Compare a keeper's frame book of a tier with a recount, and replace it where it differs. -/
def State.checkFrames (s : State) (library : Bool) (d : Nat) : State :=
  let r := s.recount library d
  if s.book library d = r then s else (s.onBook library d (fun _ => r)).booksDiffer d (if library then 66 else 65)

/-- The full walk of a keeper: both frame books, and the quota books of the pools it is master of. -/
def State.auditBooks (s : State) (d : Nat) : State :=
  let s := (s.checkFrames false d).checkFrames true d
  ((List.range 68).filter (fun k => k % 4 == d)).foldl (fun s k =>
    let p := s.pool k
    let u := s.recountPool k
    if p.used = u ∧ p.transit = 0 then s else (s.onPool k (fun p => { p with used := u, transit := 0 })).booksDiffer d k) s

def execBookAudit (keeper : Nat) (s : State) : Host.Outcome State Fault Refusal := unitOf 4 keeper (s.auditBooks keeper)

/-! ## Step end of a model's pages (R172) -/

/-- Seals, pins and reclaimed pages of one descriptor at a step end; true where the page returns to `FREE`. -/
def stepEndDesc (commit : Bool) (d : PageDesc) : PageDesc :=
  let d := { d with pins := 0, pinSat := false }
  match d.state with
  | .owned => { d with state := if d.sealPending && commit then .sealed else .owned, sealPending := false }
  | _ => d

/-- Queued requests in the order they are served: ascending class, then arrival (R175). -/
def queueOrder (q : List QueuedAlloc) : List QueuedAlloc :=
  (List.range 4).flatMap (fun c => q.filter (fun a => a.cls == c)) ++ q.filter (fun a => decide (4 ≤ a.cls))

/-- Serve the queue: the state and the pages granted. A request that is not served keeps its place. -/
def State.serveQueue (s : State) : State × List (QueuedAlloc × Nat) :=
  (queueOrder s.mem.queued).foldl (fun (acc : State × List (QueuedAlloc × Nat)) a =>
    let belowFloor := decide (acc.1.growthHeld a.cls < acc.1.floorOf a.cls)
    if acc.1.mem.claim.isSome && a.pool == 65 && !belowFloor then acc
    else
      match acc.1.grant a.pool a.inst a.holder a.cls a.requester with
      | some r => ({ r.1 with mem := { r.1.mem with queued := dropFirst (· == a) r.1.mem.queued } }, acc.2 ++ [(a, r.2)])
      | none => acc) (s, [])

/-- The open claim takes every free page of the growth pool that it still wants (R177). -/
def State.feedClaim (s : State) : State :=
  match s.mem.claim with
  | none => s
  | some c =>
    let k := min (poolFree (s.pool 65)) (c.want - c.got)
    let s := (s.onPool 65 (fun p => { p with quota := p.quota - k })).onPool (1 + c.inst) (fun p => { p with quota := p.quota + k })
    { s with mem := { s.mem with claim := some { c with got := c.got + k } } }

/-- Requests of model `n` grow older by one step end; one that has seen two answers NOPAGE (R175). -/
def State.ageQueue (s : State) (n : Nat) : State :=
  let q := s.mem.queued.map (fun a => if a.inst = n then { a with age := a.age + 1 } else a)
  { s with mem := { s.mem with queued := q.filter (fun a => decide (a.age < 2)) } }

/-- The keepers at the step end of model `n` (R172): the state and the pages that queued requests received. -/
def State.keeperStepEnd (s : State) (n : Nat) (commit : Bool) : State × List (QueuedAlloc × Nat) :=
  let pages : Sparse PageDesc := smap {} (fun (p : Nat) (d : PageDesc) =>
    if d.inst = n ∧ d.state ≠ PageState.free ∧ pageInst p = n then stepEndDesc commit d else d) s.mem.pages
  let s : State := { s with mem := { s.mem with pages := pages } }
  let gone := s.mem.pages.filter (fun (e : Nat × PageDesc) => e.2.inst == n && e.2.state == PageState.reclaim && !e.2.migrating)
  let s := gone.foldl (fun s e => s.toFree e.1) s
  let back := s.mem.inflight.filter (fun x => x.until_ == ReturnAt.stepEnd n)
  let s := back.foldl (fun s x => s.landFrame x) s
  let s : State := { s with mem := { s.mem with late := s.mem.late.filter (fun e => (s.page e.1).inst != n) } }
  let r := s.serveQueue
  let s := (r.1.feedClaim).ageQueue n
  let s := (List.range 4).foldl (fun s d => (s.checkFrames false d).checkFrames true d) s
  (s, r.2)

/-! ## Dismissal of a model's pages (R173) -/

/-- Moves are cancelled, every page returns, queued requests end, the reservation and the exclusive ways go back. -/
def State.returnPages (s : State) (n : Nat) : State :=
  let js := s.mem.moves.filter (fun j => (s.page j.page).inst == n)
  let s := js.foldl (fun s j => s.failMove j) s
  let ps := s.mem.pages.filter (fun (e : Nat × PageDesc) => e.2.inst == n && e.2.state != .free)
  let s := ps.foldl (fun s e => s.toFree e.1) s
  let back := s.mem.inflight.filter (fun x => x.until_ == ReturnAt.stepEnd n)
  let s := back.foldl (fun s x => s.landFrame x) s
  let q := (s.pool (1 + n)).quota
  let s := (s.onPool (1 + n) (fun _ => {})).onPool 65 (fun p => { p with quota := p.quota + q })
  { s with mem := { s.mem with queued := s.mem.queued.filter (fun a => a.inst != n), ways := s.mem.ways.filter (fun w => w.2 != n),
                               claim := if s.mem.claim.any (fun c => c.inst == n) then none else s.mem.claim } }

/-! ## Retirement of channels and frames (R158, 16 R446, R447, 18 R487, R488) -/

/-- The bits of `0x2600:08`: 384 HBM channels, then 48 Library channels. -/
def State.channelBits (s : State) : Bytes := le 48 (maskOf s.mem.retiredHbm) ++ le 8 (maskOf s.mem.retiredLib)

/-- Submit a record and count it as dropped where the queue is full and the kind allows it (18 R492). -/
def State.submitOr (s : State) (r : JSub) : State :=
  let q := s.submit r
  if q.2 then q.1 else if r.kind = 5 ∨ r.kind = 6 ∨ r.kind = 7 then q.1.dropSubmission else q.1

/-- Move every page off the frames that `p` selects, to other frames of the same die and tier (R158, R171). -/
def State.moveOff (s : State) (library : Bool) (p : Nat → Bool) : State :=
  let t : Tier := if library then .library else .hbm
  let ps := s.mem.pages.filter (fun (e : Nat × PageDesc) =>
    (e.2.state == .owned || e.2.state == .sealed) && e.2.tier == t && p e.2.frame && !e.2.migrating)
  ps.foldl (fun s e => (s.startMove e.1 t false false false).getD s) s

/-- A channel is retired: its group stops allocating and drains (R158). -/
def State.retireChannel (s : State) (library : Bool) (ch : Nat) : State :=
  let m := s.mem
  if ch ∈ (if library then m.retiredLib else m.retiredHbm) then s
  else
    let g := if library then ch / 12 else ch / 16
    let m := if library then { m with retiredLib := m.retiredLib ++ [ch] } else { m with retiredHbm := m.retiredHbm ++ [ch] }
    let m := { m with draining := addOnce m.draining (library, g) }
    let s := ({ s with mem := m } : State)
    let s := s.submitOr { kind := 0x000A, key := 0, body := s.channelBits }
    let s := s.spared { die := 16 + (if library then g else g / 6), unit := if library then 6 else 5, locA := ch }
    (s.putBlob 0x2600 8 s.channelBits).moveOff library (fun f => frameGroup library f == g)

/-- A page still on a frame of a group. -/
def State.groupBusy (s : State) (library : Bool) (g : Nat) : Bool := (s.usedFrames library).any (fun f => frameGroup library f == g)

/-- The totals of a die's book and the quota of the pool above it follow the frames in service. -/
def State.relayTotals (s : State) (library : Bool) (d : Nat) : State :=
  let b := s.book library d
  let total := s.installed library d - s.retiredOn library d
  let pool := if library then 66 else 65
  (s.onBook library d (fun b => { b with total, free := total - b.owned - b.flight })).onPool pool
    (fun p => { p with quota := p.quota + total - b.total })

/-- The drain of a group ends: it is laid out over its live channels, and frames retired only for a channel that is now
retired return to service (R158, R447). -/
def State.drainDone (s : State) (library : Bool) (g : Nat) : State :=
  if (library, g) ∈ s.mem.draining ∧ !s.groupBusy library g then
    let out := if library then s.mem.retiredLib else s.mem.retiredHbm
    let m := { s.mem with draining := s.mem.draining.filter (· != (library, g)),
                          retired := s.mem.retired.filter (fun r => !(r.1 == library && decide (r.2.2 ∈ out) && frameGroup library r.2.1 == g)) }
    State.relayTotals { s with mem := m } library (if library then g else g / 6)
  else s

def execChannelDrainDone (library : Bool) (group : Nat) (s : State) : Host.Outcome State Fault Refusal :=
  unitOf (if library then 4 else 24) group (s.drainDone library group)

/-- The 256 frame numbers of one block of a retire list, 0xFFFF_FFFF where empty (18 R487). -/
def retireBlock (l : List Nat) (b : Nat) : Bytes := (List.range 256).flatMap (fun i => le 4 ((l.drop (256 * b)).getD i 0xFFFFFFFF))

/-- Retired frames of a tier and die, in order of retirement. -/
def State.retireList (s : State) (library : Bool) (d : Nat) : List Nat :=
  (s.mem.retired.filter (fun r => r.1 == library && frameDie library r.2.1 == d)).map (fun r => r.2.1)

/-- The channel of a tier and die that holds the most listed frames, the lower on a tie (18 R488). -/
def State.fullestChannel (s : State) (library : Bool) (d : Nat) : Nat :=
  let chans := (List.range (if library then 12 else 96)).map ((if library then 12 * d else 96 * d) + ·)
  let count (c : Nat) : Nat := (s.mem.retired.filter (fun r => r.1 == library && r.2.2 == c)).length
  chans.foldl (fun best c => if count best < count c then c else best) (chans.headD 0)

/-- A frame leaves its keeper's book once no page is on it; a clean page on it is moved first (R446). -/
def State.retireFrame (s : State) (library : Bool) (f ch : Nat) : State :=
  if (library, f) ∈ s.flt.toRetire then
    if f ∈ s.usedFrames library then
      s.moveOff library (· == f)
    else
      let d := frameDie library f
      let s := if 4096 ≤ (s.retireList library d).length then s.retireChannel library (s.fullestChannel library d) else s
      let s := { s with flt := { s.flt with toRetire := s.flt.toRetire.filter (· != (library, f)) },
                        mem := { s.mem with retired := s.mem.retired ++ [(library, f, ch)], suspect := s.mem.suspect.filter (· != (library, f)) } }
      let s := s.onBook library d (fun b => { b with total := b.total - 1, free := b.free - 1 })
      let s := s.onPool (if library then 66 else 65) (fun p => { p with quota := p.quota - 1 })
      let l := s.retireList library d
      let blk := (l.length - 1) / 256
      let s := s.submitOr { kind := 9, key := (if library then 256 else 0) + d * 16 + blk, body := retireBlock l blk }
      let s := (s.spared { die := 16 + d, unit := if library then 6 else 5, locA := ch } f).touch 0x2600 7
      let s := s.countError (2 ^ 62 + (if library then 384 else 0) + ch) 0x2004
      if s.ent 0x2610 3 ≤ s.errorsIn (2 ^ 62 + (if library then 384 else 0) + ch) 0x2004 (30 * ticksPerDay) && s.sparing then s.retireChannel library ch
      else s
  else s

def execFrameRetire (library : Bool) (frame : Nat) (s : State) : Host.Outcome State Fault Refusal :=
  unitOf (if library then 50331648 else 12582912) frame (s.retireFrame library frame (s.granuleChannel library frame 0))

end Sys2Proof.Machine
end

