-- ==== Sys2Proof/Machine/Weights.lean ====
section
/-! DEFINITION. Weight packages and ingest (11_weights.md R304 to R328): packages and their checks, package keys,
registration, the pieces of a binding, ingest, restores; memory errors of pages (06_memory_tiers.md R155, R182). -/

namespace Sys2Proof.Machine

/-! ## A package's header and piece table (R304 to R308) -/

/-- An entry of the piece table (R305). -/
def parsePiece (b : Bytes) : PieceEntry :=
  { cls := field b 4 1, elemFmt := field b 5 1, scaleFmt := field b 6 1, block := field b 7 1, redAxis := field b 8 1,
    axis := field b 9 1, partCount := field b 0xA 2, partIndex := field b 0xC 2, offset := field b 0x10 8,
    plainLen := field b 0x18 8, start := field b 0x20 8, extent := field b 0x28 8, sidePiece := field b 0x30 4 }

/-- The piece table of header and table bytes. -/
def parseTable (b : Bytes) : List PieceEntry := (List.range (field b 0x20 4)).map (fun i => parsePiece (slice b (64 + 64 * i) 64))

/-- Elements of a block of a tensor or piece. -/
def blockSize (c : Nat) : Nat := match c with | 1 => 16 | 2 => 32 | 3 => 64 | _ => 1

/-- Segments of a piece (R306). -/
def pieceSegments (e : PieceEntry) : Nat := (e.plainLen + 65535) / 65536

/-- Bytes that a piece occupies (R306). -/
def pieceSize (e : PieceEntry) : Nat := e.plainLen + 16 * pieceSegments e

/-- What R305 asks of an entry on its own. -/
def entryOk (i : Nat) (b : Bytes) (e : PieceEntry) : Bool :=
  field b 0 4 == i && decide (e.cls ∈ [0, 4, 6]) && (e.elemFmt == 0xFF || (decide (1 ≤ e.elemFmt) && decide (e.elemFmt ≤ 0x10))) &&
  decide (e.block ≤ 3) && decide (1 ≤ e.partCount) && decide (e.partIndex < e.partCount) &&
  ((e.axis == 0xFF) == (e.partCount == 1)) && (e.axis != 0xFF || (e.start == 0 && e.extent == 0)) &&
  e.offset % 64 == 0 && decide (1 ≤ e.plainLen) && decide (e.plainLen ≤ 268435456) && field b 0xE 2 == 0 && field b 0x34 12 == 0

/-- Offset order, no overlap, all between the table's end and TOTAL_LEN (R306). -/
def apart : Nat → Nat → List PieceEntry → Bool
  | from_, total, [] => decide (from_ ≤ total)
  | from_, total, e :: r => decide (from_ ≤ e.offset) && apart (e.offset + pieceSize e) total r

/-- The parts of one tensor follow each other (R305, R308). -/
def partsFollow : Option PieceEntry → List PieceEntry → Bool
  | none, [] => true
  | some p, [] => p.partIndex + 1 == p.partCount
  | p, e :: r =>
    (match p with
      | none => e.partIndex == 0 && e.start == 0
      | some p =>
        if p.partIndex + 1 = p.partCount then e.partIndex == 0 && e.start == 0
        else e.partIndex == p.partIndex + 1 && e.partCount == p.partCount && e.axis == p.axis && e.start == p.start + p.extent &&
          e.cls == p.cls && e.elemFmt == p.elemFmt && e.scaleFmt == p.scaleFmt && e.block == p.block && e.redAxis == p.redAxis &&
          (e.axis != e.redAxis || p.extent % 4096 == 0)) && partsFollow (some e) r

/-- Side tables (R308). -/
def sideOk (t : List PieceEntry) (i : Nat) (e : PieceEntry) : Bool :=
  if e.elemFmt ≠ 0xFF then e.sidePiece == 0xFFFFFFFF
  else
    match t[e.sidePiece]? with
    | none => false
    | some q =>
      decide (e.sidePiece < i) && q.cls == 4 && q.partIndex == e.partIndex && q.partCount == e.partCount && q.axis == e.axis &&
      (if e.axis = e.redAxis then q.extent * blockSize e.block == e.extent else q.extent == e.extent)

/-- The checks of R306 and R308 on header and table, with the length the command names. -/
def tableOk (b : Bytes) (len : Nat) : Bool :=
  let n := field b 0x20 4
  let t := parseTable b
  field b 0 4 == 0x474B5057 && field b 4 1 == 1 && field b 5 1 == 0 && field b 6 2 == 64 &&
  field b 8 8 % 64 == 0 && decide (field b 8 8 ≤ len) && decide (field b 8 8 ≤ 2 ^ 44) && decide (1 ≤ n) && decide (n ≤ 1048576) &&
  field b 0x2C 4 == 0 && b.length == 64 + 64 * n &&
  (t.zipIdx).all (fun e => entryOk e.2 (slice b (64 + 64 * e.2) 64) e.1 && sideOk t e.2 e.1) &&
  apart (64 + 64 * n) (field b 8 8) (sortBy (fun x y => decide (x.offset ≤ y.offset)) t) && partsFollow none t

/-- TABLE_TAG (R307). -/
def tableTag (key b : Bytes) : Bytes :=
  (gcm key (slice b 0x28 4 ++ le 4 0xFFFFFFFF ++ le 4 0) (b.take 0x30 ++ zeros 16 ++ b.drop 0x40) [] true).2

/-- A segment's plaintext, where its tag holds (R307). -/
def openSegment (key : Bytes) (p : Package) (piece segment : Nat) (cipher tag : Bytes) : Option Bytes :=
  match p.table[piece]? with
  | none => none
  | some e =>
    let n := min 65536 (e.plainLen - 65536 * segment)
    if segment < pieceSegments e ∧ cipher.length = n then
      gcmOpen key (slice p.header 0x28 4 ++ le 4 piece ++ le 4 segment) (p.id ++ le 4 piece ++ le 4 segment ++ le 4 (pieceSegments e) ++ le 4 n) cipher tag
    else none

/-! ## Package keys (R309 to R311) -/

/-- A key slot. -/
def State.keySlot (s : State) (k : Nat) : Option KeySlot := sget none s.wt.keys k

/-- The usable slot that holds a KEY_ID. -/
def State.keyWith (s : State) (keyId : Nat) : Option KeySlot :=
  (List.range 16).findSome? (fun k => (s.keySlot k).filter (fun (q : KeySlot) => q.usable && q.keyId == keyId))

/-- Set or empty a slot; `0x2410:05` shows the slots in use. -/
def State.setKey (s : State) (k : Nat) (v : Option KeySlot) : State :=
  let s := { s with wt := { s.wt with keys := sset none s.wt.keys k v } }
  s.setEnt 0x2410 5 (maskOf ((List.range 16).filter (fun k => (s.keySlot k).isSome)))

/-- The Transcript record of the epochs of 512 owners (18_transcript.md R487). -/
def State.ratchetRecord (s : State) (block : Nat) : JSub :=
  { kind := 4, key := block, body := (List.range 512).flatMap (fun i => le 4 (sget 0 s.wt.ratchet (512 * block + i))) }

/-- KEY_LOAD: the completion code is returned with the state. -/
def State.loadKey (s : State) (slot keyId owner epoch : Nat) (key : Bytes) (secured : Bool) : State × Nat :=
  let old := sget 0 s.wt.ratchet owner
  if !secured then (s, 0x0B04)
  else if 16 ≤ slot ∨ key.length ≠ 32 then (s, 0x1002)
  else if epoch < old then (s, 0x0B03)
  else if epoch = old then (s.setKey slot (some { keyId, owner, epoch, key, usable := true }), 0)
  else
    let t := s.setKey slot (some { keyId, owner, epoch, key, usable := false })
    let raised : State := { t with wt := { t.wt with ratchet := sset 0 t.wt.ratchet owner epoch } }
    let q := raised.submit (raised.ratchetRecord (owner / 512))
    if q.2 then (q.1, 0) else (t, 0)

def execKeyLoad (slot keyId owner epoch : Nat) (key : Bytes) (ref : CmdRef) (s : State) : Host.Outcome State Fault Refusal :=
  let r := s.loadKey slot keyId owner epoch key ref.secured
  done (r.1.complete ref r.2)

/-- A RATCHET record of a block of owners is committed: keys that waited for it are usable (R310). -/
def State.ratchetCommitted (s : State) (block : Nat) : State :=
  (List.range 16).foldl (fun (s : State) (k : Nat) =>
    match s.keySlot k with
    | some q => if q.owner / 512 = block ∧ q.epoch ≤ sget 0 s.wt.ratchet q.owner then s.setKey k (some { q with usable := true }) else s
    | none => s) s

/-- KEY_ERASE. -/
def State.eraseKey (s : State) (slot : Nat) (secured : Bool) : State × Nat :=
  if !secured then (s, 0x0B04)
  else if 16 ≤ slot then (s, 0x1002)
  else
    match s.keySlot slot with
    | none => (s, 0)
    | some q =>
      let t := s.setKey slot none
      if s.wt.packages.any (fun p => field p.header 0x24 4 == q.keyId) then (t.raise { fault 0x1B09 { die := dieK0 } with address := slot, detail := q.keyId }, 0)
      else (t, 0)

def execKeyErase (slot : Nat) (ref : CmdRef) (s : State) : Host.Outcome State Fault Refusal :=
  let r := s.eraseKey slot ref.secured
  done (r.1.complete ref r.2)

/-! ## The pieces of a binding (R314, R315) -/

/-- Boundaries of a tensor's shards (19_host_interface.md R522). -/
def shardBounds (pl : Placement) (t : TensorRec) : List Nat :=
  match pl.shards.find? (fun e => e.1 == t.id) with
  | some e => e.2
  | none =>
    let e := t.dims.getD t.shardAxis 1
    (List.range pl.modules).map (fun r => pl.shardUnit * (r * e / (pl.shardUnit * pl.modules))) ++ [e]

/-- Lines and line length of a tensor whose extent along `axis` is `extent` (04_number_formats.md R111). -/
def linesOf (dims : List Nat) (redAxis axis extent : Nat) : Nat × Nat :=
  let d := (dims.zipIdx).map (fun e => if e.2 = axis then extent else e.1)
  let fast := if redAxis = 0xFF then 0 else redAxis
  (((d.zipIdx).filter (fun e => e.2 != fast)).foldl (fun n e => n * e.1) 1, d.getD fast 1)

/-- Bytes of a canonical layout of one element format (04 R111). -/
def canonLen (elemFmt scaleFmt block lines line : Nat) : Nat :=
  let codes := lines * runBytes elemFmt line
  if scaleFmt = 0 then codes else roundUp 64 codes + lines * (line / blockSize block)

/-- A weight, side-table or Lesson tensor whose source is a piece (R314). -/
def sourced (t : TensorRec) : Bool := decide (t.cls ∈ [0, 4, 6])

/-- The parts of a tensor: piece number and entry. -/
def partsOf (table : List PieceEntry) (t : TensorRec) : List (Nat × PieceEntry) :=
  match table[t.source]? with
  | none => []
  | some e => (List.range e.partCount).filterMap (fun i => (table[t.source + i]?).map (fun q => (t.source + i, q)))

/-- The parts of a tensor that this module keeps: those inside its shard. -/
def keptParts (table : List PieceEntry) (pl : Placement) (t : TensorRec) : List (Nat × PieceEntry) :=
  let b := shardBounds pl t
  (partsOf table t).filter (fun p => t.shardAxis == 0xFF || p.2.axis == 0xFF ||
    (decide (b.getD pl.rank 0 ≤ p.2.start) && decide (p.2.start + p.2.extent ≤ b.getD (pl.rank + 1) 0)))

/-- The checks of R314 on one tensor. -/
def partsMatch (table : List PieceEntry) (prog : Program) (pl : Placement) (t : TensorRec) : Bool :=
  let ps := partsOf table t
  let b := shardBounds pl t
  match ps.head? with
  | none => false
  | some h =>
    let axis := h.2.axis
    h.2.partIndex == 0 && ps.length == h.2.partCount &&
    ps.all (fun p => p.2.cls == t.cls && p.2.elemFmt == t.elemFmt && p.2.scaleFmt == t.scaleFmt && p.2.block == t.block && p.2.redAxis == t.redAxis) &&
    (axis == 0xFF || (ps.map (fun p => p.2.extent)).sum == t.dims.getD axis 1) &&
    (t.shardAxis == 0xFF || (axis == t.shardAxis &&
      b.all (fun x => x == t.dims.getD t.shardAxis 1 || x == 0 || ps.any (fun p => p.2.start == x)))) &&
    (t.elemFmt == 0xFF || ps.all (fun p =>
      let l := linesOf t.dims t.redAxis axis p.2.extent
      p.2.plainLen == canonLen t.elemFmt t.scaleFmt t.block l.1 l.2)) &&
    (t.elemFmt != 0xFF || (match prog.tensors[t.side]? with
      | none => false
      | some q => q.shardAxis == t.shardAxis && (keptParts table pl t).all (fun p => (keptParts table pl q).any (fun r => r.1 == p.2.sidePiece))))

/-- Pages of a byte count. -/
def pagesOf (n : Nat) : Nat := (n + 65535) / 65536

/-- The `i`-th page number of a run: numbers ascend, those of an absent M die are skipped (R315). -/
def State.runPages (s : State) (first n : Nat) : List Nat :=
  (((List.range (4 * n + 8)).map (first + ·)).filter (fun p => s.dieWorks (16 + keeperOf p))).take n

/-- Page number `i` of a run. -/
def State.runPage (s : State) (first i : Nat) : Nat := (s.runPages first (i + 1)).getD i first

/-- The first number after a run of `n` pages. -/
def State.runEnd (s : State) (first n : Nat) : Nat := if n = 0 then first else s.runPage first (n - 1) + 1

/-- The pieces that index `n` keeps of a package, with their runs (R315): parts follow each other in their tensor's run. -/
def State.keptPieces (s : State) (n : Nat) (table : List PieceEntry) : List PieceSt :=
  let b := (s.inst n).bind
  (b.program.tensors.filter sourced).flatMap (fun t =>
    let tier := ((b.tiers.find? (fun e => e.1 == t.id)).map (·.2)).getD .hbm
    let first := ((b.runs.find? (fun e => e.1 == t.id)).map (·.2.1)).getD 0
    let place (acc : Nat × List PieceSt) (p : Nat × PieceEntry) : Nat × List PieceSt :=
      let k := pagesOf p.2.plainLen
      (s.runEnd acc.1 k, acc.2 ++ [{ piece := p.1, tensor := t.id, firstPage := s.runPage acc.1 0, pages := k, library := tier == .library, copy := tier == .library && t.hint == 4 }])
    ((keptParts table b.place t).foldl place (first, [])).2)

/-- The registered package of an identifier. -/
def State.package (s : State) (id : Bytes) : Option Package := s.wt.packages.find? (fun p => p.id == id)

/-- Change the pieces of an index. -/
def State.onPieces (s : State) (n : Nat) (f : PieceSt → PieceSt) : State := s.onInst n (fun i => { i with pieces := i.pieces.map f })

/-- Change one piece of an index. -/
def State.onPiece (s : State) (n piece : Nat) (f : PieceSt → PieceSt) : State := s.onPieces n (fun p => if p.piece = piece then f p else p)

/-- A piece of an index. -/
def State.piece (s : State) (n piece : Nat) : Option PieceSt := (s.inst n).pieces.find? (fun p => p.piece == piece)

/-- A record of a piece's cause: none of these carries a containment class (R332). -/
def State.pieceCause (s : State) (n piece cause : Nat) (x : Nat := 0) : State :=
  s.emit (s.charged { fault cause { die := 20 + x % 4, unit := 9 } with inst := n, address := piece })

/-- A package has been registered here: a `BOUND` index that names it gets its pieces, and the checks of R314; the pieces of
a tensor that fails them are `FAILED`. -/
def State.piecesKnown (s : State) (n : Nat) (p : Package) : State :=
  let b := (s.inst n).bind
  let s := s.onInst n (fun i => { i with pieces := s.keptPieces n p.table })
  (b.program.tensors.filter (fun t => sourced t && !partsMatch p.table b.program b.place t)).foldl (fun (s : State) (t : TensorRec) =>
    let mine := (s.inst n).pieces.filter (fun q => q.tensor == t.id)
    let s := s.onPieces n (fun q => if q.tensor = t.id then { q with state := 3 } else q)
    mine.foldl (fun (s : State) (q : PieceSt) => s.pieceCause n q.piece 0x1B02) s) s

/-! ## Registration (R312, R313) -/

/-- What a module finds of a header and table: 0, 0x0B01, 0x0B02 or 0x0B05. -/
def State.packageCode (s : State) (b : Bytes) (len : Nat) (slot : Option Nat) : Nat :=
  if !tableOk b len then 0x0B01
  else
    let keyId := field b 0x24 4
    let k := match slot with
      | some i => (s.keySlot i).filter (fun (q : KeySlot) => q.usable && q.keyId == keyId)
      | none => s.keyWith keyId
    match k with
    | none => 0x0B02
    | some q =>
      if tableTag q.key b ≠ slice b 0x30 16 then 0x0B01
      else if (s.package (slice b 0x10 16)).isSome ∨ 8 ≤ s.wt.packages.length then 0x0B05
      else 0

/-- Registered packages are counted in `0x2410:06`. -/
def State.setPackages (s : State) (l : List Package) : State := State.setEnt { s with wt := { s.wt with packages := l } } 0x2410 6 l.length

/-- Keep a package, and settle the pieces of the indices bound to it. -/
def State.keepPackage (s : State) (b : Bytes) (addr len reader : Nat) (members : List Nat) : State :=
  let p : Package := { id := slice b 0x10 16, reader, addr, len, header := b.take 64, table := parseTable b, members }
  let s := s.setPackages (s.wt.packages ++ [p])
  if members.isEmpty ∨ s.moduleIndex ∈ members then
    (s.instsWith (fun i => i.bind.state == .bound && i.bind.place.packageId == p.id)).foldl (fun s n => s.piecesKnown n p) s
  else s

/-- A member list that R312 and R316 accept in form. -/
def membersOk (l : List Nat) : Bool := !l.isEmpty && decide (l.length ≤ 120) && l.all (fun m => decide (m < 120)) && decide (l.Nodup)

/-- The status of one member of a registration: module, 0 registered or 1 refused or 2 unreachable, code (log entry 25). -/
def regStatus (answers : List (Nat × Nat)) (m : Nat) : Bytes :=
  match answers.find? (fun e => e.1 == m) with
  | some e => le 1 m ++ le 1 (if e.2 = 0 then 0 else if e.2 = 0xFFFF then 2 else 1) ++ le 2 (if e.2 = 0xFFFF then 0 else e.2) ++ zeros 12
  | none => le 1 m ++ zeros 15

/-- A registration completes once every member has answered. -/
def State.regDone (s : State) (j : RegJob) : State :=
  if j.members.all (fun m => j.answers.any (fun e => e.1 == m)) then
    let s := { s with wt := { s.wt with regs := s.wt.regs.filter (fun r => r.id != j.id) } }
    (s.hostPut j.statusAddr (j.members.flatMap (regStatus j.answers))).complete j.ref 0
  else { s with wt := { s.wt with regs := mapIf (fun (r : RegJob) => r.id == j.id) (fun _ => j) s.wt.regs } }

/-- A member's answer reaches the reader. -/
def State.regAnswer (s : State) (id : Bytes) (m code : Nat) : State :=
  match s.wt.regs.find? (fun r => r.id == id) with
  | none => s
  | some j => s.regDone { j with answers := (m, code) :: j.answers }

/-- PKG_REGISTER on the reader. -/
def State.register (s : State) (bytes : Option Bytes) (addr len slot : Nat) (members : List Nat) (statusAddr : Nat) (ref : CmdRef) : State :=
  match bytes with
  | none => s.complete ref 0x0B08
  | some b =>
    if !membersOk members then s.complete ref 0x0B07
    else
      let code := s.packageCode b len (some slot)
      if code ≠ 0 then s.complete ref code
      else
        let s := s.keepPackage b addr len s.moduleIndex members
        let own := if s.moduleIndex ∈ members then [(s.moduleIndex, 0)] else []
        let j : RegJob := { id := slice b 0x10 16, members, answers := own, statusAddr, ref }
        let s : State := { s with wt := { s.wt with regs := s.wt.regs ++ [j] } }
        let others := members.filter (· != s.moduleIndex)
        let live := others.filter (fun m => s.nodeState (nodeOf m dieK0) == .live)
        let s := live.foldl (fun (s : State) (m : Nat) => s.tell m 0 16 0 (b.length + 16) (le 8 addr ++ le 8 len ++ b)) s
        s.regDone { j with answers := own ++ (others.filter (fun m => !decide (m ∈ live))).map (fun m => (m, 0xFFFF)) }

def execPkgRegister (bytes : Option Bytes) (addr len slot : Nat) (members : List Nat) (statusAddr : Nat) (ref : CmdRef) (s : State) :
    Host.Outcome State Fault Refusal := done (s.register bytes addr len slot members statusAddr ref)

/-- A member takes the header and table that its reader sends, checks them and answers. -/
def State.registerMember (s : State) (reader : Nat) (b : Bytes) : State :=
  let t := b.drop 16
  let code := s.packageCode t (field b 8 8) none
  let s := if code = 0 then s.keepPackage t (field b 0 8) (field b 8 8) reader [] else s
  s.tell reader 0 17 code 0 (slice t 0x10 16)

/-- The package is gone from this module. -/
def State.dropPackage (s : State) (id : Bytes) : State := s.setPackages (s.wt.packages.filter (fun p => p.id != id))

/-- PKG_UNREGISTER on the reader. -/
def State.unregister (s : State) (packageId : Nat) (ref : CmdRef) : State :=
  let id := le 16 packageId
  match s.package id with
  | none => s.complete ref 0x0B09
  | some p =>
    if p.reader ≠ s.moduleIndex then s.complete ref 0x0B09
    else if s.wt.jobs.any (fun j => j.package == id && j.ref.isSome) then s.complete ref 0x0B05
    else
      let s := (p.members.filter (· != s.moduleIndex)).foldl (fun (s : State) (m : Nat) => s.tell m 0 21 0 0 id) (s.dropPackage id)
      s.complete ref 0

def execPkgUnregister (packageId : Nat) (ref : CmdRef) (s : State) : Host.Outcome State Fault Refusal := done (s.unregister packageId ref)

end Sys2Proof.Machine
end

