-- ==== Sys2Proof/Machine/Ingest.lean ====
section
/-! DEFINITION. Ingest (11_weights.md R316 to R324), restores (R326, R327), and memory errors of pages
(06_memory_tiers.md R155, R182; 16_faults_availability.md R444). -/

namespace Sys2Proof.Machine

/-! ## The group and its tree (R316, R318) -/

/-- The rank of a module in a group. -/
def rankIn (l : List Nat) (m : Nat) : Nat := (l.findIdx? (· == m)).getD l.length

/-- The children of a rank under fanout F: ranks r·F + 1 to r·F + F. -/
def childrenOf (l : List Nat) (f r : Nat) : List Nat := (l.drop (r * f + 1)).take f

/-- The parent of a rank. -/
def parentOf (l : List Nat) (f r : Nat) : Nat := l.getD ((r - 1) / f) 0

/-- Credits for a child's receive buffers on an X die: 12 to begin with (log entry 8). -/
def State.credit (s : State) (child x : Nat) : Nat := sget 12 s.wt.credits (child * 4 + x - 20)

/-- Change the credits for a child. -/
def State.onCredit (s : State) (child x : Nat) (f : Nat → Nat) : State :=
  { s with wt := { s.wt with credits := supd 12 s.wt.credits (child * 4 + x - 20) f } }

/-- The bytes of a descriptor (R318). -/
def descBytes (d : SegmentDesc) : Bytes :=
  le 16 d.packageId ++ le 4 d.ingestId ++ le 4 d.pieceId ++ le 4 d.segment ++ le 4 d.bytes ++ le 4 d.g ++ zeros 28

/-- A segment goes to a child's receive buffer as STOREs of up to 64 beats on the bulk channel (R318). -/
def State.sendSegment (s : State) (child : Nat) (h : HeldSegment) : State :=
  let b := descBytes h.desc ++ padTo (roundUp 64 h.cipher.length) h.cipher ++ padTo 64 h.tag
  let base := 0x20000 + (h.desc.g / 4 % 12) * 0x10080
  (List.range ((b.length + 4095) / 4096)).foldl (fun (s : State) (i : Nat) =>
    let part := slice b (4096 * i) 4096
    s.sendPacket h.die { opcode := 2, vc := 2, beats := part.length / 64, priv := true, node := nodeOf child h.die, offset := base + 4096 * i,
                         data := part, poisonMask := if h.poisoned then 2 ^ (part.length / 64) - 1 else 0 }) s

/-- Replace a held segment. -/
def State.setHeld (s : State) (h : HeldSegment) : State :=
  let same (q : HeldSegment) : Bool := q.desc == h.desc
  { s with wt := { s.wt with held := mapIf same (fun _ => h) s.wt.held } }

/-! ## Pages and checks of a piece -/

/-- Frames of the ingest staging allowance in use: pages that count in the system reserve (R322). -/
def State.staged (s : State) : Nat := (s.mem.pages.filter (fun (e : Nat × PageDesc) => e.2.reserve && e.2.state != .free)).length

/-- Give back the staging pages of a piece that failed (R320). -/
def State.unstage (s : State) (p : PieceSt) : State :=
  if p.library then ((s.runPages p.firstPage p.pages).filter (fun k => (s.page k).reserve)).foldl State.toFree s else s

/-- A piece is staged: its pages exist, or a frame is taken for each (R322); false where the allowance has no room. -/
def State.stagePiece (s : State) (n : Nat) (p : PieceSt) : State × Bool :=
  let ps := s.runPages p.firstPage p.pages
  if !p.library || ps.all (fun k => (s.page k).state != .free) then (s, true)
  else if s.staged + p.pages ≤ 8192 then
    let make (acc : State × Bool) (k : Nat) : State × Bool :=
      match acc.1.takeFrame false (keeperOf k) with
      | some f => (acc.1.createPage k f 0 n 0x3FF2 0, acc.2)
      | none => (acc.1, false)
    let r := ps.foldl make (s, true)
    if r.2 then r else (s, false)
  else (s, false)

/-- The bytes of a piece as its pages hold them. -/
def State.pieceBytes (s : State) (p : PieceSt) (len : Nat) : Bytes :=
  ((s.runPages p.firstPage p.pages).flatMap (fun k => getBytes s.mem.bytes (k * pageBytes) pageBytes)).take len

/-- An entry of a side table is permitted (04_number_formats.md R114). -/
def sideCodeOk (features : Nat) (b : Byte) : Bool := decide (b.toNat ≤ 0xD) && (b.toNat != 3 || features.testBit 12)

/-- Bytes of a mixed-width part under its side table's codes, and where each line begins (04 R115). -/
def mixedLen (block line : Nat) (codes : Bytes) : Nat :=
  codes.foldl (fun n c => n + if c = 0 then 0 else 1 + runBytes c.toNat (min (blockSize block) line)) 0

/-- Does every element of a Lesson basis decode to a finite value (R321)? -/
def basisFinite (t : TensorRec) (lines line : Nat) (b : Bytes) : Bool :=
  let w := runBytes t.elemFmt line
  let scaled := t.scaleFmt != 0
  (List.range lines).all (fun i => (List.range line).all (fun j => isFin (runElem t.elemFmt scaled (slice b (i * w) w) j).1)) &&
  (!scaled || (b.drop (roundUp 64 (lines * w))).all (fun c => isFin (decScale t.scaleFmt c.toNat)))

/-- The check of R321 on a full piece: 0 passes, 1 waits for its side table, else the cause. -/
def State.checkPiece (s : State) (n : Nat) (p : PieceSt) (pk : Package) : Nat :=
  let prog := (s.inst n).bind.program
  match pk.table[p.piece]?, prog.tensors[p.tensor]? with
  | some e, some t =>
    let b := s.pieceBytes p e.plainLen
    if e.cls = 4 then (if b.all (sideCodeOk prog.features) then 0 else 0x1B03)
    else if e.elemFmt = 0xFF then
      match s.piece n e.sidePiece, pk.table[e.sidePiece]? with
      | some q, some f =>
        if q.state ≠ 2 then 1
        else
          let l := linesOf t.dims t.redAxis e.axis e.extent
          if mixedLen e.block l.2 (s.pieceBytes q f.plainLen) = e.plainLen then 0 else 0x1B02
      | _, _ => 0x1B02
    else if e.cls = 6 then
      let l := linesOf t.dims t.redAxis e.axis e.extent
      if basisFinite t l.1 l.2 b then 0 else 0x1B03
    else 0
  | _, _ => 0x1B02

/-- SEAL of a page whose index does not serve: at once (R322). -/
def State.sealNow (s : State) (k : Nat) : State := s.onPage k (fun d => if d.state = .owned then { d with state := .sealed } else d)

/-- The line index of the mixed-width part that a side-table part describes: 8 bytes per line, behind the tensor's last part
(04 R115, R321; log entry 26). -/
def State.buildIndex (s : State) (n : Nat) (p : PieceSt) (pk : Package) : State :=
  let prog := (s.inst n).bind.program
  match (pk.table.zipIdx).find? (fun e => e.1.elemFmt == 0xFF && e.1.sidePiece == p.piece), pk.table[p.piece]? with
  | some e, some f =>
    match s.piece n e.2 with
    | some q =>
      match prog.tensors[q.tensor]? with
      | some t =>
        let mine := (s.inst n).pieces.filter (fun x => x.tensor == q.tensor)
        let before := mine.filter (fun x => decide (x.piece < q.piece))
        let sizeOf (x : PieceSt) : Nat := ((pk.table[x.piece]?).map (·.plainLen)).getD 0
        let linesBefore := (before.map (fun x => ((pk.table[x.piece]?).map (fun y => (linesOf t.dims t.redAxis y.axis y.extent).1)).getD 0)).sum
        let first := mine.foldl (fun a x => max a (s.runEnd x.firstPage x.pages)) 0
        let l := linesOf t.dims t.redAxis e.1.axis e.1.extent
        let per := (l.2 + blockSize e.1.block - 1) / blockSize e.1.block
        let codes := s.pieceBytes p f.plainLen
        let offs := (List.range l.1).map (fun i => (before.map sizeOf).sum + mixedLen e.1.block l.2 (codes.take (per * i)))
        let at_ (i : Nat) : Nat := s.runPage first (8 * (linesBefore + i) / pageBytes) * pageBytes + 8 * (linesBefore + i) % pageBytes
        let s := (offs.zipIdx).foldl (fun (s : State) (o : Nat × Nat) =>
          { s with mem := { s.mem with bytes := putBytes s.mem.bytes (at_ o.2) (le 8 o.1) } }) s
        ((List.range l.1).map (fun i => at_ i / pageBytes)).eraseDups.foldl State.sealNow s
      | none => s
    | none => s
  | _, _ => s

/-- A piece is `CHECKED`: its pages are sealed, and those of the Library are demoted; a hint-4 page keeps its HBM frame as its
copy (R322). -/
def State.pieceChecked (s : State) (n : Nat) (p : PieceSt) (pk : Package) : State :=
  let s := s.onPiece n p.piece (fun q => { q with state := 2 })
  let ps := s.runPages p.firstPage p.pages
  let s := ps.foldl State.sealNow s
  let s := if p.library then
      ps.foldl (fun (s : State) (k : Nat) =>
        match s.startMove k .library false false false with
        | some s => if p.copy then { s with mem := { s.mem with moves := mapIf (fun (j : MoveJob) => j.page == k) (fun j => { j with keep := true }) s.mem.moves } } else s
        | none => s) s
    else s
  match pk.table[p.piece]? with
  | some e => if e.cls = 4 then s.buildIndex n p pk else s
  | none => s

/-- A piece is `FAILED` under a pass with a cause. -/
def State.pieceFailed (s : State) (n : Nat) (p : PieceSt) (pass cause x : Nat) : State :=
  let s := s.unstage p
  (s.onPiece n p.piece (fun q => { q with state := 3, pass := pass, bitmap := [] })).pieceCause n p.piece cause x

/-- Run the checks of a piece whose bitmap is full (R320, R321). -/
def State.settlePiece (s : State) (n piece : Nat) (pk : Package) (x : Nat) : State :=
  match s.piece n piece, pk.table[piece]? with
  | some p, some e =>
    if p.state = 1 ∧ p.bitmap.length = pieceSegments e then
      match s.checkPiece n p pk with
      | 0 => s.pieceChecked n p pk
      | 1 => s
      | c => s.pieceFailed n p p.pass c x
    else s
  | _, _ => s

/-- A piece is settled, and with it the mixed-width parts that waited for it as their side table. -/
def State.settle (s : State) (n piece : Nat) (pk : Package) (x : Nat) : State :=
  let s := s.settlePiece n piece pk x
  let after := ((pk.table.zipIdx).filter (fun e => e.1.elemFmt == 0xFF && e.1.sidePiece == piece)).map (·.2)
  after.foldl (fun (s : State) (k : Nat) => s.settlePiece n k pk x) s

/-! ## A segment on a member (R319, R320) -/

/-- What index `n` does with a segment: the state, and whether the segment has to wait for staging frames. -/
def State.applySegment (s : State) (n : Nat) (pk : Package) (h : HeldSegment) : State × Bool :=
  let d := h.desc
  let x := h.die - 20
  match s.piece n d.pieceId with
  | none => (s, false)
  | some p =>
    if p.state = 2 ∨ (p.state = 3 ∧ p.pass = d.ingestId) ∨ (p.state = 1 ∧ d.segment ∈ p.bitmap) then (s.bump 0x2410 8, false)
    else
      let r := s.stagePiece n p
      if !r.2 then (s, true)
      else
        let s := r.1
        let key := (s.keyWith (field pk.header 0x24 4)).map (·.key)
        match (if h.poisoned then none else key.bind (fun k => openSegment k pk d.pieceId d.segment h.cipher h.tag)) with
        | none => ((s.pieceFailed n p d.ingestId 0x1B01 x).bump 0x2410 9, false)
        | some plain =>
          let page := s.runPage p.firstPage d.segment
          let s : State := { s with mem := { s.mem with bytes := putBytes s.mem.bytes (page * pageBytes) plain } }
          let s := s.bump (instIdx n 0x70) 6 plain.length
          let s := s.onPiece n d.pieceId (fun q =>
            { q with state := 1, pass := if q.state = 1 then q.pass else d.ingestId, bitmap := if q.state = 1 then q.bitmap ++ [d.segment] else [d.segment] })
          (s.settle n d.pieceId pk x, false)

/-- A held segment is sent on to the children whose credit is held. -/
def State.forwardHeld (s : State) (h : HeldSegment) : State :=
  let go (acc : State × List Nat) (c : Nat) : State × List Nat :=
    if 0 < acc.1.credit c h.die then ((acc.1.onCredit c h.die (· - 1)).sendSegment c h, acc.2) else (acc.1, acc.2 ++ [c])
  let r := h.children.foldl go (s, [])
  r.1.setHeld { h with children := r.2 }

/-- The member's status of an INGEST (R323): over the pieces it keeps in the range. -/
def State.ingestStatus (s : State) (j : IngestMember) : MemberStat :=
  let ns := s.instsWith (fun (i : InstSt) => i.bind.state == BindState.bound && i.bind.place.packageId == j.package)
  let ps := ns.flatMap (fun n => (s.inst n).pieces.filter (fun p => decide (j.first ≤ p.piece) && decide (p.piece ≤ j.last)))
  let bad := (ps.filter (fun p => p.state == 3)).map (·.piece)
  { modIdx := s.moduleIndex, status := if ps.all (fun p => p.state == 2) then 0 else 1, checked := (ps.filter (fun p => p.state == 2)).length,
    failed := bad.length, lowestFailed := bad.foldl min 0xFFFFFFFF }

/-- The 16 bytes of a status (R323). -/
def statusBytes (t : MemberStat) : Bytes := le 1 t.modIdx ++ le 1 t.status ++ le 2 0 ++ le 4 t.checked ++ le 4 t.failed ++ le 4 t.lowestFailed

/-- The INGEST completes once every listed member has a status: written in list order, then the completion (R323). -/
def State.ingestDone (s : State) (id : Nat) : State :=
  match s.wt.jobs.find? (fun j => j.ingestId == id) with
  | none => s
  | some j =>
    if j.ended && j.listed.all (fun m => j.statuses.any (fun t => t.modIdx == m)) then
      let s : State := { s with wt := { s.wt with jobs := s.wt.jobs.filter (fun q => q.ingestId != id) } }
      match j.ref with
      | some r =>
        (s.hostPut j.statusAddr (j.listed.flatMap (fun m => ((j.statuses.find? (fun t => t.modIdx == m)).map statusBytes).getD (zeros 16)))).complete r 0 id
      | none => s
    else s

/-- A member's status reaches the reader. -/
def State.memberStatus (s : State) (id : Nat) (t : MemberStat) : State :=
  let add (j : IngestJob) : IngestJob := if j.statuses.any (fun q => q.modIdx == t.modIdx) then j else { j with statuses := j.statuses ++ [t] }
  State.ingestDone { s with wt := { s.wt with jobs := mapIf (fun (j : IngestJob) => j.ingestId == id) add s.wt.jobs } } id

def execMemberStatus (ingestId : Nat) (status : MemberStat) (s : State) : Host.Outcome State Fault Refusal := done (s.memberStatus ingestId status)

/-- An INGEST ends on this module, once its buffers for it are empty: pieces of the pass that miss bits are `FAILED` (R320),
and the status goes to the reader (R323). -/
def State.endMember (s : State) (id : Nat) : State :=
  match s.wt.member.find? (fun j => j.ingestId == id) with
  | none => s
  | some j =>
    if s.wt.held.any (fun h => h.desc.ingestId == id) then
      { s with wt := { s.wt with member := mapIf (fun (q : IngestMember) => q.ingestId == id) (fun q => { q with ended := true }) s.wt.member } }
    else
      let ns := s.instsWith (fun (i : InstSt) => i.bind.state == BindState.bound && i.bind.place.packageId == j.package)
      let pk := s.package j.package
      let full (p : PieceSt) : Bool := ((pk.bind (fun k => k.table[p.piece]?)).map (fun e => p.bitmap.length == pieceSegments e)).getD false
      let s := ns.foldl (fun (s : State) (n : Nat) =>
        ((s.inst n).pieces.filter (fun p => p.state == 1 && p.pass == id && !full p)).foldl (fun (s : State) (p : PieceSt) =>
          s.pieceFailed n p id 0x1B04 0) s) s
      let s : State := { s with wt := { s.wt with member := s.wt.member.filter (fun q => q.ingestId != id) } }
      let reader := j.members.headD 0
      if !j.listed then s
      else if reader = s.moduleIndex then s.memberStatus id (s.ingestStatus j)
      else s.tell reader 0 20 id 0 (statusBytes (s.ingestStatus j))

/-- A receive buffer whose segment is forwarded and handled is free: the parent gets a credit (R318), and an INGEST that
waited for its last buffer ends. -/
def State.freeBuffer (s : State) (d : SegmentDesc) : State :=
  match s.wt.held.find? (fun h => h.desc == d) with
  | none => s
  | some h =>
    if h.children.isEmpty && h.waits.isEmpty then
      let s : State := { s with wt := { s.wt with held := s.wt.held.filter (fun q => q.desc != d) } }
      let s := if h.parent = s.moduleIndex then s else s.tell h.parent 0 23 h.die 0 []
      if s.wt.member.any (fun j => j.ingestId == d.ingestId && j.ended) then s.endMember d.ingestId else s
    else s

/-! ## Restores (R326, R327) -/

/-- A restore fails: the model is dismissed with 0x1B07 (R327). -/
def State.restoreFailed (s : State) (n page : Nat) : State :=
  let s : State := { s with wt := { s.wt with restores := s.wt.restores.filter (fun r => r.page != page) } }
  s.raiseDismiss { fault 0x1B07 { die := dieK0 } with inst := n, address := page } 7

/-- The reader takes a RESTORE: it reads the segment again under a fresh INGEST_ID and sends it to the requester alone. -/
def State.restoreRequest (s : State) (id : Bytes) (piece segment requester : Nat) : State :=
  match s.package id with
  | none => s
  | some p =>
    if p.reader ≠ s.moduleIndex then s
    else
      let k := s.wt.nextIngest
      let group := s.moduleIndex :: [requester].filter (· != s.moduleIndex)
      let j : IngestJob := { ingestId := k, package := id, members := group, listed := [], last := piece, fanout := 1, piece, segment, statusAddr := 0, ref := none }
      { s with wt := { s.wt with nextIngest := k + 1, jobs := s.wt.jobs ++ [j] } }

def execRestore (packageId piece segment requester : Nat) (s : State) : Host.Outcome State Fault Refusal :=
  done (s.restoreRequest (le 16 packageId) piece segment requester)

/-- The piece and segment that a weight page of index `n` holds. -/
def State.pieceOfPage (s : State) (n page : Nat) : Option (Nat × Nat) :=
  (s.inst n).pieces.findSome? (fun p =>
    if p.state = 2 ∧ p.firstPage ≤ page ∧ page ≤ p.firstPage + 4 * p.pages + 8 then
      ((s.runPages p.firstPage p.pages).findIdx? (· == page)).map (fun i => (p.piece, i))
    else none)

/-- A weight page has become unreadable: K0 sends RESTORE to the reader recorded at registration (R326). -/
def State.requestRestore (s : State) (page : Nat) : State :=
  let n := (s.page page).inst
  if s.wt.restores.any (fun r => r.page == page) then s
  else
    match s.pieceOfPage n page with
    | none => s
    | some (piece, segment) =>
      match s.package (s.inst n).bind.place.packageId with
      | none => s.restoreFailed n page
      | some p =>
        if (s.keyWith (field p.header 0x24 4)).isNone then s.restoreFailed n page
        else
          let s : State := { s with wt := { s.wt with restores := s.wt.restores ++ [{ page, inst := n, piece, segment, since := s.now }] } }
          if p.reader = s.moduleIndex then s.restoreRequest p.id piece segment s.moduleIndex
          else s.tell p.reader 0 22 piece segment p.id

/-- A restored segment arrives: its plaintext goes into a fresh HBM frame of the growth pool, the destination of a move (R326). -/
def State.restoreSegment (s : State) (r : RestoreJob) (h : HeldSegment) : State :=
  match s.package (s.inst r.inst).bind.place.packageId with
  | none => s.restoreFailed r.inst r.page
  | some p =>
    match (if h.poisoned then none else (s.keyWith (field p.header 0x24 4)).bind (fun (k : KeySlot) => openSegment k.key p r.piece r.segment h.cipher h.tag)) with
    | none => s.restoreFailed r.inst r.page
    | some plain =>
      if (s.page r.page).migrating then s
      else
        match s.startMove r.page .hbm false false true with
        | none => s
        | some s => { s with
            mem := { s.mem with moves := mapIf (fun (j : MoveJob) => j.page == r.page) (fun j => { j with data := plain }) s.mem.moves }
            wt := { s.wt with restores := mapIf (fun (q : RestoreJob) => q.page == r.page) (fun q => { q with loaded := true }) s.wt.restores } }

/-- A restore that has not switched within `0x2410:03` fails (R327). -/
def State.restoreTimeout (s : State) (page : Nat) : State :=
  match s.wt.restores.find? (fun r => r.page == page) with
  | none => s
  | some r => (s.reach (r.since + s.ent 0x2410 3 * ticksPerMs)).restoreFailed r.inst page

def execRestoreTimeout (page : Nat) (s : State) : Host.Outcome State Fault Refusal := done (s.restoreTimeout page)

/-! ## Segments arrive (R317 to R319) -/

/-- A segment takes a receive buffer: it is forwarded before it is decrypted, then each restore and each `BOUND` index that
keeps its piece takes it. -/
def State.takeSegment (s : State) (h : HeldSegment) (here : Bool) : State :=
  let d := h.desc
  let id := le 16 d.packageId
  let s : State := { s with wt := { s.wt with held := s.wt.held ++ [h] } }
  let s := (s.bump 0x2410 7).forwardHeld h
  let rs := s.wt.restores.filter (fun r => !r.loaded && r.piece == d.pieceId && r.segment == d.segment && (s.inst r.inst).bind.place.packageId == id)
  let s := rs.foldl (fun (s : State) (r : RestoreJob) => s.restoreSegment r h) s
  let s :=
    match (if here then s.package id else none) with
    | none => s
    | some pk =>
      (s.instsWith (fun (i : InstSt) => i.bind.state == BindState.bound && i.bind.place.packageId == id)).foldl (fun (s : State) (n : Nat) =>
        let r := s.applySegment n pk h
        if r.2 then { r.1 with wt := { r.1.wt with held := mapIf (fun (q : HeldSegment) => q.desc == d) (fun q => { q with waits := q.waits ++ [n] }) r.1.wt.held } }
        else r.1) s
  s.freeBuffer d

/-- Buffers in use on an X die. -/
def State.buffersUsed (s : State) (x : Nat) : Nat := (s.wt.held.filter (fun h => h.die == x)).length

/-- A segment lands on a member. -/
def State.receiveSegment (s : State) (d : SegmentDesc) (cipher tag : Bytes) (poisoned : Bool) : State :=
  let x := 20 + d.g % 4
  if 12 ≤ s.buffersUsed x then s
  else
    match s.wt.member.find? (fun j => j.ingestId == d.ingestId) with
    | some j =>
      let r := rankIn j.members s.moduleIndex
      let kids := (childrenOf j.members j.fanout r).filter (fun m => !decide (m ∈ j.lost))
      s.takeSegment { die := x, desc := d, cipher, tag, poisoned, parent := parentOf j.members j.fanout r, children := kids } true
    | none =>
      let reader := ((s.package (le 16 d.packageId)).map (·.reader)).getD s.moduleIndex
      s.takeSegment { die := x, desc := d, cipher, tag, poisoned, parent := reader, children := [] } false

def execSegmentReceive (desc : SegmentDesc) (cipher tag : Bytes) (poisoned : Bool) (s : State) : Host.Outcome State Fault Refusal :=
  done (s.receiveSegment desc cipher tag poisoned)

/-- The next segment of a job: the following one of the piece, then the next piece; none after the last. -/
def nextSegment (table : List PieceEntry) (j : IngestJob) : Option (Nat × Nat) :=
  if j.ref.isNone then none
  else if j.segment + 1 < ((table[j.piece]?).map pieceSegments).getD 0 then some (j.piece, j.segment + 1)
  else if j.piece < j.last then some (j.piece + 1, 0)
  else none

/-- The job moves on; after the last segment END goes to every member (R323), and a restore's job is over. -/
def State.advanceJob (s : State) (j : IngestJob) (p : Package) : State :=
  let put (s : State) (f : IngestJob → IngestJob) : State :=
    { s with wt := { s.wt with jobs := mapIf (fun (q : IngestJob) => q.ingestId == j.ingestId) f s.wt.jobs } }
  match nextSegment p.table j with
  | some e => put s (fun q => { q with piece := e.1, segment := e.2, g := q.g + 1, retried := false })
  | none =>
    if j.ref.isNone then { s with wt := { s.wt with jobs := s.wt.jobs.filter (fun q => q.ingestId != j.ingestId) } }
    else
      let s := put s (fun q => { q with ended := true })
      let others := (j.members.drop 1).filter (fun m => s.nodeState (nodeOf m dieK0) != .lost)
      let s := others.foldl (fun (s : State) (m : Nat) => s.tell m 0 19 j.ingestId 0 []) s
      (s.endMember j.ingestId).ingestDone j.ingestId

/-- A segment's host read ends (R317): a failed one is repeated once, then left out with 0x1B05. It goes out once the reader
holds a credit for every child and a buffer of its own. -/
def State.hostRead (s : State) (id : Nat) (cipher : Option Bytes) (tag : Bytes) : State :=
  match s.wt.jobs.find? (fun j => j.ingestId == id) with
  | none => s
  | some j =>
    match s.package j.package with
    | none => s
    | some p =>
      let x := 20 + j.g % 4
      let lost := ((s.wt.member.find? (fun q => q.ingestId == id)).map (·.lost)).getD []
      let kids := (childrenOf j.members j.fanout 0).filter (fun m => !decide (m ∈ lost))
      if j.ended then s
      else
        match cipher with
        | none =>
          if !j.retried then { s with wt := { s.wt with jobs := mapIf (fun (q : IngestJob) => q.ingestId == id) (fun q => { q with retried := true }) s.wt.jobs } }
          else (s.raise { fault 0x1B05 { die := x, unit := 9 } with address := j.piece, detail := j.segment }).advanceJob j p
        | some c =>
          if 12 ≤ s.buffersUsed x ∨ kids.any (fun m => s.credit m x == 0) then s
          else
            let d : SegmentDesc := { packageId := unle j.package, ingestId := id, pieceId := j.piece, segment := j.segment, bytes := c.length, g := j.g }
            let here := j.ref.isSome && decide (s.moduleIndex ∈ j.listed)
            (s.takeSegment { die := x, desc := d, cipher := c, tag, poisoned := false, parent := s.moduleIndex, children := kids } here).advanceJob j p

def execSegmentHostRead (ingestId : Nat) (cipher : Option Bytes) (tag : Bytes) (s : State) : Host.Outcome State Fault Refusal :=
  done (s.hostRead ingestId cipher tag)

/-- A child returns a buffer credit: the oldest segment held for it goes out. -/
def State.takeCredit (s : State) (child x : Nat) : State :=
  let s := s.onCredit child x (fun c => min 12 (c + 1))
  match s.wt.held.find? (fun h => h.die == x && decide (child ∈ h.children)) with
  | none => s
  | some h => (s.forwardHeld h).freeBuffer h.desc

def execBufferCredit (child die : Nat) (s : State) : Host.Outcome State Fault Refusal :=
  if 20 ≤ die ∧ die < 24 then unitOf 120 child (s.takeCredit child die) else .fault (.noSuchUnit die)

/-- A piece that waited for staging frames proceeds: the segments held for it are applied in order (R322). -/
def State.admitStaging (s : State) (n piece : Nat) : State :=
  match s.piece n piece, s.package (s.inst n).bind.place.packageId with
  | some p, some pk =>
    let r := s.stagePiece n p
    if !r.2 then s
    else
      (s.wt.held.filter (fun h => h.desc.pieceId == piece && decide (n ∈ h.waits))).foldl (fun (s : State) (h : HeldSegment) =>
        let q := s.applySegment n pk h
        if q.2 then s
        else
          let done_ : State := { q.1 with wt := { q.1.wt with held := mapIf (fun (x : HeldSegment) => x.desc == h.desc) (fun x => { x with waits := x.waits.filter (· != n) }) q.1.wt.held } }
          done_.freeBuffer h.desc) r.1
  | _, _ => s

def execStagingAdmit (inst piece : Nat) (s : State) : Host.Outcome State Fault Refusal := unitOf numInsts inst (s.admitStaging inst piece)

/-- END reaches a member (R323). -/
def execIngestEnd (ingestId : Nat) (s : State) : Host.Outcome State Fault Refusal := done (s.endMember ingestId)

/-! ## INGEST (R316) -/

/-- A member learns of an INGEST from its reader. -/
def State.joinIngest (s : State) (j : IngestMember) : State := { s with wt := { s.wt with member := s.wt.member ++ [j] } }

/-- INGEST on the reader. -/
def State.ingest (s : State) (packageId first last fanout statusAddr : Nat) (members : List Nat) (ref : CmdRef) : State :=
  let id := le 16 packageId
  match s.package id with
  | none => s.complete ref 0x0B09
  | some p =>
    if p.reader ≠ s.moduleIndex then s.complete ref 0x0B09
    else if !membersOk members ∨ members.any (fun m => !decide (m ∈ p.members)) then s.complete ref 0x0B07
    else if p.table.length ≤ last ∨ last < first ∨ 8 < fanout then s.complete ref 0x1002
    else if 2 ≤ (s.wt.jobs.filter (fun j => j.ref.isSome)).length then s.complete ref 0x0B06
    else
      let f := if fanout = 0 then s.ent 0x2410 2 else fanout
      let k := s.wt.nextIngest
      let group := s.moduleIndex :: members.filter (· != s.moduleIndex)
      let lost := group.filter (fun m => m != s.moduleIndex && s.nodeState (nodeOf m dieK0) == .lost)
      let j : IngestJob := { ingestId := k, package := id, members := group, listed := members, last, fanout := f, piece := first, segment := 0, statusAddr, ref := some ref,
                             statuses := lost.map (fun m => { modIdx := m, status := 2, checked := 0, failed := 0, lowestFailed := 0xFFFFFFFF }) }
      let s : State := { s with wt := { s.wt with nextIngest := k + 1, jobs := s.wt.jobs ++ [j] } }
      let s := s.joinIngest { ingestId := k, package := id, first, last, fanout := f, members := group, listed := decide (s.moduleIndex ∈ members), lost }
      (group.drop 1).foldl (fun (s : State) (m : Nat) =>
        s.tell m 0 18 k f (id ++ le 4 first ++ le 4 last ++ le 1 group.length ++ group.flatMap (le 1))) s

def execIngest (packageId first last fanout statusAddr : Nat) (members : List Nat) (ref : CmdRef) (s : State) : Host.Outcome State Fault Refusal :=
  done (s.ingest packageId first last fanout statusAddr members ref)

/-- A member of an ingest is lost: the reader marks it unreachable, and nothing more goes to it; a lost reader ends the ingest
here at once (R324). -/
def State.ingestLost (s : State) (m : Nat) : State :=
  let gone : MemberStat := { modIdx := m, status := 2, checked := 0, failed := 0, lowestFailed := 0xFFFFFFFF }
  let s : State := { s with wt := { s.wt with
      member := mapIf (fun (j : IngestMember) => decide (m ∈ j.members)) (fun j => { j with lost := addOnce j.lost m }) s.wt.member
      held := s.wt.held.map (fun (h : HeldSegment) => { h with children := h.children.filter (· != m) }) } }
  let s := s.wt.held.foldl (fun (s : State) (h : HeldSegment) => s.freeBuffer h.desc) s
  let s := (s.wt.jobs.filter (fun j => decide (m ∈ j.listed))).foldl (fun (s : State) (j : IngestJob) => s.memberStatus j.ingestId gone) s
  let s := (s.wt.regs.filter (fun r => decide (m ∈ r.members) && !r.answers.any (fun e => e.1 == m))).foldl (fun (s : State) (r : RegJob) => s.regAnswer r.id m 0xFFFF) s
  (s.wt.member.filter (fun j => j.members.headD 0xFF == m)).foldl (fun (s : State) (j : IngestMember) =>
    let s : State := { s with wt := { s.wt with held := s.wt.held.filter (fun h => h.desc.ingestId != j.ingestId) } }
    s.endMember j.ingestId) s

/-! ## What K0 hears of weights from other modules -/

/-- A CONTROL message of this chapter: true where it is one. -/
def State.hearWeights (s : State) (sender : Nat) (d : Bytes) : State × Bool :=
  let kind := field d 0 1
  let a := field d 4 4
  let b := field d 8 8
  let part := slice d 64 (field d 20 4)
  match kind with
  | 16 =>
    let old := ((s.wt.parcels.find? (fun e => e.1 == sender)).map (·.2)).getD []
    let now := (if field d 16 4 = 0 then [] else old) ++ part
    let rest := s.wt.parcels.filter (fun e => e.1 != sender)
    if b ≤ now.length then (State.registerMember { s with wt := { s.wt with parcels := rest } } sender now, true)
    else ({ s with wt := { s.wt with parcels := rest ++ [(sender, now)] } }, true)
  | 17 => (s.regAnswer (part.take 16) sender a, true)
  | 18 =>
    let group := (part.drop 25).map (·.toNat)
    (s.joinIngest { ingestId := a, package := part.take 16, first := field part 16 4, last := field part 20 4, fanout := b, members := group, listed := true }, true)
  | 19 => (s.endMember a, true)
  | 20 => (s.memberStatus a { modIdx := field part 0 1, status := field part 1 1, checked := field part 4 4, failed := field part 8 4, lowestFailed := field part 12 4 }, true)
  | 21 => (s.dropPackage (part.take 16), true)
  | 22 => (s.restoreRequest (part.take 16) a b sender, true)
  | 23 => (s.takeCredit sender a, true)
  | _ => (s, false)

/-! ## Memory errors and sparing of frames (R182, 16 R444) -/

/-- An error met while a beat moves: corrected, or stored poisoned; each counts toward the frame's thresholds. -/
def State.memoryError (s : State) (e : MemErr) : State :=
  let p := offPage e.offset
  let d := s.page p
  let g := e.offset % pageBytes / granuleBytes
  let ch := s.granuleChannel false d.frame g
  let loc : FaultLoc := { die := 16 + keeperOf p, unit := 5, locA := ch, locB := frameRow false d.frame % 65536 }
  let key := 2 ^ 60 + d.frame
  let cause := if e.corrected then 0x1609 else 0x1605
  let s := s.raise { fault cause loc with address := d.frame, flags := 16 }
  let s := s.countError key cause
  let s := if e.corrected then s
    else
      let s := (s.writeBeat (e.offset / 64 * 64) ⟨freeBeat s.free 0, some 0x3FFF⟩).fresh
      if d.holder = 0x3FF2 then s.requestRestore p else s
  let hit := if e.corrected then decide (s.ent 0x2610 2 ≤ s.errorsIn key 0x1609 ticksPerDay) else true
  if hit && s.sparing then { s with flt := { s.flt with toRetire := addOnce s.flt.toRetire (false, d.frame) } } else s

/-- Every memory error of a command. -/
def State.memoryErrors (s : State) (l : List MemErr) : State := l.foldl State.memoryError s

end Sys2Proof.Machine
end

