-- ==== Sys2Proof/Machine/Cores.lean ====
section
/-! DEFINITION. Cores as the rest of the module sees them (03_cores_and_slates.md): causes, landing writes (R79, R93), the
control page (R97), releases and switch clears (R92, R95), dispatch (08_roster.md R228). -/

namespace Sys2Proof.Machine

/-! ## Causes of a core -/

/-- The instance that a core's causes charge. -/
def CoreSt.charge (k : CoreSt) : Nat := if k.instValid then k.inst else 0xFF

/-- Raise a cause at core `c`: FAULT_CAUSE and FAULT_SLOT hold the last one (R97). -/
def State.coreCause (s : State) (c slot : Nat) (r : FaultRecord) : State :=
  (s.onCore c (fun k => { k with faultCause := r.cause, faultOwner := r.owner, faultSlot := slot })).raise r

/-- BAD_COMMAND, charged to the core's own instance (R87, R98). -/
def State.badCommand (s : State) (c : Nat) (slot : Nat := 0) : State :=
  s.coreCause c slot { fault 0x1308 (coreLoc c slot) with inst := (s.core c).charge }

/-- The first read of a `POISON` slot: one 0x1303 per owner per dispatch (R81). -/
def State.poisonRead (s : State) (c slot : Nat) : State :=
  let k := s.core c
  let sl := k.slot slot
  if sl.tag ≠ .poison ∨ sl.owner ∈ k.reported then s
  else
    let cls := if sl.owner = 0x3FFF ∨ k.kernel.any (·.micro) then 3 else 2
    let s := s.onCore c (fun k => { k with reported := k.reported ++ [sl.owner], faultCause := 0x1303, faultOwner := sl.owner, faultSlot := slot })
    s.raiseMerged { fault 0x1303 (coreLoc c slot) with cls, inst := k.charge, owner := sl.owner }

/-- Errors met in a slate (R76): a corrected bit, an uncorrectable data word, an uncorrectable tag word. -/
def State.slateError (s : State) (c : Nat) (e : SlateErr) : State :=
  let cause := match e.kind with | 0 => 0x1301 | 1 => 0x1302 | _ => 0x130A
  let s := if e.kind = 1 then (s.onCore c (fun k => k.putSlate (256 * e.slot) ((List.range 4).flatMap (freeBeat s.free)))).fresh else s
  let s := if e.kind = 0 then s
    else s.onCore c (fun k => k.setSlot e.slot { k.slot e.slot with tag := .poison, owner := if e.kind = 1 then (k.slot e.slot).owner else 0x3FFF, filling := false })
  let s := s.onCore c (fun k => { k with faultCause := cause, faultOwner := (k.slot e.slot).owner, faultSlot := e.slot })
  s.coreError c { fault cause (coreLoc c e.slot) with inst := (s.core c).charge }

/-- Issue slots lost at the banks, counted for the selected ports while ENABLE is set; a counter saturates (R75). -/
def countLost (k : CoreSt) (e : Nat × Nat × Nat) : CoreSt :=
  if k.conflictEnable && k.portMask.testBit e.2.1 then
    { k with conflict := supd 0 k.conflict e.1 (fun n => min (n + e.2.2) 0xFFFFFFFF) }
  else k

/-- What an engine command meets on its way. -/
def State.unitEvents (s : State) (c : Nat) (ev : UnitEvents) : State :=
  let s := s.onCore c (fun k => ev.lost.foldl countLost k)
  let s := ev.slate.foldl (fun s e => s.slateError c e) s
  s.memoryErrors ev.memory

/-! ## The arrival book (16 R451) -/

def State.onArrivals (s : State) (n : Nat) (f : ArrivalBook → ArrivalBook) : State :=
  if n < numInsts then s.onInst n (fun i => { i with book := f i.book }) else s
def State.issued (s : State) (n : Nat) : State := s.onArrivals n (fun b => { b with issued := b.issued + 1 })
def State.entered (s : State) (n : Nat) : State := s.onArrivals n (fun b => { b with entered := b.entered + 1 })
def State.applied (s : State) (n : Nat) : State := s.onArrivals n (fun b => { b with applied := b.applied + 1 })
def State.discarded (s : State) (n : Nat) : State := s.onArrivals n (fun b => { b with discarded := b.discarded + 1 })
def State.exited (s : State) (n : Nat) : State := s.onArrivals n (fun b => { b with exited := b.exited + 1 })

/-! ## Lost targets (16 R443) -/

/-- Cause 0x2005 against the requester; an instance that the same fence has released is charged once: a voided step
raises no further one. -/
def State.lostTarget (s : State) (n : Nat) (loc : FaultLoc) : State :=
  if n < numInsts ∧ (s.inst n).roster.step.any (·.void) then s
  else s.raise { fault 0x2005 loc with inst := if n < numInsts then n else 0xFF }

/-- The acknowledgement of a store command will carry a flagged increment. -/
def State.flagStore (s : State) (c cmdNo : Nat) : State :=
  if c < numCores then s.onCore c (fun k => { k with stores := mapIf (fun j => j.cmdNo == cmdNo) (fun j => { j with flagged := true }) k.stores }) else s

/-! ## Landing writes (R79, R93) -/

/-- A core that takes no access: itself fenced, or its die is (R93, 16 R440). -/
def State.coreFenced (s : State) (c : Nat) : Bool := (s.core c).fenced || s.flt.fenced.testBit (coreDie c)

/-- Beats of a packet that fall into slot `i`, with their offsets. -/
def beatsOf (p : LandingPkt) (i : Nat) : List (Nat × Beat) :=
  ((List.range p.beats.length).zip p.beats).filterMap (fun x =>
    let o := p.offset + 64 * x.1
    if o / 256 = i then some (o, x.2) else none)

/-- Land one slot's beats: written, or discarded onto an occupied slot when tagged; true where they were discarded. -/
def landSlot (p : LandingPkt) (k : CoreSt) (i : Nat) : CoreSt × Bool :=
  let bs := beatsOf p i
  let poison := bs.filterMap (·.2.poison)
  let put (k : CoreSt) : CoreSt := bs.foldl (fun k x => k.putSlate x.1 x.2.bytes) k
  if p.tagged then
    if k.writable i then ((put k).endFill i p.owner poison, false) else (k, true)
  else ((put k).rawWrite i poison, false)

/-- Slots that a packet touches. -/
def landSlots (p : LandingPkt) : List Nat :=
  let first := p.offset / 256
  let last := (p.offset + 64 * p.beats.length - 1) / 256
  (List.range (last + 1 - first)).map (first + ·)

/-- All slots of a packet: the core, and the slots that were occupied. -/
def landAll (p : LandingPkt) (k : CoreSt) : CoreSt × List Nat :=
  (landSlots p).foldl (fun (acc : CoreSt × List Nat) i =>
    let r := landSlot p acc.1 i
    (r.1, if r.2 then acc.2 ++ [i] else acc.2)) (k, [])

/-- The increment that a packet names: made with its last beats, flagged where beats were discarded (R79, R82). -/
def landCount (p : LandingPkt) (hit : Bool) (k : CoreSt) : CoreSt :=
  if p.count then
    let k := if hit then k.flagCount p.counter else k
    if p.last then k.increment p.counter else k
  else k

/-- A remote write reaches its core's landing port (R93). -/
def State.land (s : State) (p : LandingPkt) : State :=
  let k := s.core p.core
  let drop (s : State) : State := if p.count && p.last then s.discarded p.inst else s
  if s.coreFenced p.core then (drop (s.flagStore p.sender p.cmdNo)).lostTarget p.inst (coreLoc p.core)
  else if 0x30000 < p.offset + 64 * p.beats.length then
    (drop s).coreCause p.core 0 { fault 0x1308 (coreLoc p.core) with inst := p.inst }
  else if !k.instValid || k.inst != p.inst then
    (drop s).coreCause p.core (p.offset / 256) { fault 0x1306 (coreLoc p.core (p.offset / 256)) with inst := p.inst }
  else if k.epoch ≠ p.epoch then
    (drop s).onCore p.core (fun k => { k with staleCount := min (k.staleCount + 1) 0xFFFFFFFF })
  else
    let r := landAll p k
    let s := s.onCore p.core (fun _ => landCount p (!r.2.isEmpty) r.1)
    let s := if p.count && p.last then s.applied p.inst else s
    match r.2 with
    | [] => s
    | i :: _ => s.coreCause p.core i { fault 0x1305 (coreLoc p.core i) with inst := p.inst }

/-! ## The control page (R97) -/

/-- The oldest pending wait: kind, slot, counter, engine. -/
def waitParts (w : Wait) (e : Nat) : Nat × Nat × Nat × Nat :=
  match w with
  | .none => (0, 0, 0, 0)
  | .counter n _ _ => (3, 0, n, e)
  | .slotFull i => (1, i, 0, e)
  | .slotEmpty i => (2, i, 0, e)
  | .queue _ _ => (4, 0, 0, e)
  | .sync _ => (5, 0, 0, e)
  | .rel i _ => (2, i, 0, e)
  | .mark i _ => (2, i, 0, e)

/-- The wait that CORE_STATUS reports: the sequencer's, else the load, math or store engine's. -/
def CoreSt.oldestWait (k : CoreSt) : Nat × Nat × Nat × Nat :=
  if k.seqWait ≠ .none then waitParts k.seqWait 0
  else if k.loadWait ≠ .none then waitParts k.loadWait 1
  else if k.mathWait ≠ .none then waitParts k.mathWait 2
  else waitParts k.storeWait 3

def CoreSt.loadBusy (k : CoreSt) : Bool := !k.loadQ.isEmpty || !k.loads.isEmpty
def CoreSt.mathBusy (k : CoreSt) : Bool := !k.mathQ.isEmpty
def CoreSt.storeBusy (k : CoreSt) : Bool := !k.storeQ.isEmpty || !k.stores.isEmpty

/-- A slot's tag word. -/
def tagWord (sl : Slot) : Nat :=
  (match sl.tag with | .empty => 0 | .full => 1 | .poison => 2) + 4 * bitOf sl.filling + 2 ^ 16 * sl.owner

/-- The control word at an offset of core `c`'s page (R97). -/
def State.ctlWord (s : State) (c off : Nat) : Nat :=
  let k := s.core c
  if off = 0x000 then coreDie c + 32 * coreTile c + 2048 * corePhys c + 2 ^ 16 * s.logicalOf c
  else if off = 0x004 then
    bitOf k.run + 2 * bitOf (s.coreFenced c) + 4 * bitOf k.release + 8 * bitOf k.switchClear + 16 * k.inst + 1024 * bitOf k.instValid + 2 ^ 16 * k.epoch
  else if off = 0x008 then
    let w := k.oldestWait
    bitOf k.seqRunning + 2 * bitOf k.loadBusy + 4 * bitOf k.mathBusy + 8 * bitOf k.storeBusy + 16 * w.1 + 128 * w.2.1 + 2 ^ 17 * w.2.2.1 + 2 ^ 23 * w.2.2.2
  else if off = 0x00C then k.waitLimit
  else if off = 0x010 then k.faultCause + 2 ^ 16 * k.faultOwner
  else if off = 0x014 then k.faultSlot
  else if off = 0x018 then k.loadQ.length + 2 ^ 8 * k.storeQ.length + 2 ^ 16 * k.mathQ.length
  else if off = 0x01C then k.staleCount
  else if 0x040 ≤ off ∧ off < 0x140 then (k.count ((off - 0x040) / 4)).toNat
  else if off = 0x140 then k.arrivalPoison.toNat % 2 ^ 32
  else if off = 0x144 then k.arrivalPoison.toNat / 2 ^ 32
  else if 0x180 ≤ off ∧ off < 0x1C0 then sget 0 k.conflict ((off - 0x180) / 4)
  else if off = 0x1C0 then bitOf k.conflictEnable + 4 * k.portMask
  else if 0x400 ≤ off ∧ off < 0x1000 then tagWord (k.slot ((off - 0x400) / 4))
  else 0

/-- The words that core code may write: ARRIVAL of 0 to 47, CONFLICT_CTL (R89, R97). -/
def coreMayWrite (off : Nat) : Bool := (decide (0x040 ≤ off) && decide (off < 0x100)) || off == 0x1C0

/-- Write CONFLICT_CTL. -/
def CoreSt.setConflict (k : CoreSt) (v : Nat) : CoreSt :=
  let k := { k with conflictEnable := v.testBit 0, portMask := bits v 9 2 }
  if v.testBit 1 then { k with conflict := [] } else k

/-- A write to TAG[s] counts as one event in the slot's order: tag and owner; tag 3 never occurs (R97). -/
def CoreSt.setTag (k : CoreSt) (i v : Nat) : CoreSt :=
  match v % 4 with
  | 0 => k.setSlot i { k.slot i with tag := .empty, owner := bits v 29 16 }
  | 1 => k.setSlot i { k.slot i with tag := .full, owner := bits v 29 16 }
  | 2 => k.setSlot i { k.slot i with tag := .poison, owner := bits v 29 16 }
  | _ => k

/-- Engines idle, and the sequencer has executed END or has been released (R95). -/
def CoreSt.idle (k : CoreSt) : Bool := !k.loadBusy && !k.mathBusy && !k.storeBusy && !k.seqRunning && !k.release

/-- A switch clear (R95): slots 0 to 735, counters 0 to 47 and their flags; the new instance and epoch. -/
def CoreSt.cleared (k : CoreSt) (inst epoch : Nat) : CoreSt :=
  { k with
    slots := k.slots.filter (fun e => decide (736 ≤ e.1))
    arrival := k.arrival.filter (fun e => decide (48 ≤ e.1))
    arrivalPoison := (k.arrivalPoison >>> 48) <<< 48
    inst, epoch, instValid := true }

/-- The switch clear runs on an idle core only. -/
def State.clearCore (s : State) (c inst epoch : Nat) : State :=
  if (s.core c).idle then s.onCore c (fun k => k.cleared inst epoch) else s

/-- The released step of a core's instance is voided (R92). -/
def State.releaseCore (s : State) (c : Nat) : State :=
  let n := (s.core c).inst
  let v := (s.core c).instValid
  let s := s.onCore c coreReleased
  if v then s.onStep n (fun st => { st with void := true }) else s

/-- A K0 write of CORE_CTL (R97). -/
def State.setCtl (s : State) (c v : Nat) : State :=
  let s := s.onCore c (fun k => { k with run := v.testBit 0, fenced := v.testBit 1 })
  let s := if v.testBit 2 then s.releaseCore c else s
  if v.testBit 3 then (s.clearCore c (bits v 9 4) (bits v 23 16)).onCore c (fun k => { k with instValid := k.instValid && v.testBit 10 })
  else s.onCore c (fun k => { k with inst := bits v 9 4, instValid := v.testBit 10,
                                     epoch := if v.testBit 2 then k.epoch else bits v 23 16 })

/-- A K0 write of a control word; read-only words keep their value. -/
def State.k0Write (s : State) (c off v : Nat) : State :=
  if off = 0x004 then s.setCtl c v
  else if off = 0x00C then s.onCore c (fun k => { k with waitLimit := v % 65536 })
  else if off = 0x01C then s.onCore c (fun k => { k with staleCount := (BitVec.ofNat 32 k.staleCount &&& ~~~(BitVec.ofNat 32 v)).toNat })
  else if 0x040 ≤ off ∧ off < 0x140 then s.onCore c (fun k => k.setCount ((off - 0x040) / 4) (BitVec.ofNat 32 v))
  else if off = 0x140 then s.onCore c (fun k => { k with arrivalPoison := k.arrivalPoison &&& ~~~(BitVec.ofNat 64 (v % 2 ^ 32)) })
  else if off = 0x144 then s.onCore c (fun k => { k with arrivalPoison := k.arrivalPoison &&& ~~~(BitVec.ofNat 64 (v % 2 ^ 32 * 2 ^ 32)) })
  else if off = 0x1C0 then s.onCore c (fun k => k.setConflict v)
  else if 0x400 ≤ off ∧ off < 0x1000 then s.onCore c (fun k => k.setTag ((off - 0x400) / 4) v)
  else s

/-- A write of a control word by the owning sequencer: RW words alone, else 0x1308 (R89, R97). -/
def State.coreWrite (s : State) (c off v : Nat) : State :=
  if !coreMayWrite off then s.badCommand c
  else if off = 0x1C0 then s.onCore c (fun k => k.setConflict v)
  else s.onCore c (fun k => k.setCount ((off - 0x040) / 4) (BitVec.ofNat 32 v))

/-! ## Dispatch (08 R228) -/

/-- LIMIT of index `n` (03 R91): the smallest number of 4,096 cycles that covers its period and the supervisor timeout, at the
clock of the power mode. -/
def State.limitOf (s : State) (n : Nat) : Nat :=
  let us := match s.fab.timeoutHold with
    | some h => if n ∈ h.2 then h.1 else s.ent 0x2300 2
    | none => s.ent 0x2300 2
  let mhz := if s.ent 0x2000 1 = 0 then 1500 else s.ent 0x2000 4
  min 0xFFFF (((s.ent (instIdx n 0x80) 1 + 400 * us) * mhz + 1638399) / 1638400)

/-- A step of index `n` ends: its cores have the LIMIT of the new timeout (R302). -/
def State.renewLimit (s : State) (n : Nat) : State :=
  match s.fab.timeoutHold with
  | none => s
  | some h =>
    let left := h.2.filter (· != n)
    let s : State := { s with fab := { s.fab with timeoutHold := if left = [] then none else some (h.1, left) } }
    { s with cores := smap {} (fun _ (k : CoreSt) => if holds n k then { k with waitLimit := s.limitOf n } else k) s.cores }

/-- A core starts a kernel: pc at the entry, g0 to g7 from the record, g8 to g15 cleared. -/
def CoreSt.start (k : CoreSt) (d : DispatchRec) : CoreSt :=
  { k with
    pc := BitVec.ofNat 64 d.entry
    g := Vector.ofFn (fun (i : Fin 16) => if i.val < 8 then d.g.getD i.val 0 else 0)
    kernel := some { inst := d.inst, kernelId := d.kernelId, layer := d.layer, micro := d.micro }
    seqRunning := true, seqWait := .none, reported := [], acc := [], next := none }

/-- A record reaches a core: it starts, or waits as the next kernel; a third one is not sent (R228). -/
def CoreSt.take (k : CoreSt) (d : DispatchRec) : CoreSt :=
  if k.kernel.isNone then k.start d else if k.next.isNone then { k with next := some d } else k

/-- The cores that a record's mask of logical positions names on a tile. -/
def State.maskCores (s : State) (die tile mask : Nat) : List Nat :=
  (List.range 24).filterMap (fun l => if mask.testBit l then s.coreAt die tile l else none)

/-- The tile router delivers a record to its cores; a core of another instance, epoch or a fenced one does not take it. -/
def State.deliverRecord (s : State) (die tile : Nat) (d : DispatchRec) : State :=
  let s := { s with tiles := dropFirst (· == (die * 48 + tile, d)) s.tiles }
  (s.maskCores die tile d.mask).foldl (fun s c =>
    if (s.core c).instValid && (s.core c).inst == d.inst && (s.core c).epoch == d.epoch && !s.coreFenced c then s.onCore c (fun k => { k.take d with waitLimit := s.limitOf d.inst }) else s) s

/-- Is a core still running kernel `d` of its instance? -/
def runs (r : Running) (k : CoreSt) : Bool := k.seqRunning && k.kernel.any (fun x => x.inst == r.inst && x.kernelId == r.kernelId)

/-- END on core `c`: the kernel is done there; once no core runs it any more, the next kernel starts (R89, 08 R228). -/
def State.endOn (s : State) (c : Nat) : State :=
  match (s.core c).kernel with
  | none => s.onCore c (fun k => { k with seqRunning := false })
  | some r =>
    let s := s.onCore c (fun k => { k with seqRunning := false, kernel := none, reported := [] })
    if s.cores.any (fun e => runs r e.2) then s
    else { s with cores := smap {} (fun _ k => match k.next with
      | some d => if k.kernel.isNone ∧ d.inst = r.inst then k.start d else k
      | none => k) s.cores }

end Sys2Proof.Machine
end

