-- ==== Sys2Proof/Machine/Fabric.lean ====
section
/-! DEFINITION. Tolgil beneath its packets (10_tolgil_fabric.md): answers, route changes (R285), node states (R296, R298),
ports that go down (R295, R299), link entries (R290), lanes (R294), the host link (16_faults_availability.md R442). -/

namespace Sys2Proof.Machine

/-! ## Link entries and ports -/

/-- Change one of the six counters of a port (R301): 0 corrected codewords, 1 uncorrectable, 2 replays, 3 NAKs sent,
4 packets lost, 5 audit differences. -/
def countPort (i n : Nat) (p : PortSt) : PortSt := { p with counters := p.counters.modify i (fun c => (c + n) % 2 ^ 64) }

/-- Put LINK entries on a port, in a flit of their own that is kept for replay. -/
def putLinks (l : List LinkEntry) (p : PortSt) : PortSt :=
  { p with txSeq := (p.txSeq + 1) % 4096, replay := p.replay ++ [{ seq := p.txSeq, links := l }] }

/-- The port exchanges link entries: up, or trained and waiting for its partner. -/
def State.sendLinks (s : State) (p : Nat) (l : List LinkEntry) : State :=
  let s := s.onPort p (putLinks l)
  { s with fab := { s.fab with sentLinks := s.fab.sentLinks ++ [(p, l)] } }

/-- The unit of a port in a record (16 R436). -/
def portLoc (p : Nat) (lanes : Nat := 0) : FaultLoc := { die := 20 + p / 4, unit := 8, locA := p, locB := lanes }

/-- Dies of this module that its HEARTBEAT marks live: those that work (R296). -/
def State.liveness (s : State) : Nat := maskOf ((List.range 25).filter (fun d => d == dieK0 || s.dieWorks d))

/-- The HEARTBEAT entry that this module sends (R269, R295). -/
def State.heartbeatEntry (s : State) : LinkEntry := .heartbeat s.moduleIndex (unle Config.serialNumber) s.incarnation s.liveness

/-! ## Answers at the requester (R276, R298) -/

/-- Beats that an answer delivers: as sent on OK, else poisoned, with the named owner on status 1; bytes that it does not bring
are free. -/
def answerBeats (k : Nat) (q : Packet) (n : Nat) : List Beat :=
  let bytes := (List.range n).map (fun i => let b := slice q.data (64 * i) 64; b ++ (freeBeat k i).drop b.length)
  if q.status = 0 then
    ((List.range n).zip bytes).map (fun x => ⟨x.2, if q.poisonMask.testBit x.1 then some q.poisonOwner else none⟩)
  else bytes.map (fun b => ⟨b, some (if q.status = 1 then q.poisonOwner else 0x3FFF)⟩)

/-- What an aperture read returns: bytes, and EP by beat (19 R508). -/
def State.apertureAnswer (s : State) (b : Bytes) (ep : List Bool) : State := { s with host := { s.host with answer := b, answerEp := ep } }

/-- An answer to an aperture read of `n` bytes from byte `o` of its first beat: one that is not performed is 0xFF with EP. -/
def State.apertureDeliver (s : State) (q : Packet) (o n : Nat) : State :=
  let k := (o + n + 63) / 64
  if q.status ≤ 1 then
    let b := answerBeats s.free q k
    s.fresh.apertureAnswer (slice (b.flatMap (·.bytes)) o n) (b.map (fun x => x.poison.isSome))
  else s.apertureAnswer (List.replicate n 0xFF#8) (List.replicate k true)

/-- Deliver an answer to the unit that waits for it. Core 19,201 stands for the host's aperture. -/
def State.deliverAnswer (s : State) (o : Outstanding) (q : Packet) : State :=
  if o.core < numCores then
    if o.opcode = 2 then s.onCore o.core (fun k =>
      match k.stores.find? (fun j => j.cmdNo == o.cmdNo && j.todo.isEmpty) with
      | none => k
      | some j =>
        let k := { k with stores := k.stores.filter (fun j => j.cmdNo != o.cmdNo) }
        if j.cmd.ack then (if j.flagged ∨ q.status ≠ 0 then k.flagCount j.cmd.ackCounter else k).increment j.cmd.ackCounter else k)
    else s.fresh.onCore o.core (fun k =>
      if k.loads.any (fun j => j.cmdNo == o.cmdNo && decide (o.slot ∈ j.left)) then
        { k with arrived := k.arrived ++ [(o.cmdNo, o.slot, answerBeats s.free q 4)] }
      else k)
  else if o.core = numCores + 1 ∧ o.opcode = 1 then s.apertureDeliver q o.slot o.cmdNo
  else s

/-- Take an answer: it goes to the outstanding request of its tag; one to a quarantined or unknown tag is discarded. On
NO_ROUTE the via that answered is unusable for that module for 100 ms (R284). -/
def State.takeAnswer (s : State) (q : Packet) : State :=
  let x := nodeDie q.node
  match s.fab.outstanding.find? (fun o => o.die == x && o.tag == q.tag) with
  | none => s
  | some o =>
    let s := { s with fab := { s.fab with outstanding := dropFirst (· == o) s.fab.outstanding } }
    let s := s.deliverAnswer o q
    if q.status = 5 then
      let via := nodeModule q.src
      let dest := nodeModule o.node
      let s := { s with fab := { s.fab with badVias := addOnce s.fab.badVias (via, dest) } }
      s.raise { fault 0x1A0B { die := x, unit := 8 } with address := o.node, detail := via }
    else s

/-! ## Route changes (R285) -/

/-- Streams whose chosen port is no longer the one they used start to drain. -/
def State.startDrains (s : State) : State :=
  let moved := s.fab.paths.filter (fun e => s.choosePort e.1.1 e.1.2.1 e.1.2.2 != some e.2)
  { s with fab := { s.fab with
      paths := s.fab.paths.filter (fun e => !decide (e ∈ moved))
      draining := s.fab.draining ++ (moved.map (·.1)).filter (fun k => !decide (k ∈ s.fab.draining)) } }

/-- The drain of a stream ends: its waiting packets go out on the new path, in issue order. -/
def State.endDrain (s : State) (o d v : Nat) : State :=
  if (o, d, v) ∈ s.fab.draining then
    let mine := s.fab.drainQueue.filter (fun e => e.1 == o && e.2.node == d && e.2.vc == v)
    let s : State := { s with fab := { s.fab with
      draining := s.fab.draining.filter (· != (o, d, v))
      drainQueue := s.fab.drainQueue.filter (fun e => !(e.1 == o && e.2.node == d && e.2.vc == v)) } }
    mine.foldl (fun s e => s.sendPacket e.1 e.2) s
  else s

/-! ## Node states (R296, R298) -/

/-- Names of members of model `n` that a lost module takes with it: the model is dismissed at once (08 R221). -/
def State.peerLost (s : State) (m : Nat) : State :=
  (s.instsWith (fun i => i.bind.state == .serving && decide (m ∈ i.bind.place.members))).foldl (fun s n =>
    s.dismissAtOnce { fault 0x1801 { die := dieK0 } with inst := n, address := m } 8) s

/-- Answer a request of this module with LOST_TARGET. -/
def State.answerLost (s : State) (o : Outstanding) : State := s.deliverAnswer o { opcode := 0x30, status := 2, tag := o.tag }

/-- A node is declared lost (R298). -/
def State.nodeLost (s : State) (n : Nat) : State :=
  if s.nodeState n = .lost ∨ s.nodeState n = .unconfigured then s
  else
    let out := s.fab.outstanding.filter (fun o => o.node == n)
    let held := s.fab.heldRequests.filter (fun e => e.2.node == n)
    let s := s.setNode n .lost
    let s : State := { s with fab := { s.fab with
      outstanding := s.fab.outstanding.filter (fun o => o.node != n)
      heldRequests := s.fab.heldRequests.filter (fun e => e.2.node != n)
      drainQueue := s.fab.drainQueue.filter (fun e => e.2.node != n)
      quarantined := s.fab.quarantined ++ out.map (fun o => (o.die, o.tag))
      suspectSince := serase s.fab.suspectSince n } }
    let s := s.bump 0x2300 6
    let s := out.foldl State.answerLost s
    let charged := ((out.map (·.inst)) ++ (held.map (fun e => e.2.inst))).eraseDups.filter (fun i => decide (i < 64))
    let s := charged.foldl (fun s i => s.raise { fault 0x1A04 { die := dieK0, unit := 8 } with inst := i, address := n }) s
    let s := s.postEvent 1 (le 2 n ++ le 1 2 ++ zeros 5 ++ le 8 (maskOf charged))
    (s.peerLost (nodeModule n)).ingestLost (nodeModule n)

/-- Nodes of the table follow the reachability of their modules: `SUSPECT` with requests held, or `LIVE` again with the held
requests sent. -/
def State.followReach (s : State) : State :=
  let sus := (s.fab.nodes.filter (fun (e : Nat × NodeState) => e.2 == .live && !s.reachable (nodeModule e.1))).map (·.1)
  let back := (s.fab.nodes.filter (fun (e : Nat × NodeState) => e.2 == .suspect && s.reachable (nodeModule e.1))).map (·.1)
  let s := sus.foldl (fun s n => let s := s.setNode n .suspect
    { s with fab := { s.fab with suspectSince := sins s.fab.suspectSince n s.now } }) s
  let s := back.foldl (fun s n => let s := s.setNode n .live
    { s with fab := { s.fab with suspectSince := serase s.fab.suspectSince n } }) s
  let go := s.fab.heldRequests.filter (fun (e : Nat × Packet) => decide (e.2.node ∈ back))
  let s : State := { s with fab := { s.fab with heldRequests := s.fab.heldRequests.filter (fun (e : Nat × Packet) => !decide (e.2.node ∈ back)) } }
  go.foldl (fun s e => s.sendPacket e.1 e.2) s

/-- What a port coming up or down, a via or a route entry changes: stream paths, then node states. -/
def State.reroute (s : State) : State := (s.startDrains).followReach

/-! ## Losses with a port (R299) -/

/-- A NOTICE reaches K0: cause 0x1A05 against the model of the lost STORE, which is released. -/
def State.storeLost (s : State) (n : Nat) (port : Nat := 0) : State :=
  s.raise { fault 0x1A05 (portLoc port) with inst := if n < 64 then n else 0xFF }

/-- One packet of the replay buffer of a down port becomes a loss of its kind. -/
def State.losePacket (s : State) (p : Nat) (q : Packet) : State :=
  let own := decide (nodeModule q.src = s.moduleIndex)
  let s := s.onPort p (countPort 4 1)
  if q.opcode = 2 then
    if own then
      let s := { s with fab := { s.fab with outstanding := s.fab.outstanding.filter (fun o => !(q.ack && o.die == nodeDie q.src && o.tag == q.tag && o.opcode == 2)) } }
      s.storeLost q.inst p
    else s.sendPacket (20 + p / 4) (controlPacket (nodeModule q.src) 0x33 q.inst [])
  else if q.opcode = 0x30 ∨ q.opcode = 0x31 then s.sendPacket (20 + p / 4) { q with status := 4, hop := 0, data := [], poisonMask := 0 }
  else if q.opcode = 0x33 ∨ q.opcode = 0x34 ∨ q.opcode = 0x38 then
    (if q.tag = 0 then s.sendPacket dieK0 { q with tag := 1, hop := 0 } else s)
  else if own then s.takeAnswer { opcode := 0x30, status := 4, tag := q.tag, node := q.src, src := q.src }
  else s.sendPacket (20 + p / 4) { opcode := 0x30, vc := 1, status := 4, tag := q.tag, node := q.src, inst := q.inst, epoch := q.epoch }

/-- Declare a port down (R295): cause 0x1A06, its replay buffer is lost by kind, its waiting packets and streams move. -/
def State.portDown (s : State) (p : Nat) : State :=
  if (s.port p).state = 0 ∨ (s.port p).state = 3 then s
  else
    let lost := (s.port p).replay.flatMap (·.packets)
    let wait := (s.port p).waiting
    let s := s.onPort p (fun st => { st with state := 0, lanes := 0, replay := [], waiting := [], badRun := 0, nakPending := false, narrowing := false, passes := [] })
    let s := s.raise (fault 0x1A06 (portLoc p))
    let s := s.startDrains
    let s := lost.foldl (fun s q => s.losePacket p q) s
    let s := wait.foldl (fun s q => s.sendPacket (if q.vc = 3 then dieK0 else 20 + p / 4) q) s
    s.followReach

/-- A port comes up at a width with the partner's heartbeat: fresh books, streams follow (R295). -/
def State.portComesUp (s : State) (p lanes : Nat) : State :=
  (s.onPort p (fun st => { st with state := 2, lanes, passes := [], txSeq := 0, rxSeq := 0, acked := 0, badRun := 0, narrowing := false })).reroute

/-- Hold a port down until the next wake or a change of index. -/
def State.holdPort (s : State) (p : Nat) : State := (s.portDown p).onPort p (fun st => { st with held := true, state := 0 })

/-! ## Widths and lanes (R294, R301) -/

/-- Port control word (R301). -/
def State.portControl (s : State) (p : Nat) : Nat := s.ent 0x2330 (p + 1)
def State.portEnabled (s : State) (p : Nat) : Bool := (s.portControl p).testBit 0

/-- Lanes that a port may use under its width cap and its working lanes: 4, 2, 1 or none. -/
def State.widthFor (s : State) (p : Nat) : Nat :=
  let w := 4 - popCount (s.port p).failedMask 4
  let cap := match bits (s.portControl p) 3 2 with | 0 => 1 | 1 => 2 | _ => 4
  min cap (if w = 4 then 4 else if 2 ≤ w then 2 else w)

/-- `0x2600:09`: failed lanes (16 R453), and the Transcript record of them (18 R487). -/
def State.failLane (s : State) (p l : Nat) : State :=
  let s := s.onPort p (fun st => { st with failedMask := setBit st.failedMask l true })
  { s with flt := { s.flt with failedLanes := setBit s.flt.failedLanes (4 * p + l) true } }

/-- A lane counts as failed: the port retrains narrower with 0x1A07, or goes down without a working lane (R294). -/
def State.laneFails (s : State) (p l : Nat) : State :=
  if (s.port p).failedMask.testBit l then s
  else
    let s := s.failLane p l
    let q := s.submit { kind := 0x000B, key := 0, body := le 8 s.flt.failedLanes }
    let s := q.1
    if s.widthFor p = 0 then s.portDown p
    else
      let s := if (s.port p).state = 2 then s.onPort p (fun st => { st with narrowing := true, retrains := (st.retrains + 1) % 65536 }) else s
      s.raise (fault 0x1A07 (portLoc p (2 ^ l)))

/-! ## The host link (16 R442, 07 R206) -/

/-- Host links that work. -/
def State.hostLinks (s : State) : Nat := (if (s.fn 0).up then 1 else 0) + (if (s.fn 1).up then 1 else 0)

end Sys2Proof.Machine
end

