-- ==== Sys2Proof/Machine/Service.lean ====
section
/-! DEFINITION. An index that returns to `FREE`
(02_syllabus.md R54, R55; 17_object_dictionary.md R458; 13_bell_timetable.md R376), fallback bindings (02 R62, R64). -/

namespace Sys2Proof.Machine

/-! ## Settings of an index (17 R458, R482) -/

/-- Writable entries of an instance range that take a serving default: block, sub-index, sub-index of `0x2400`. -/
def servingDefaults : List (Nat × Nat × Nat) :=
  [(0x10, 7, 1), (0x20, 4, 2), (0x30, 1, 3), (0x40, 2, 4), (0x40, 3, 5), (0x40, 4, 6), (0x40, 5, 7), (0x40, 6, 8),
   (0x50, 3, 9), (0x50, 8, 0xA), (0x60, 1, 0xB), (0x60, 2, 0xC), (0x60, 7, 0xD)]

/-- Every writable entry of the range of index `n` takes its serving default. -/
def State.defaultSettings (s : State) (n : Nat) : State :=
  let s := servingDefaults.foldl (fun s d => s.setEnt (instIdx n d.1) d.2.1 (s.ent 0x2400 d.2.2)) s
  (s.setEnt (instIdx n 0x40) 2 (s.ent 0x2400 4)).setEnt (instIdx n 0x60) 0xC 0

/-! ## Timetable entries of an index (13 R376) -/

/-- Empty the entries that belong to index `n`: its reserved one and its step starts. -/
def State.dropTimetable (s : State) (n : Nat) : State :=
  { s with bell := { s.bell with table := s.bell.table.filter (fun (e : Nat × TtEntry) => !(e.2.inst == n && (e.2.reserved || e.2.kind == 1))) } }

/-- The lowest empty entry. -/
def State.emptyEntry (s : State) : Option Nat :=
  (List.range 512).find? (fun k => !s.bell.table.any (fun e => e.1 == k))

/-! ## Rings of an index (19 R516) -/

/-- Every token ring assigned to a sequence of index `n` is unassigned. -/
def State.unassignRings (s : State) (n : Nat) : State :=
  { s with host := { s.host with rings := smap {} (fun _ (r : Ring) => if r.assigned.any (fun a => a / 65536 == n) then { r with assigned := none } else r) s.host.rings } }

/-! ## An index returns to `FREE` -/

/-- Everything that index `n` holds goes: pages, reservation, pieces, rings, Timetable entry, replica, settings. Its layer
telemetry stays. -/
def State.freeIndex (s : State) (n : Nat) : State :=
  let s := s.returnPages n
  let s := (s.unassignRings n).dropTimetable n
  let s := s.onInst n (fun i => { tel := i.tel, epoch := i.epoch })
  let s := { s with binder := s.binder.filter (· != n) }
  let s := (s.setEnt (instIdx n 0x10) 1 0).setEnt (instIdx n 0x10) 5 0
  s.defaultSettings n

/-- The stored binding's index becomes `FREE` and its command completes with a code. -/
def State.endBinding (s : State) (n code : Nat) : State :=
  let job := (s.inst n).bind.job
  let open_ := (s.inst n).bind.state == .binding
  let s := (s.freeIndex n).setEnt (instIdx n 0x10) 6 code
  match job with
  | some j => if open_ then s.complete j.ref code else s
  | none => s

/-- Binding state and its dictionary number. -/
def bindCode : BindState → Nat
  | .free => 0 | .binding => 1 | .bound => 2 | .serving => 3 | .dismissing => 4

def State.setBind (s : State) (n : Nat) (b : BindState) : State := s.onBind n (fun x => { x with state := b })

/-! ## Fallback bindings (02 R62, R64; 08 R231) -/

/-- Does index `n` have a fallback binding for die `d`? -/
def State.covered (s : State) (n d : Nat) : Bool := (s.ent (instIdx n 0x10) 5).testBit d

/-- The die's fallback binding becomes the binding: the coverage bits read 0 until the recomputation ends. -/
def State.adoptFallback (s : State) (n : Nat) : State :=
  (s.setEnt (instIdx n 0x10) 5 0).onBind n (fun b => { b with recomputing := true })

end Sys2Proof.Machine
end

