-- ==== Sys2Proof/Machine/Bell.lean ====
section
/-! DEFINITION. The Bell unit, the Timetable, lockstep and the Roll call (13_bell_timetable.md R365 to R389). -/

namespace Sys2Proof.Machine

/-! ## The Bell unit (R366 to R372) -/

/-- The module is in lockstep: `LOCKED`, `HOLDOVER`, or `SLEWING` that began in `HOLDOVER` (R370). -/
def State.inLockstep (s : State) : Bool :=
  s.bell.state == .locked || s.bell.state == .holdover || (s.bell.state == .slewing && s.bell.slewFrom == .holdover)

/-- Bell state as `0x2100:01` shows it. -/
def bellCode : BellState → Nat
  | .absent => 0 | .acquiring => 1 | .locked => 2 | .holdover => 3 | .freeRun => 4 | .slewing => 5

/-- What makes a frame valid (R367). -/
def frameValid (f : BellFrame) : Bool := f.syncOk && f.manchesterOk && f.typ == 1 && f.crcOk && f.count % 2048 == 0

/-- Picoseconds of one tick. -/
def psPerTick : Nat := 2500

/-- The Bell delay in ticks. -/
def State.bellDelay (s : State) : Nat := s.ent 0x2100 2 / psPerTick

/-- Load the counter; every Timetable entry keeps its distance from the present (R372). -/
def State.loadCounter (s : State) (t : Nat) : State :=
  let b := s.bell
  let move (e : Nat × TtEntry) : Nat × TtEntry :=
    if e.2.kind = 0 then e else (e.1, { e.2 with time := (e.2.time + t + (2 ^ 64 - b.counter % 2 ^ 64)) % 2 ^ 64 })
  { s with bell := { b with counter := t % 2 ^ 64, table := b.table.map move } }

/-- Enter a Bell state. The holdover time runs on from its first entry through `SLEWING` (R370). -/
def State.enterBell (s : State) (b : BellState) : State :=
  let keep := b == .slewing || (b == .holdover && s.bell.state == .slewing)
  { s with bell := { s.bell with
      state := b, since := if keep then s.bell.since else s.bell.counter
      slewFrom := if b = .slewing then s.bell.state else s.bell.slewFrom } }

/-- Raise a cause of the Bell unit. -/
def State.bellCause (s : State) (cause : Nat) (n : Nat := 0xFF) : State := s.raise { fault cause { die := dieK0 } with inst := n }

/-! ## Leaving lockstep (R381) -/

/-- Does the schedule of an index stand still: left lockstep after step E was created, and no resume is set? -/
def State.suspended (s : State) (n : Nat) : Bool :=
  match (s.inst n).lock.leaveAt with
  | some E => decide (E ≤ s.ent (instIdx n 0x50) 1 + (s.inst n).roster.backlog.length) && (s.inst n).lock.resumeAt.isNone
  | none => false

/-- A LEAVE message: the lowest E governs; one that comes while the index already parks or stands still is ignored. -/
def State.takeLeave (s : State) (n E : Nat) : State :=
  if (s.inst n).bind.state ≠ .serving ∨ !s.spans n then s
  else
    match (s.inst n).lock.leaveAt with
    | none => s.onLock n (fun l => { l with leaveAt := some E, readies := [] })
    | some f => if s.ent (instIdx n 0x50) 1 < f then s.onLock n (fun l => { l with leaveAt := some (min E f) }) else s

def execLeave (inst step : Nat) (s : State) : Host.Outcome State Fault Refusal := unitOf numInsts inst (s.takeLeave inst step)

/-- CANCEL: the resume is discarded, READY is collected afresh (R382). -/
def State.takeCancel (s : State) (n : Nat) : State := s.onLock n (fun l => { l with resumeAt := none, readies := [] })

def execCancel (inst : Nat) (s : State) : Host.Outcome State Fault Refusal := unitOf numInsts inst (s.takeCancel inst)

/-- This module leaves lockstep: CANCEL more than 1 ms before a resume, else LEAVE naming the step after next, to every member
and to itself. -/
def State.leaveLockstep (s : State) (n : Nat) : State :=
  let early := (s.inst n).lock.resumeAt.any (fun r => decide (s.now + ticksPerMs < r))
  if early then (s.tellPeers n 35 0 0 []).takeCancel n
  else
    let E := s.ent (instIdx n 0x50) 1 + 2
    (s.tellPeers n 32 0 E []).takeLeave n E

/-- Every serving instance that spans modules leaves lockstep. -/
def State.allLeave (s : State) : State :=
  (s.instsWith (fun (i : InstSt) => i.bind.state == BindState.serving && decide (1 < i.bind.place.modules))).foldl (fun s n => s.leaveLockstep n) s

/-! ## Events of the Bell unit (R370) -/

/-- Eight consecutive consistent valid frames. -/
def State.bellGood (s : State) (f : BellFrame) : State :=
  match s.bell.state with
  | .absent => (s.loadCounter (f.count + s.bellDelay)).enterBell .acquiring
  | .holdover | .freeRun =>
    if f.offsetPs.natAbs ≤ 1000000000 then
      let s := s.enterBell .slewing
      { s with bell := { s.bell with slew := -f.offsetPs / psPerTick, discontinuity := false } }
    else if s.bell.discontinuity then s
    else State.bellCause { s with bell := { s.bell with discontinuity := true } } 0x1D04
  | _ => s

/-- Three consecutive valid frames that differ from the counter by more than 8 ticks. -/
def State.bellBad (s : State) (f : BellFrame) : State :=
  match s.bell.state with
  | .acquiring => s.loadCounter (f.count + s.bellDelay)
  | .locked => (s.enterBell .holdover).bellCause 0x1D03
  | .slewing => { s with bell := { s.bell with slew := -f.offsetPs / psPerTick } }
  | _ => s

/-- A frame arrives (R367): Bell acquisition runs from W5 on. -/
def State.bellFrame (s : State) (f : BellFrame) : State :=
  if s.wakeStage < 5 then s
  else if !frameValid f then s.bump 0x2100 6
  else
    let b := s.bell
    let s := match b.lastCount with
      | some _ => s.reach (b.lastAt + 2048 * f.frameTimes)
      | none => s
    let consistent := b.lastCount.all (fun c => f.count == (c + 2048 * f.frameTimes) % 2 ^ 64)
    let s := if consistent ∧ b.lastCount.isSome ∧ f.sourceId ≠ s.ent 0x2100 7 then s.bellCause 0x1D05 else s
    let s := s.setEnt 0x2100 7 f.sourceId
    let good := if consistent then b.goodRun + 1 else 1
    let bad := if 8 * psPerTick < f.offsetPs.natAbs then b.badRun + 1 else 0
    let s : State := { s with bell := { s.bell with lastCount := some f.count, lastAt := s.bell.counter, goodRun := good, badRun := bad, offsetPs := f.offsetPs } }
    let s := if 8 ≤ good then s.bellGood f else s
    let s := if 3 ≤ bad then State.bellBad { s with bell := { s.bell with badRun := 0 } } f else s
    { s with bell := { s.bell with lastAt := s.bell.counter } }

def execBellFrame (frame : BellFrame) (s : State) : Host.Outcome State Fault Refusal := done (s.bellFrame frame)

/-- The counter has stayed within ±5 ns for 1 ms: what was left to slew is done (log entry 16). -/
def State.bellLock (s : State) : State :=
  match s.bell.state with
  | .acquiring | .slewing =>
    let s : State := { s with bell := { s.bell with counter := (s.bell.counter + s.bell.slew.toNat) % 2 ^ 64, slew := 0, discontinuity := false } }
    s.enterBell .locked
  | _ => s

def execBellLock (s : State) : Host.Outcome State Fault Refusal := done s.bellLock

/-- No valid frame for 51.2 µs. -/
def State.bellLost (s : State) : State :=
  let s : State := { s with bell := { s.bell with goodRun := 0, badRun := 0, lastCount := none } }
  match s.bell.state with
  | .acquiring => s.enterBell .absent
  | .locked => ((s.reach (s.bell.lastAt + 20480)).enterBell .holdover).bellCause 0x1D01
  | .slewing => (s.reach (s.bell.lastAt + 20480)).enterBell (if s.bell.slewFrom = .holdover then .holdover else .freeRun)
  | _ => s

def execBellLost (s : State) : Host.Outcome State Fault Refusal := done s.bellLost

/-- 20 s since `HOLDOVER` was entered. -/
def State.holdoverExpired (s : State) : State :=
  if s.bell.state = .holdover ∨ (s.bell.state = .slewing ∧ s.bell.slewFrom = .holdover) then
    (((s.reach (s.bell.since + 20 * ticksPerSec)).enterBell .freeRun).bellCause 0x1D02).allLeave
  else s

def execHoldoverExpired (s : State) : Host.Outcome State Fault Refusal := done s.holdoverExpired

/-- Realign (R372): accepted in `FREE_RUN` after 0x1D04, while no spanning instance runs steps. -/
def State.realign (s : State) : Option State :=
  let runs := s.instsWith (fun (i : InstSt) => i.bind.state == BindState.serving && decide (1 < i.bind.place.modules))
  match s.bell.lastCount with
  | none => none
  | some c =>
    if s.bell.state = .freeRun ∧ s.bell.discontinuity ∧ runs.all s.suspended then
      let s := (s.loadCounter (c + s.bellDelay + (s.bell.counter - s.bell.lastAt))).enterBell .slewing
      some { s with bell := { s.bell with discontinuity := false, slew := 0, lastAt := s.bell.counter } }
    else none

/-! ## The Timetable (R373 to R377) -/

/-- A Timetable entry. -/
def State.ttEntry (s : State) (e : Nat) : TtEntry := sget {} s.bell.table e

/-- Replace a Timetable entry. -/
def State.setTt (s : State) (e : Nat) (v : TtEntry) : State := { s with bell := { s.bell with table := sset {} s.bell.table e v } }

/-- The 32 bytes of an entry. -/
def ttBytes (e : TtEntry) : Bytes := le 1 e.kind ++ le 1 e.inst ++ le 2 0 ++ le 4 e.repeats ++ le 8 e.time ++ le 8 e.period ++ le 8 e.arg

/-- Fire one Timetable entry: it advances, or becomes empty (R375). -/
def State.fireEntry (s : State) (k : Nat) : State :=
  let e := sget ({} : TtEntry) s.bell.table k
  let s := s.reach e.time
  if e.period = 0 ∨ e.repeats = 1 ∨ e.emptying then { s with bell := { s.bell with table := serase s.bell.table k } }
  else { s with bell := { s.bell with table := sins s.bell.table k { e with time := (e.time + e.period) % 2 ^ 64, repeats := e.repeats - 1 } } }

/-- The STEP_START entry of an index. -/
def State.stepStartEntry (s : State) (n : Nat) : Option (Nat × TtEntry) := s.bell.table.find? (fun (e : Nat × TtEntry) => e.2.kind == 1 && e.2.inst == n)

/-- The schedule of an index has an occurrence at `t`. -/
def occursAt (e : TtEntry) (t : Nat) : Bool := e.time == t || (decide (e.time < t) && decide (0 < e.period) && (t - e.time) % e.period == 0)

/-- The conditions of a PERIOD_CHANGE but for the coincidence with STEP_START (R377). -/
def State.periodOk (s : State) (n arg : Nat) : Bool :=
  (s.inst n).bind.state == .serving && decide (400 * s.ent (instIdx n 0x10) 4 ≤ arg)

/-- Fields of a host entry in range (R374, R376). -/
def State.ttFieldsOk (s : State) (b : Bytes) : Bool :=
  let kind := field b 0 1
  let n := field b 1 1
  let t := field b 8 8
  let p := field b 0x10 8
  let a := field b 0x18 8
  zeroField b 2 2 && (p == 0 || decide (400 ≤ p)) &&
  match kind with
  | 2 => decide (n < 64) && s.periodOk n a && (s.stepStartEntry n).any (fun e => occursAt e.2 t)
  | 3 => n == 0 && a == 0
  | 4 => n == 0 && decide (bits a 6 0 < 120) && bits a 15 7 == 0 && decide (1 ≤ bits a 31 16) && decide (bits a 31 16 ≤ 1000) && bits a 63 32 == 0
  | 5 => n == 0 && decide (a < 2 ^ 32)
  | _ => false
where
  /-- All bytes of a field are zero. -/
  zeroField (b : Bytes) (off len : Nat) : Bool := (slice b off len).all (· == 0)

/-- A host write of a Timetable entry (R376); none is the invalid-value answer. -/
def State.writeTimetable (s : State) (e : Nat) (b : Bytes) : Option State :=
  let old := s.ttEntry e
  let guarded := old.kind != 0 && decide (old.time < s.now + ticksPerMs)
  if b.length ≠ 32 ∨ old.reserved ∨ field b 2 2 ≠ 0 then none
  else if field b 0 1 = 0 then (if guarded then some (s.setTt e { old with emptying := true }) else some (s.setTt e {}))
  else if guarded ∨ field b 8 8 < s.now + ticksPerMs ∨ !s.ttFieldsOk b then none
  else some (s.setTt e { kind := field b 0 1, inst := field b 1 1, repeats := field b 4 4, time := field b 8 8, period := field b 0x10 8, arg := field b 0x18 8 })

/-- A PERIOD_CHANGE event (R377). -/
def State.periodChange (s : State) (k : Nat) : State :=
  let e := s.ttEntry k
  if e.kind ≠ 2 then s
  else
    let s := s.fireEntry k
    match s.stepStartEntry e.inst with
    | some t =>
      if s.periodOk e.inst e.arg ∧ t.2.time = e.time then
        (s.setTt t.1 { t.2 with period := e.arg }).setEnt (instIdx e.inst 0x80) 1 e.arg
      else s.bellCause 0x1D06 e.inst
    | none => s.bellCause 0x1D06 e.inst

def execPeriodChange (entry : Nat) (s : State) : Host.Outcome State Fault Refusal := unitOf 512 entry (s.periodChange entry)

/-! ## Regaining lockstep (R382) -/

/-- RESUME: the suspended schedule restarts at a count. -/
def State.takeResume (s : State) (n r : Nat) : State :=
  if s.suspended n then
    let s := match s.stepStartEntry n with
      | some t => s.setTt t.1 { t.2 with time := r }
      | none => s
    s.onLock n (fun l => { l with resumeAt := some r })
  else s

def execLockstepResume (inst count : Nat) (s : State) : Host.Outcome State Fault Refusal := unitOf numInsts inst (s.takeResume inst count)

/-- The first occurrence of a suspended schedule at or after a count. -/
def firstAfter (e : TtEntry) (t : Nat) : Nat := if t ≤ e.time then e.time else e.time + (t - e.time + max 1 e.period - 1) / max 1 e.period * e.period

/-- READY at rank 0: once every member is ready, RESUME goes to all. -/
def State.takeReady (s : State) (n rank : Nat) : State :=
  let pl := (s.inst n).bind.place
  if pl.rank ≠ 0 ∨ !s.suspended n then s
  else
    let s := s.onLock n (fun l => { l with readies := addOnce l.readies rank })
    if (List.range pl.modules).all (fun r => decide (r ∈ (s.inst n).lock.readies)) then
      match s.stepStartEntry n with
      | some t =>
        let r := firstAfter t.2 (s.now + 4000000)
        (s.tellPeers n 34 0 r []).takeResume n r
      | none => s
    else s

def execReady (inst rank : Nat) (s : State) : Host.Outcome State Fault Refusal := unitOf numInsts inst (s.takeReady inst rank)

/-- This member has been `LOCKED` for 1 s: it sends READY to rank 0. -/
def State.sendReady (s : State) (n : Nat) : State :=
  let pl := (s.inst n).bind.place
  if s.bell.state = .locked ∧ s.suspended n then
    let s := s.reach (s.bell.since + ticksPerSec)
    if pl.rank = 0 then s.takeReady n 0 else s.tell (pl.members.getD 0 0) n 33 0 pl.rank []
  else s

def execReadySend (inst : Nat) (s : State) : Host.Outcome State Fault Refusal := unitOf numInsts inst (s.sendReady inst)

/-- Lockstep state as `0x4n80:02` shows it. -/
def State.lockstepState (s : State) (n : Nat) : Nat :=
  if (s.inst n).bind.state ≠ .serving ∨ !s.spans n then 0
  else if (s.inst n).lock.resumeAt.isSome ∨ (s.inst n).lock.clearAt.isSome then 4
  else if s.suspended n then 3
  else if (s.inst n).lock.leaveAt.isSome then 2
  else 1

/-! ## Roll call (R383 to R385) -/

/-- An FP32 code of thousandths. -/
def milli32 (x : Nat) : Nat := if x = 0 then 0 else round32 false x 1000

/-- The greatest of a range of sensors, 1/16 °C. -/
def State.hottest (s : State) (from_ n : Nat) : Int := (List.range n).foldl (fun m i => max m (sget 0 s.pwr.temps (from_ + i))) 0

/-- The sample of an event at a count. -/
def State.sampleBytes (s : State) (t : Nat) : Bytes :=
  let p := s.pwr
  let flags := s.ent 0x2030 3 % 2 + (if p.sag then 2 else 0) + (if 0 < p.throttleMem ∨ 0 < p.throttleLink then 4 else 0)
  le 8 t ++ le 1 s.moduleIndex ++ le 1 (bellCode s.bell.state) ++ le 2 flags ++ le 4 (milli32 p.milliWatt1ms) ++ le 4 (milli32 p.milliVolt) ++
  le 2 (s.capEff / 1000) ++ le 1 s.limitingTerm ++ le 1 0 ++ le 2 (ofInt 16 (s.hottest 0 25)) ++ le 2 (ofInt 16 (s.hottest 25 12)) ++
  le 4 (s.ent 0x2020 5) ++ le 4 (s.ent 0x2020 6) ++ le 4 (s.ent 0x2020 7) ++ le 8 (s.ent 0x2010 1) ++ le 8 (p.energy / 100000) ++ le 2 (s.ent 0x2000 0xD) ++ zeros 6

/-- The member bitmap of the Roll call. -/
def State.rollMembers (s : State) : Nat := unle ((s.blob 0x2120 1).take 16)

/-- Record a sample in its open sweep, once. -/
def recordSample (b : Bytes) (w : Sweep) : Sweep :=
  let m := field b 8 1
  if w.samples.any (fun e => e.1 == m) then w else { w with samples := w.samples ++ [(m, b)] }

/-- Send this module's sample to the collector. -/
def State.postSample (s : State) : State :=
  match s.bell.ownSample with
  | some (m, _, b) => s.tell m 0 36 0 0 b
  | none => s

/-- A ROLL_CALL event: the sample goes to the collector, which opens its sweep. -/
def State.rollCall (s : State) (k : Nat) : State :=
  let e := s.ttEntry k
  if e.kind ≠ 4 then s
  else
    let s := s.fireEntry k
    let b := s.sampleBytes e.time
    let m := bits e.arg 6 0
    let close := e.time + bits e.arg 31 16 * 40000
    if m = s.moduleIndex then
      let held := s.bell.heldSamples.filter (fun x => field x 0 8 == e.time)
      let member := s.rollMembers.testBit m
      let w : Sweep := ((if member then [b] else []) ++ held).foldl (fun w x => recordSample x w) { bell := e.time, close }
      { s with bell := { s.bell with sweeps := s.bell.sweeps ++ [w], heldSamples := s.bell.heldSamples.filter (fun x => field x 0 8 != e.time) } }
    else State.postSample { s with bell := { s.bell with ownSample := some (m, close, b) } }

def execRollCall (entry : Nat) (s : State) : Host.Outcome State Fault Refusal := unitOf 512 entry (s.rollCall entry)

/-- Every 200 µs an unacknowledged sample goes again, until its close. -/
def State.retrySample (s : State) : State :=
  match s.bell.ownSample with
  | some (_, close, _) => if close < s.now then { s with bell := { s.bell with ownSample := none } } else s.postSample
  | none => s

def execRollCallSampleRetry (s : State) : Host.Outcome State Fault Refusal := done s.retrySample

/-- A sample reaches this collector (R384): recorded, held until its sweep opens, or discarded and counted. -/
def State.takeSample (s : State) (b : Bytes) : State :=
  let t := field b 0 8
  let m := field b 8 1
  let ack (s : State) : State := s.tell m 0 37 0 t []
  let ours (e : Nat × TtEntry) : Bool := e.2.kind == 4 && e.2.time == t && bits e.2.arg 6 0 == s.moduleIndex
  if !s.rollMembers.testBit m then ack (s.bump 0x2120 4)
  else if s.bell.sweeps.any (fun w => w.bell == t) then
    ack { s with bell := { s.bell with sweeps := mapIf (fun (w : Sweep) => w.bell == t) (recordSample b) s.bell.sweeps } }
  else if s.bell.table.any ours then ack { s with bell := { s.bell with heldSamples := s.bell.heldSamples ++ [b] } }
  else s.bump 0x2120 4

def execRollCallSample (sample : Bytes) (s : State) : Host.Outcome State Fault Refusal := done (s.takeSample sample)

/-- The sweep record (R385). -/
def State.sweepHeader (s : State) (w : Sweep) : Bytes :=
  le 8 w.bell ++ le 1 s.moduleIndex ++ le 1 (popCount s.rollMembers 128) ++ le 1 w.samples.length ++ zeros 5 ++ le 16 s.rollMembers ++
  le 16 (maskOf (w.samples.map (·.1))) ++ zeros 16

/-- A sweep closes. -/
def State.closeSweep (s : State) (t : Nat) : State :=
  match s.bell.sweeps.find? (fun w => w.bell == t) with
  | none => s
  | some w =>
    let s := s.reach w.close
    let s : State := { s with bell := { s.bell with sweeps := s.bell.sweeps.filter (fun x => x.bell != t) } }
    let sorted := sortBy (fun a b => decide (a.1 ≤ b.1)) w.samples
    let h := s.sweepHeader w
    let s := (s.putBlob 0x2120 2 (h ++ sorted.flatMap (fun (e : Nat × Bytes) => padTo 64 e.2))).postEvent 7 (h.take 48)
    if w.samples.length < popCount s.rollMembers 128 then (s.bump 0x2120 3).bellCause 0x1D07 else s

def execSweepClose (bell : Nat) (s : State) : Host.Outcome State Fault Refusal := done (s.closeSweep bell)

/-! ## What K0 hears of this chapter from other modules -/

/-- A CONTROL message of lockstep or the Roll call: true where it is one. -/
def State.hearBell (s : State) (n : Nat) (d : Bytes) : State × Bool :=
  let b := field d 8 8
  match field d 0 1 with
  | 32 => (s.takeLeave n b, true)
  | 33 => (s.takeReady n b, true)
  | 34 => (s.takeResume n b, true)
  | 35 => (s.takeCancel n, true)
  | 36 => (s.takeSample (slice d 64 (field d 20 4)), true)
  | 37 =>
    match s.bell.ownSample with
    | some (_, _, x) => (if field x 0 8 = b then { s with bell := { s.bell with ownSample := none } } else s, true)
    | none => (s, true)
  | _ => (s, false)

end Sys2Proof.Machine
end

