-- ==== Sys2Proof/Machine/Binder.lean ====
section
/-! DEFINITION. What the binder reads and checks: the Syllabus container and its tables (02_syllabus.md R33 to R50, R66,
R547; 04_number_formats.md R100, R109, R110, R113; 07_attention_kv.md R183 to R185, R548; 08_roster.md R223), the placement
request (19_host_interface.md R522) and its layer groups. Every check answers the refusal code of R67, 0 for passed. -/

namespace Sys2Proof.Machine

/-- The code of the first check that fails. -/
def firstBad (l : List (Bool × Nat)) : Nat := ((l.find? (fun e => !e.1)).map (·.2)).getD 0

/-- All bytes of a field are zero. -/
def zeroField (b : Bytes) (off len : Nat) : Bool := (slice b off len).all (· == 0)

/-- A finite FP32 code. -/
def finite32 (c : Nat) : Bool := decide (c / 2 ^ 23 % 256 ≠ 255)

/-- The number of elements of an extent list. -/
def prodOf (l : List Nat) : Nat := l.foldl (· * ·) 1

/-! ## Container (R33, R34) -/

/-- A section directory entry. -/
structure Section where
  typ : Nat
  ver : Nat
  flags : Nat
  count : Nat
  off : Nat
  len : Nat
  deriving DecidableEq, Repr

def parseSections (b : Bytes) : List Section :=
  (List.range (min (field b 0x10 4) 64)).map (fun i =>
    let o := 0x40 + 24 * i
    { typ := field b o 2, ver := field b (o + 2) 1, flags := field b (o + 3) 1, count := field b (o + 4) 4, off := field b (o + 8) 8, len := field b (o + 16) 8 })

/-- The section of a type. -/
def sectionOf (l : List Section) (t : Nat) : Option Section := l.find? (fun x => x.typ == t)

/-- Record size of a section type; 0 for variable. -/
def sectionUnit (t : Nat) : Nat := match t with | 2 => 128 | 3 => 128 | 4 => 32 | 5 => 64 | _ => 0

/-- Sections ascend and do not overlap, from the end of the directory on. -/
def sectionsApart (total : Nat) : Nat → List Section → Bool
  | from_, [] => decide (from_ ≤ total)
  | from_, x :: r => decide (from_ ≤ x.off) && x.off % 64 == 0 && sectionsApart total (x.off + x.len) r

/-- The directory and container layout (R34, R35). -/
def layoutOk (b : Bytes) (l : List Section) : Bool :=
  let count (t : Nat) : Nat := (l.filter (fun x => x.typ == t)).length
  sectionsApart (field b 8 8) (0x40 + 24 * field b 0x10 4) l &&
  l.all (fun x => x.flags < 2 && (sectionUnit x.typ == 0 || x.len == x.count * sectionUnit x.typ) &&
    (decide (1 ≤ x.typ ∧ x.typ ≤ 7) || x.flags % 2 == 0) && (decide (x.typ < 1 ∨ 7 < x.typ) || x.ver == 1)) &&
  count 2 == 1 && count 3 == 1 && count 4 == 1 && count 5 == 1 && decide (count 1 ≤ 1) && decide (count 6 ≤ 1) && decide (count 7 ≤ 1) &&
  (sectionOf l 5).all (fun x => x.count == 1) && (sectionOf l 6).all (fun x => decide (x.len ≤ 67108864))

/-- The bytes of record `i` of a section. -/
def recordOf (b : Bytes) (x : Option Section) (i : Nat) : Bytes :=
  match x with
  | some x => slice b (x.off + i * sectionUnit x.typ) (sectionUnit x.typ)
  | none => []

def countOf (x : Option Section) : Nat := (x.map (·.count)).getD 0

/-- The resource-needs record (R46). -/
def parseNeeds (r : Bytes) : NeedsRec :=
  { weightBytes := field r 0 8, workBytes := field r 8 8, kvBytes := field r 0x10 4, minCores := field r 0x14 4, vocab := field r 0x18 4,
    maxContext := field r 0x1C 4, tenants := field r 0x20 4, lessonRank := field r 0x24 4 }

def needsOk (r : Bytes) : Bool :=
  let q := parseNeeds r
  decide (1 ≤ q.tenants) && decide (q.tenants ≤ 65536) && (q.lessonRank == 0 || q.lessonRank == 64) && zeroField r 0x28 24

/-! ## Versions and features (R50, R51) -/

/-- The minor version that introduces a feature bit. -/
def featureSince (k : Nat) : Nat := if k < 4 then 0 else if k < 7 then 1 else if k < 10 then 2 else 3

def versionCode (minor required optional granted : Nat) : Nat :=
  let known := (List.range 13).filter (fun k => required.testBit k || optional.testBit k)
  firstBad [(decide (minor ≤ 3), 0x0104), (known.all (fun k => decide (featureSince k ≤ minor)), 0x0105),
    ((List.range 64).all (fun k => !required.testBit k || granted.testBit k), 0x0106)]

/-- The negotiated set: what is granted of the bits asked for. -/
def negotiatedSet (required optional granted : Nat) : Nat :=
  maskOf ((List.range 13).filter (fun k => granted.testBit k && (required.testBit k || optional.testBit k)))

/-! ## Tensors (R36, R37, R100, R113, R185) -/

def parseTensor (r : Bytes) : TensorRec :=
  { id := field r 0 4, cls := field r 4 1, rank := field r 5 1, elemFmt := field r 6 1, scaleFmt := field r 7 1, block := field r 8 1,
    redAxis := field r 9 1, hint := field r 0xA 1, shardAxis := field r 0xB 1, flags := 0, scale := field r 0x40 4, side := field r 0x44 4,
    dims := (List.range 6).map (fun i => field r (0x10 + 8 * i) 8), source := field r 0x48 8, extra := field r 0x50 4 }

/-- Element and scale formats of a descriptor under the negotiated set (R100). -/
def formatsOk (feats : Nat) (t : TensorRec) : Bool :=
  (t.elemFmt == 0xFF || (decide (1 ≤ t.elemFmt) && decide (t.elemFmt ≤ 0x10))) && (t.elemFmt != 3 || feats.testBit 12) &&
  (t.elemFmt != 0xFF || feats.testBit 4) && decide (t.scaleFmt ∈ [0, 0x20, 0x21]) && (t.scaleFmt == 0 || feats.testBit 0) &&
  (t.scaleFmt == 0 || !decide (t.elemFmt ∈ [0xE, 0xF, 0x10])) && finite32 t.scale && t.scale % 2 ^ 31 != 0 && (t.scale == one32 || feats.testBit 1)

/-- A mixed-width tensor's side table has its extents, the reduction extent divided by the block size (R113). -/
def sideTableOk (ts : List TensorRec) (t : TensorRec) : Bool :=
  if t.elemFmt ≠ 0xFF then t.side == 0xFFFFFFFF
  else
    match ts[t.side]? with
    | none => false
    | some q => t.block != 0 && t.scaleFmt != 0 && q.cls == 4 && q.elemFmt == 8 && q.scaleFmt == 0 && q.block == 0 &&
        q.dims == (t.dims.zipIdx).map (fun e => if e.2 = t.redAxis then e.1 / blockSize t.block else e.1)

/-- One descriptor. -/
def tensorOk (feats : Nat) (const : Option Section) (ts : List TensorRec) (i : Nat) (r : Bytes) : Bool :=
  let t := parseTensor r
  let red := t.dims.getD t.redAxis 1
  t.id == i && decide (t.cls ≤ 6) && decide (1 ≤ t.rank) && decide (t.rank ≤ 6) && decide (t.block ≤ 3) &&
  (t.redAxis == 0xFF || decide (t.redAxis < t.rank)) && decide (t.hint ≤ 4) && (t.shardAxis == 0xFF || decide (t.shardAxis < t.rank)) &&
  zeroField r 0xC 4 && zeroField r 0x58 40 && t.dims.all (fun d => decide (1 ≤ d) && decide (d ≤ 2 ^ 40)) && (t.dims.drop t.rank).all (· == 1) &&
  formatsOk feats t && (!decide (t.cls ∈ [1, 2, 4, 5]) || decide (t.hint ≤ 1)) &&
  (t.block == 0 || (t.scaleFmt != 0 && t.redAxis != 0xFF && red % blockSize t.block == 0)) && (t.scaleFmt == 0 || t.block != 0) &&
  sideTableOk ts t &&
  (t.cls != 5 || (t.elemFmt == 0x10 && t.scaleFmt == 0 && t.block == 0 && t.scale == one32)) &&
  (t.cls != 3 || (match const with
    | none => false
    | some x =>
      let l := linesOf t.dims t.redAxis 0xFF 0
      decide (t.source + canonLen t.elemFmt t.scaleFmt t.block l.1 l.2 ≤ x.len))) &&
  (t.cls != 2 || (t.rank == 4 && decide (t.elemFmt ∈ [8, 0xC, 6, 9]) && t.scaleFmt == 0x20 && t.block == 1 && t.redAxis == 1 && t.scale == one32))

/-- A name lies in the string table or is absent (R36). -/
def nameOk (strings : Nat) (r : Bytes) : Bool := field r 0x54 4 == 0xFFFFFFFF || decide (field r 0x54 4 < strings)

/-! ## Kernels (R38 to R40, R43, R48, R109, R110, R142, R183 to R185, R547, R548) -/

def noTensor : Nat := 0xFFFFFFFF

def parseKernel (r : Bytes) : KernelRec :=
  { id := field r 0 4, kind := field r 4 1, variant := field r 5 1, layer := field r 6 2, inputs := (List.range 6).map (fun i => field r (8 + 4 * i) 4),
    outputs := (List.range 2).map (fun i => field r (0x20 + 4 * i) 4), accMode := field r 0x28 1, run := field r 0x29 1, promote := field r 0x2A 1,
    round := field r 0x2B 1, sentinelK := field r 0x2C 1, outFmt := field r 0x2D 1, roundKey := field r 0x30 4, params := slice r 0x38 72 }

/-- A number in the parameters. -/
def KernelRec.par (k : KernelRec) (off len : Nat) : Nat := field k.params off len

/-- The inputs and outputs of a kind by entry: 0 none, 1 required, 2 optional (R40, R183). -/
def operandForm (k : KernelRec) : List Nat × List Nat :=
  match k.kind with
  | 1 => ([1, 1, 0, 0, 0, 0], [1, 0])
  | 2 => ([1, 1, 1, 0, 0, 0], [1, 0])
  | 3 => ([1, 1, 1, 1, 0, 0], [1, 0])
  | 4 =>
    let rot := if k.par 6 2 = 0 then 0 else 1
    ([1, rot, 1, rot, 1, if k.variant = 2 then 1 else if k.variant = 0 then 2 else 0], [1, 0])
  | 5 => ([1, 1, if k.variant = 1 then 2 else 0, 0, 0, 0], [1, 0])
  | 6 => ([1, if k.variant ∈ [0, 1, 6] then 1 else 0, 0, 0, 0, 0], [1, 0])
  | 7 => ([1, 1, 0, 0, 0, 0], [1, 0])
  | 8 => ([1, 0, 0, 0, 0, 0], [1, 1])
  | 9 => ([1, 1, if k.variant = 3 then 1 else 0, 0, 0, 0], [1, 0])
  | 10 => ([1, 0, 0, 0, 0, 0], [1, 0])
  | 11 => ([1, 1, 0, 0, 0, 0], [1, 0])
  | 12 => ([1, 0, 0, 0, 0, 0], [0, 0])
  | _ => ([2, 2, 2, 2, 2, 2], [2, 2])

/-- Entries named as their form asks. -/
def entriesNamed (n : Nat) (form ids : List Nat) : Bool :=
  (form.zip ids).all (fun e => if e.1 = 0 then e.2 == noTensor else if e.1 = 1 then decide (e.2 < n) else decide (e.2 < n) || e.2 == noTensor)

/-- Variants of a kind. -/
def variantOk (k : KernelRec) : Bool :=
  match k.kind with
  | 4 => decide (k.variant ≤ 2) | 5 => decide (k.variant ≤ 1) | 6 => decide (k.variant ≤ 7) | 7 => decide (k.variant ≤ 1) | 8 => decide (k.variant ≤ 1)
  | 9 => decide (k.variant ≤ 3) | 10 => decide (k.variant ≤ 2) | 11 => decide (k.variant ≤ 1) | _ => k.variant == 0

/-- Parameters within their ranges, every other byte zero (R184, R547). -/
def paramsOk (micros : Nat) (k : KernelRec) : Bool :=
  let p := k.par
  let big (x : Nat) : Bool := decide (1 ≤ x) && decide (x ≤ 2 ^ 40)
  let rest (off : Nat) : Bool := zeroField k.params off (72 - off)
  match k.kind with
  | 1 | 2 => big (p 0 8) && big (p 8 8) && big (p 0x10 8) && decide (p 0x18 1 < 4) && rest 0x19
  | 3 => decide (1 ≤ p 0 4) && decide (p 0 4 ≤ 65536) && decide (1 ≤ p 4 4) && big (p 8 8) && big (p 0x10 8) && rest 0x18
  | 4 =>
    let h := p 0 2
    let g := p 2 2
    let w := p 0xC 4
    let wok := decide (16 ≤ w) && decide (w ≤ 2 ^ 20) && w % 16 == 0
    let st := p 0x10 4
    decide (1 ≤ h) && decide (h ≤ 256) && decide (1 ≤ g) && decide (g ≤ h) && h % g == 0 && decide (1 ≤ p 4 2) && decide (p 4 2 ≤ 4095) &&
    decide (p 6 2 ≤ 4095) && decide (p 8 1 ≤ 1) && decide (p 9 1 ≤ 64) && (p 0xA 1 == 0xC || p 0xA 1 == 0xE) && p 0xB 1 == 0 &&
    (if k.variant = 0 then w == 0 else wok) &&
    (st == 0 || (k.variant == 2 && decide (16 ≤ st) && decide (st ≤ 2 ^ 20) && st % 16 == 0)) &&
    finite32 (p 0x14 4) && decide (0 < p 0x14 4) && decide (p 0x14 4 < 2 ^ 31) && rest 0x18 &&
    (p 8 1 == 1 || decide (0 < p 6 2)) && (p 8 1 == 0 || g == 1) && (p 0xA 1 != 0xE || k.accMode == 1)
  | 5 => decide (1 ≤ p 0 4) && finite32 (p 4 4) && decide (p 4 4 ≤ 2 ^ 31) && rest 8
  | 6 => finite32 (p 0 4) && (k.variant == 2 || p 0 4 == 0) && rest 4
  | 7 =>
    let chunk := if p 4 4 = 0 then p 0 4 else p 4 4
    decide (2 ≤ p 0 4) && decide (p 0 4 ≤ 65536) && p 0 4 % 2 == 0 && decide (p 8 4 + p 0 4 ≤ chunk) && rest 0xC
  | 8 => decide (1 ≤ p 0 4) && decide (1 ≤ p 4 4) && decide (p 4 4 ≤ 64) && decide (p 4 4 ≤ p 0 4) && decide (p 8 1 ≤ 1) &&
      zeroField k.params 9 3 && finite32 (p 0xC 4) && rest 0x10
  | 9 => big (p 0 8) && big (p 8 8) && rest 0x10
  | 10 => decide (p 0 1 ≤ 63) && zeroField k.params 1 7 && big (p 8 8) && rest 0x10
  | 11 => decide (p 0 1 ≤ 1) && rest 1
  | 12 => decide (1 ≤ p 0 4) && decide (p 0 4 ≤ 1048576) && rest 4
  | 15 => decide (p 0 4 ≤ 255) && decide (p 0 4 < micros) && decide (1 ≤ p 4 4) && rest 8
  | _ => false

/-- The tensor that an entry names. -/
def named (ts : List TensorRec) (l : List Nat) (i : Nat) : Option TensorRec := ts[l.getD i noTensor]?

/-- Does a tensor's class stand where the kernel names it (R38, R183)? -/
def classesOk (ts : List TensorRec) (k : KernelRec) : Bool :=
  (k.inputs.zipIdx).all (fun e =>
    match ts[e.1]? with
    | none => true
    | some t =>
      if k.kind = 4 then t.cls == (if e.2 = 1 ∨ e.2 = 2 then 2 else if e.2 = 5 then 5 else 1)
      else t.cls != 2 && (t.elemFmt != 0x10 || !decide (k.kind ∈ [1, 2, 3]) || !decide (e.2 ≤ 1)) && (t.elemFmt == 0xFF || k.kind != 2 || e.2 != 1) && (t.elemFmt != 0xFF || (k.kind == 2 && e.2 == 1) || (k.kind == 3 && e.2 == 1)) &&
        (!(k.kind == 3 && (e.2 == 2 || e.2 == 3)) || t.cls == 5) && (!(k.kind == 9 && e.2 == 1) || t.cls == 5) &&
        (!(k.kind == 11 && e.2 == 1) || t.cls == 6) && (!(k.kind == 2 && e.2 == 2) || t.cls == 4)) &&
  (k.outputs.all (fun o => match ts[o]? with | none => true | some t => t.cls == 1 || t.cls == 5)) &&
  (k.kind != 8 || (named ts k.outputs 0).all (fun t => t.cls == 5))

/-- A kernel's record alone (0x0202). -/
def kernelOk (feats micros lessonRank : Nat) (ts : List TensorRec) (i : Nat) (r : Bytes) : Bool :=
  let k := parseKernel r
  let form := operandForm k
  k.id == i && decide (k.kind ∈ [1, 2, 3, 4, 5, 6, 7, 8, 9, 10, 11, 12, 15]) && variantOk k && decide (k.layer ≤ 1023) &&
  (!decide (k.kind ∈ [1, 2, 3, 4]) || (decide (k.accMode ≤ 1) && decide (k.run ≤ 4) && decide (k.promote ≤ 1) && decide (k.round ≤ 1) &&
    decide (k.sentinelK ≤ 20))) && zeroField r 0x2E 2 && zeroField r 0x34 4 && paramsOk micros k && entriesNamed ts.length form.1 k.inputs && entriesNamed ts.length form.2 k.outputs &&
  classesOk ts k && decide (1 ≤ k.outFmt) && decide (k.outFmt ≤ 0x10) && (k.outFmt != 3 || feats.testBit 12) &&
  (k.kind != 4 || k.variant != 1 || feats.testBit 2) && (k.kind != 4 || k.variant != 2 || feats.testBit 6) &&
  (k.kind != 11 || (feats.testBit 7 && lessonRank == 64)) && (k.kind != 15 || feats.testBit 11)

/-- Bytes of a group of 16 positions of an attention kernel (R187). -/
def kernelGroupBytes (ts : List TensorRec) (k : KernelRec) : Nat :=
  let f (i : Nat) : Nat := ((named ts k.inputs i).map (fun t => fmtBits t.elemFmt)).getD 0
  16 * (k.par 4 2 * f 2 + k.par 6 2 * f 1) / 8 + k.par 4 2 + k.par 6 2

/-- Kernels of one layer group agree, at most one of them per layer and template, at most 16 groups (R185, R187). -/
def layerGroupsOk (ts : List TensorRec) (ks : List KernelRec) (tpl : List TemplateRec) : Bool :=
  let att := ks.filter (fun k => k.kind == 4)
  let planes := (att.map (fun k => k.inputs.getD 2 0)).eraseDups
  decide (planes.length ≤ 16) && att.all (fun k => decide (kernelGroupBytes ts k ≤ 65536)) &&
  planes.all (fun v =>
    let g := att.filter (fun k => k.inputs.getD 2 0 == v)
    match g.head? with
    | none => true
    | some h =>
      g.all (fun k => k.inputs.getD 1 0 == h.inputs.getD 1 0 && k.variant == h.variant && k.par 4 4 == h.par 4 4 && k.par 0xC 4 == h.par 0xC 4) &&
      tpl.all (fun t =>
        let mine := g.filter (fun k => decide (t.first ≤ k.id) && decide (k.id < t.first + t.count))
        decide ((mine.map (·.layer)).Nodup)))

/-- The planes that attention kernels name: class 2, their width, MAX_CONTEXT, HEAD_GROUPS and the layers of their group (07 R185;
0x0201). -/
def planesOk (maxContext : Nat) (ts : List TensorRec) (ks : List KernelRec) : Bool :=
  let att := ks.filter (fun k => k.kind == 4)
  att.all (fun k =>
    let layers := ((att.filter (fun q => q.inputs.getD 2 0 == k.inputs.getD 2 0)).map (·.layer)).eraseDups.length
    let plane (j width : Nat) : Bool := (named ts k.inputs j).all (fun t =>
      t.cls == 2 && t.dims.take 4 == [width, maxContext, k.par 2 2, layers])
    plane 2 (k.par 4 2) && (k.par 6 2 == 0 || plane 1 (k.par 6 2)))

/-- A kernel reads nothing before its producer (R38). A tensor that no kernel writes is supplied by the Roster or is data of the
Syllabus. -/
def orderOk (ts : List TensorRec) (ks : List KernelRec) (tpl : List TemplateRec) : Bool :=
  let written := ks.flatMap (·.outputs)
  tpl.all (fun t =>
    (((ks.drop t.first).take t.count).foldl (fun (acc : Bool × List Nat) k =>
      (acc.1 && k.inputs.all (fun i => match ts[i]? with
        | none => true
        | some q => !(q.cls == 1 || q.cls == 5) || decide (i ∈ acc.2) || !decide (i ∈ written)), acc.2 ++ k.outputs)) (true, [])).1)

/-- Product inputs of a matrix kind: their element formats. -/
def productFmts (ts : List TensorRec) (k : KernelRec) : List Nat :=
  let f (i : Nat) : List Nat := ((named ts k.inputs i).map (fun t => [t.elemFmt])).getD []
  match k.kind with
  | 1 | 2 | 3 => f 0 ++ f 1
  | 4 => f 0 ++ [k.par 0xA 1]
  | _ => []

/-- Accumulation mode, rounding and sentinel (R39; 05 R137, R142). -/
def modeOk (feats : Nat) (ts : List TensorRec) (k : KernelRec) : Bool :=
  if k.kind ∈ [1, 2, 3, 4] then
    let fs := productFmts ts k
    (k.accMode == 0 || k.promote == 0 || fs.all (fun f => f != 0xE && f != 0xF)) && (k.accMode == 1 || (feats.testBit 3 && fs.all (fun f => f != 0xE && f != 0xF))) && (k.run != 4 || feats.testBit 10) &&
    (k.round == 0 || feats.testBit 5) && (k.sentinelK == 0 || feats.testBit 8) &&
    (k.sentinelK == 0 || (k.accMode == 1 && (if k.kind = 4 then fs.take 1 else fs).all (fun f => f == 0xFF || decide (fmtBits f ≤ 8))))
  else k.accMode == 0 && k.run == 0 && k.promote == 0 && k.round == 0 && k.sentinelK == 0

/-- The factor T of two-level scaling neither overflows nor underflows (R110). -/
def factorOk (a b y : Nat) : Bool :=
  let t := div32 (mul32 a b) y
  finite32 t && t % 2 ^ 31 != 0

/-- Shapes of a kernel's operands (0x0205). -/
def shapesOk (ts : List TensorRec) (k : KernelRec) : Bool :=
  let i (j : Nat) : TensorRec := (named ts k.inputs j).getD { id := 0, cls := 0, elemFmt := 0, scaleFmt := 0, block := 0, rank := 1, redAxis := 0, hint := 0, shardAxis := 0xFF, side := noTensor, flags := 0, scale := one32, dims := [], source := 0, extra := 0 }
  let y := (named ts k.outputs 0).getD (i 0)
  let d (t : TensorRec) (a : Nat) : Nat := t.dims.getD a 1
  let n (t : TensorRec) : Nat := prodOf t.dims
  let has (j : Nat) : Bool := (named ts k.inputs j).isSome
  match k.kind with
  | 1 | 2 =>
    let x := i 0
    let w := i 1
    let m := k.par 0 8
    let c := k.par 8 8
    let r := k.par 0x10 8
    x.redAxis == (if (k.par 0x18 1).testBit 0 then 0 else x.rank - 1) && w.redAxis == (if (k.par 0x18 1).testBit 1 then w.rank - 1 else 0) &&
    d x x.redAxis == r && n x == m * r && d w w.redAxis == r && n w == c * r && n y == m * c &&
    (x.block == 0 || w.block == 0 || x.block == w.block) && factorOk x.scale w.scale y.scale && (k.kind != 2 || k.inputs.getD 2 0 == w.side)
  | 3 =>
    let x := i 0
    let w := i 1
    n w == k.par 0 4 * k.par 8 8 * k.par 0x10 8 && d w w.redAxis == k.par 8 8 && d x x.redAxis == k.par 8 8 && n y % k.par 0x10 8 == 0 &&
    (x.block == 0 || w.block == 0 || x.block == w.block) && factorOk x.scale w.scale y.scale
  | 4 =>
    let lw := k.par 4 2
    let rw := k.par 6 2
    let q := i 0
    let v := i 2
    d q 0 == (if k.par 8 1 = 1 then lw + rw else rw) && d q 1 == k.par 0 2 && d v 0 == lw && d v 2 == k.par 2 2 &&
    d (i 4) 0 == lw && d (i 4) 1 == k.par 2 2 && d y 0 == lw && d y 1 == k.par 0 2 && d (i 4) 2 == d q 2 && d y 2 == d q 2 &&
    [q, i 4, y].all (fun t => (t.dims.drop 3).all (· == 1)) &&
    (rw == 0 || (d (i 1) 0 == rw && (i 1).dims.drop 1 == v.dims.drop 1 && d (i 3) 0 == rw && d (i 3) 1 == k.par 2 2 && d (i 3) 2 == d q 2 && ((i 3).dims.drop 3).all (· == 1)))
  | 5 => d (i 0) 0 == k.par 0 4 && n (i 1) == k.par 0 4 && (!has 2 || n (i 2) == k.par 0 4) && y.dims == (i 0).dims
  | 6 => y.dims == (i 0).dims && (!has 1 || (i 1).dims == (i 0).dims || (d (i 1) 0 == d (i 0) 0 && n (i 1) == d (i 0) 0))
  | 7 =>
    let chunk := if k.par 4 4 = 0 then k.par 0 4 else k.par 4 4
    d (i 0) 0 % chunk == 0 && n (i 1) == k.par 0 4 / 2 && y.dims == (i 0).dims
  | 8 => d (i 0) 0 == k.par 0 4 && d y 0 == k.par 4 4 && (named ts k.outputs 1).all (fun t => d t 0 == k.par 4 4)
  | 9 =>
    let src := i 0
    d y 0 == k.par 0 8 && d src 0 == k.par 0 8 && (n (if k.variant ∈ [0, 3] then src else y) == k.par 0 8 * k.par 8 8)
  | 10 => (i 0).block == 0 || k.par 8 8 % blockSize (i 0).block == 0
  | 11 => y.dims == (i 0).dims && (i 1).rank == 2 && (i 1).redAxis == 0xFF && d (i 1) 0 == 64 && d (i 1) 1 == d (i 0) 0
  | 12 => d (i 0) 0 == k.par 0 4
  | _ => true

/-! ## Step templates and micro-kernels (R45, R47, R48, R223) -/

def parseTemplate (r : Bytes) : TemplateRec := { kind := field r 0 1, first := field r 4 4, count := field r 8 4, bound := field r 0xC 4, layers := field r 0x10 4 }

def templateOk (kernels : Nat) (r : Bytes) : Bool :=
  let t := parseTemplate r
  decide (t.kind ≤ 2) && zeroField r 1 3 && zeroField r 0x14 12 && decide (t.first + t.count ≤ kernels) && decide (1 ≤ t.count) && decide (t.bound ≤ 65536) && decide (t.layers ≤ 1024)

/-- The micro-kernel records: offset and header of each, while they fit. -/
def microOffsets (b : Bytes) : Nat → Nat → Nat → List Nat
  | 0, _, _ => []
  | k + 1, off, last => if off + roundUp 64 (32 + field b (off + 4) 4) ≤ last then off :: microOffsets b k (off + roundUp 64 (32 + field b (off + 4) 4)) last else []

def parseMicros (b : Bytes) (x : Option Section) : List Nat :=
  match x with
  | some x => microOffsets b x.count x.off (x.off + x.len)
  | none => []

def microPart (b : Bytes) (o : Nat) : Bool := field b o 2 == 0x0B25 && field b (o + 2) 1 == 0x11
def microOk (b : Bytes) (o : Nat) : Bool :=
  let n := field b (o + 4) 4
  let c := field b (o + 0x10) 4
  zeroField b (o + 3) 1 && decide (64 ≤ n) && decide (n ≤ 65536) && decide (field b (o + 8) 4 < n) && decide (1 ≤ field b (o + 0xC) 2) &&
  decide (field b (o + 0xC) 2 ≤ 736) && decide (field b (o + 0xE) 2 ≤ 48) && decide (1 ≤ c) && decide (c ≤ 24) && zeroField b (o + 0x14) 12

/-! ## The Syllabus as a whole (R66 steps 1 to 8) -/

/-- The program that a Syllabus spells under a granted feature set. -/
def parseProgram (b : Bytes) (granted : Nat) : Program :=
  let l := parseSections b
  let recs (t : Nat) : List Bytes := (List.range (countOf (sectionOf l t))).map (recordOf b (sectionOf l t))
  { version := field b 4 1 * 256 + field b 5 1, syllabusId := slice b 0x30 16, features := negotiatedSet (field b 0x18 8) (field b 0x20 8) granted,
    tensors := (recs 2).map parseTensor, kernels := (recs 3).map parseKernel, templates := (recs 4).map parseTemplate,
    needs := parseNeeds (recordOf b (sectionOf l 5) 0), micros := parseMicros b (sectionOf l 7),
    constants := match sectionOf l 6 with | some x => slice b x.off x.len | none => [] }

/-- Steps 1 to 3 of R66: header, CRC, directory. -/
def containerCode (b : Bytes) : Nat :=
  let n := field b 0x10 4
  let total := field b 8 8
  let l := parseSections b
  firstBad [
    (field b 0 4 == 0x424C5953 && field b 6 2 == 64 && field b 4 1 == 1, 0x0101),
    (total % 64 == 0 && decide (4 ≤ n) && decide (n ≤ 64) && decide (0x40 + 24 * n ≤ total) && decide (total ≤ 268435456) && total == b.length &&
      zeroField b 0x14 4 && zeroField b 0x2C 4, 0x0103),
    (crc32c (b.take 0x28 ++ zeros 4 ++ b.drop 0x2C) == field b 0x28 4, 0x0102),
    (layoutOk b l && needsOk (recordOf b (sectionOf l 5) 0), 0x0103)]

/-- Steps 5 to 8 of R66: tensors, kernels, templates, micro-kernels. -/
def tablesCode (b : Bytes) (p : Program) : Nat :=
  let l := parseSections b
  let recs (t : Nat) : List (Bytes × Nat) := ((List.range (countOf (sectionOf l t))).map (recordOf b (sectionOf l t))).zipIdx
  let kinds : List Nat := p.templates.map (fun t => t.kind)
  firstBad [
    (decide (p.tensors.length ≤ 262144) && (recs 2).all (fun e => tensorOk p.features (sectionOf l 6) p.tensors e.2 e.1 && nameOk (((sectionOf l 1).map (·.len)).getD 0) e.1) &&
      planesOk p.needs.maxContext p.tensors p.kernels, 0x0201),
    (decide (p.kernels.length ≤ 262144) && (recs 3).all (fun e => kernelOk p.features p.micros.length p.needs.lessonRank p.tensors e.2 e.1) &&
      layerGroupsOk p.tensors p.kernels p.templates, 0x0202),
    (orderOk p.tensors p.kernels p.templates, 0x0203),
    (p.kernels.all (modeOk p.features p.tensors), 0x0204),
    (p.kernels.all (shapesOk p.tensors), 0x0205),
    (decide (p.templates.length ≤ 16) && (recs 4).all (fun e => templateOk p.kernels.length e.1) &&
      (decide (0 ∈ kinds) || decide (2 ∈ kinds)) && (decide (1 ∈ kinds) || decide (2 ∈ kinds)), 0x0202),
    (p.micros.length == countOf (sectionOf l 7) && p.micros.all (microOk b), 0x0302),
    (p.micros.all (microPart b), 0x0301),
    (decide (p.micros.length ≤ 256), 0x0302)]

/-- Steps 1 to 8 of R66. -/
def syllabusCode (b : Bytes) (granted : Nat) : Nat :=
  let c := containerCode b
  if c ≠ 0 then c
  else
    let v := versionCode (field b 5 1) (field b 0x18 8) (field b 0x20 8) granted
    if v ≠ 0 then v else tablesCode b (parseProgram b granted)

/-! ## Placement request (19 R522) -/

/-- The shard records behind the groups: tensor and boundaries. -/
def parseShards (b : Bytes) : Nat → Nat → List (Nat × List Nat)
  | 0, _ => []
  | k + 1, off =>
    let n := field b (off + 4) 4
    (field b off 4, (List.range (min n 121)).map (fun i => field b (off + 8 + 8 * i) 8)) :: parseShards b k (off + 8 + 8 * n)

def parsePlacement (b : Bytes) : Placement :=
  let g := field b 0xE 1
  let n := field b 6 1
  { modules := n, rank := field b 7 1, policy := field b 8 1, fullFallback := field b 9 1 == 1, weight := field b 0xA 2, maxSeq := field b 0xC 2,
    minSeq := field b 0x10 4, minContext := field b 0x14 4, maxPeriod := field b 0x18 4, packageId := slice b 0x20 16, shardUnit := field b 0x30 2,
    members := (List.range n).map (fun r => field b (0x78 + r) 1),
    groups := (List.range g).map (fun i => (List.range (field b (0x100 + 128 * i) 1)).map (fun r => field b (0x108 + 128 * i + r) 1)),
    shards := parseShards b (field b 0x1C 4) (0x100 + 128 * g) }

/-- The form of a placement request (R521: 0x1002 otherwise). -/
def placementForm (b : Bytes) : Bool :=
  let n := field b 6 1
  let g := field b 0xE 1
  let p := parsePlacement b
  decide (256 ≤ b.length) && field b 0 4 == 0x4C434C50 && field b 4 2 == 1 && decide (1 ≤ n) && decide (n ≤ 120) && decide (field b 8 1 ≤ 2) &&
  decide (field b 9 1 ≤ 1) && decide (1 ≤ p.weight) && decide (p.weight ≤ 1000) && decide (1 ≤ p.maxSeq) && decide (p.maxSeq ≤ 12288) &&
  decide (1 ≤ g) && decide (g ≤ 64) && field b 0xF 1 == 0 && decide (1 ≤ p.shardUnit) && zeroField b 0x32 70 && zeroField b 0xF0 16 &&
  (slice b (0x78 + n) (120 - n)).all (· == 0xFF) && p.groups.all (fun l => decide (l.length ≤ 120)) &&
  b.length == 256 + 128 * g + (p.shards.map (fun e => 8 + 8 * e.2.length)).sum && p.shards.all (fun e => e.2.length == n + 1) &&
  (List.range g).all (fun i => zeroField b (0x101 + 128 * i) 7)

/-- Boundaries that start at 0, end at E and never decrease. -/
def boundsOk (e : Nat) (l : List Nat) : Bool := l.head? == some 0 && l.getLast? == some e && (l.zip (l.drop 1)).all (fun x => decide (x.1 ≤ x.2))

/-- What R522, R548 and R59 ask of a request against the Syllabus and the module: 0x0501, 0x0504. -/
def State.placementCode (s : State) (prog : Program) (p : Placement) : Nat :=
  let att := prog.kernels.filter (fun k => k.kind == 4)
  let rankOf (k : KernelRec) : Nat := -- layer index within the layer group (07 R185)
    (((att.filter (fun q => q.inputs.getD 2 0 == k.inputs.getD 2 0)).map (·.layer)).eraseDups.filter (fun x => decide (x < k.layer))).length
  let planeOk (k : KernelRec) : Bool :=
    match named prog.tensors k.inputs 2 with
    | none => false
    | some v =>
      let sharedBy (j : Nat) : Bool := (named prog.tensors k.inputs j).all (fun t => t.shardAxis == 0xFF && v.shardAxis == 0xFF || shardBounds p t == shardBounds p v)
      let heads (o : Option TensorRec) : Bool := o.all (fun t =>
        if v.shardAxis = 2 then t.shardAxis == 1 && (shardBounds p t) == (shardBounds p v).map (fun x => x * (t.dims.getD 1 1 / max 1 (v.dims.getD 2 1)))
        else if v.shardAxis = 3 then
          (List.range p.modules).all (fun r =>
            let full := t.shardAxis == 0xFF || (t.shardAxis == 1 && (shardBounds p t).getD r 0 == 0 && (shardBounds p t).getD (r + 1) 0 == t.dims.getD 1 1)
            let none_ := t.shardAxis == 1 && (shardBounds p t).getD r 0 == (shardBounds p t).getD (r + 1) 0
            if decide ((shardBounds p v).getD r 0 ≤ rankOf k) && decide (rankOf k < (shardBounds p v).getD (r + 1) 0) then full else none_)
        else t.shardAxis == 0xFF)
      decide (v.shardAxis ∈ [2, 3, 0xFF]) && sharedBy 1 && heads (named prog.tensors k.inputs 0) && heads (named prog.tensors k.inputs 3) &&
      heads (named prog.tensors k.inputs 4) && heads (named prog.tensors k.outputs 0)
  firstBad [
    (decide (p.minSeq ≤ p.maxSeq) && decide (p.minContext ≤ prog.needs.maxContext) && decide (p.rank < p.modules) && decide (p.members.Nodup) &&
      p.members.getD p.rank 0xFF == s.moduleIndex &&
      p.shards.all (fun e => match prog.tensors[e.1]? with | none => false | some t => t.shardAxis != 0xFF && boundsOk (t.dims.getD t.shardAxis 1) e.2) &&
      att.all planeOk && (prog.kernels.filter (fun k => k.kind == 10)).all (fun k => decide (k.par 0 1 < p.groups.length)) &&
      p.groups.all (fun g => g.all (fun m => decide (m ∈ p.members))), 0x0501),
    (!(p.policy == 1 && !s.library), 0x0504),
    (!(p.policy == 2 && !s.fw.granted.testBit 10), 0x0504)]

/-- The checks of R314 against a package that is registered here. -/
def State.packageOk (s : State) (prog : Program) (p : Placement) : Bool :=
  match s.package p.packageId with
  | none => true
  | some k => (prog.tensors.filter sourced).all (partsMatch k.table prog p)

/-! ## Layer groups (R185, R548) -/

/-- The layer groups of a program with what this module holds of each. -/
def layerGroups (prog : Program) (p : Placement) : List LayerGroup :=
  let att := prog.kernels.filter (fun k => k.kind == 4)
  let planes := sortBy (fun a b => decide (a ≤ b)) ((att.map (fun k => k.inputs.getD 2 0)).eraseDups)
  planes.filterMap (fun v =>
    match att.find? (fun k => k.inputs.getD 2 0 == v), prog.tensors[v]? with
    | some k, some t =>
      let layers := sortBy (fun a b => decide (a ≤ b)) (((att.filter (fun q => q.inputs.getD 2 0 == v)).map (·.layer)).eraseDups)
      let b := shardBounds p t
      let lo := b.getD p.rank 0
      let n := b.getD (p.rank + 1) 0 - lo
      let hg := k.par 2 2
      some { variant := k.variant, window := k.par 0xC 4, lw := k.par 4 2, rw := k.par 6 2, vFmt := t.elemFmt,
             kFmt := ((named prog.tensors k.inputs 1).map (·.elemFmt)).getD 0, layers, headGroups := hg, maxContext := t.dims.getD 1 1,
             anchors := (att.filter (fun q => q.inputs.getD 2 0 == v)).foldl (fun m q => max m (q.par 9 1)) 0,
             layerLo := if t.shardAxis = 3 then lo else 0, layerN := if t.shardAxis = 3 then n else layers.length,
             hgLo := if t.shardAxis = 2 then lo else 0, hgN := if t.shardAxis = 2 then n else hg }
    | _, _ => none)

end Sys2Proof.Machine
end

