-- ==== Sys2Proof/Machine/Faults.lean ====
section
/-! DEFINITION. Fences, host links, sparing of cores (16_faults_availability.md R440 to R447, R453). -/

namespace Sys2Proof.Machine

/-! ## Host links (R442, 07 R206) -/

/-- Sequences whose token ring lies on a link: their records cannot be written, so they end at the next step end. -/
def State.endRingOwners (s : State) (f : Nat) : State :=
  (s.host.rings.filter (fun (e : Nat × Ring) => e.2.link == f && e.2.assigned.isSome)).foldl (fun s e =>
    let a := e.2.assigned.getD 0
    s.endRequest (a / 65536) (a % 65536) 0x1906) s

/-- Swapped sequences end when the host is out of reach (07 R206). -/
def State.endSwapped (s : State) : State :=
  s.insts.foldl (fun s i => (i.2.roster.entries.filter (fun (e : Nat × RosterEntry) => e.2.swappedOut)).foldl (fun s e =>
    s.raise { fault 0x1704 { die := dieK0, unit := 4, locA := 8 } with inst := i.1, owner := e.1 }) s) s

/-- A host link goes out of service; `cause` is recorded (19 R530). -/
def State.linkGone (s : State) (f cause : Nat) : State :=
  if !(s.fn f).up then s
  else
    let s := (s.onFn f (fun x => { x with up := false })).emit (fault cause { die := 20 + f, unit := 0xB, locA := f })
    let s := s.endRingOwners f
    let s := if s.hostLinks = 0 then s.endSwapped else s
    if (s.ring (s.ent 0x2560 1)).link = f then s.onFn f (fun x => { x with downOwed := true }) else s.postEvent 9 (le 1 f ++ le 1 0)

/-- A host link goes down. -/
def State.linkLost (s : State) (f : Nat) : State := s.linkGone f 0x2305

def execHostLinkLost (fn : Nat) (s : State) : Host.Outcome State Fault Refusal := unitOf 2 fn (s.linkLost fn)

/-- A host link returns: held completions go out, its loss is reported if that is owed, then its return (19 R523, R529). -/
def State.linkUp (s : State) (f : Nat) : State :=
  if (s.fn f).up ∨ (f = 1 ∧ !s.library) ∨ ((s.fn f).ideKeys.isSome ∧ !(s.fn f).ideSecure) ∨ s.wake.perst ∨ !s.wake.diesUp.testBit (20 + f) ∨ s.flt.fenced.testBit (20 + f) then s
  else
    let s := s.onFn f (fun x => { x with up := true })
    let mine := s.host.heldDone.filter (fun d => (s.ring d.1).link == f)
    let s : State := { s with host := { s.host with heldDone := s.host.heldDone.filter (fun d => !decide (d ∈ mine)) } }
    let s := mine.foldl (fun s d => s.produce d.1 d.2) s
    let s := if (s.fn f).downOwed then (s.onFn f (fun x => { x with downOwed := false })).postEvent 9 (le 1 f ++ le 1 0) else s
    s.postEvent 9 (le 1 f ++ le 1 1)

def execHostLinkUp (fn : Nat) (s : State) : Host.Outcome State Fault Refusal := unitOf 2 fn (s.linkUp fn)

/-! ## Die fences (R440, R441, R449; 02 R55, R64) -/

/-- What a compute die's fence does to one index (02 R55, 08 R231). -/
def State.fenceCompute (s : State) (d n : Nat) : State :=
  let b := (s.inst n).bind
  match b.state with
  | .binding =>
    if b.restarted then s.endBinding n 0x0601
    else s.onBind n (fun b => { b with restarted := true, claimed := false })
  | .bound => if s.covered n d then s.adoptFallback n else s.endBinding n 0x0601
  | .serving =>
    let s := s.releaseInst n
    if b.recomputing ∨ (s.inst n).roster.fencePending.isSome then s.dismissInst n 7
    else s.onRoster n (fun r => { r with fencePending := some d })
  | _ => s

/-- The save area moves to the next working M die; Save assured reads 0 until its copy ends. -/
def State.moveSaveArea (s : State) (d : Nat) : State :=
  if s.flt.saveDie = d then
    match ((List.range 4).map (fun i => 16 + (d - 16 + 1 + i) % 4)).find? s.dieWorks with
    | some m => ({ s with flt := { s.flt with saveDie := m, copying := true } }).setEnt 0x2030 3 0
    | none => ({ s with flt := { s.flt with copying := true } }).setEnt 0x2030 3 0
  else s

/-- Indices that are not `FREE`. -/
def State.busy (s : State) : List Nat := s.instsWith (fun i => i.bind.state != .free)

/-- Fence die `d` (R440): `routers` says whether the routers of a compute die pass their self-test. -/
def State.fenceDie (s : State) (d : Nat) (routers : Bool) : State :=
  if d = dieK0 ∨ s.flt.fenced.testBit d then s
  else
    let s := { s with flt := { s.flt with fenced := setBit s.flt.fenced d true, routersLost := if d < 16 ∧ !routers then setBit s.flt.routersLost d true else s.flt.routersLost } }
    let s := if d < 16 ∧ routers then s else { s with pwr := { s.pwr with regsOff := addOnce s.pwr.regsOff d } }
    let s := s.touch 0x2600 5
    if d < 16 then s.busy.foldl (fun s n => s.fenceCompute d n) s
    else if d < 20 then
      let s := s.busy.foldl (fun s n => (s.releaseInst n).dismissInst n 7) s
      s.moveSaveArea d
    else
      let s := (s.busy.filter (fun n => s.spans n && (s.inst n).bind.state == .serving)).foldl (fun s n => s.releaseInst n) s
      let s := (List.range 4).foldl (fun s i => s.portDown (4 * (d - 20) + i)) s
      if d < 22 then s.linkLost (d - 20) else s

/-- A die-class cause: the record, then the fence. -/
def State.fenceFor (s : State) (cause d : Nat) (routers : Bool) (loc : FaultLoc) : State :=
  if s.flt.fenced.testBit d then s else (s.raise (fault cause loc)).fenceDie d routers

def execDieFault (die : Nat) (routersPass : Bool) (s : State) : Host.Outcome State Fault Refusal :=
  unitOf dieK0 die (s.fenceFor 0x2001 die routersPass { die })

/-- The copy of the save area ends: Save assured reads 1 again. -/
def State.saveAreaCopied (s : State) : State :=
  if s.flt.copying then ({ s with flt := { s.flt with copying := false } }).setEnt 0x2030 3 1 else s

def execSaveAreaCopyDone (s : State) : Host.Outcome State Fault Refusal := done s.saveAreaCopied

/-! ## Cores (R445) -/

/-- The 384 bytes of a die's spare map (17 R465). -/
def State.spareBytes (s : State) (d : Nat) : Bytes :=
  (List.range 48).flatMap (fun t => let m := s.spareMap d t
    le 4 m.1 ++ le 1 m.2 ++ le 1 (popCount m.1 25) ++ le 2 0)

/-- Set a tile's spare map, journal it. -/
def State.setSpare (s : State) (d t : Nat) (m : Nat × Nat) : State :=
  let s := { s with flt := { s.flt with spares := sset (0x1FFFFFF, 0xFF) s.flt.spares (d * 48 + t) m } }
  let s := (s.touch (0x3000 + d) 9).touch 0x2600 6
  s.submitOr { kind := 8, key := d, body := s.spareBytes d }

/-- Indices with work on a compute die. -/
def State.working (s : State) : List Nat := s.instsWith (fun i => i.bind.state == .serving)

/-- Replace a failing core (R445): fenced, its tile's spare takes its logical position; without a spare the tile has one core
fewer and the models of the die go to their fallback bindings. -/
def State.spareCore (s : State) (c : Nat) : State :=
  let d := coreDie c
  let t := coreTile c
  let m := s.spareMap d t
  let l := if corePhys c = 24 then m.2 else corePhys c
  let s := { s with flt := { s.flt with toSpare := s.flt.toSpare.filter (· != c) } }
  let k := s.core c
  let s := s.onCore c (fun k => { k with fenced := true })
  let good := setBit m.1 (corePhys c) false
  let s :=
    if corePhys c ≠ 24 ∧ m.1.testBit 24 ∧ m.2 = 0xFF then
      (s.setSpare d t (good, l)).onCore (coreNo d t 24) (fun q =>
        { q.cleared k.inst k.epoch with run := k.run, instValid := k.instValid, waitLimit := k.waitLimit, mathCfg := k.mathCfg })
    else
      let s := s.setSpare d t (good, if corePhys c = 24 then 0xFF else m.2)
      s.working.foldl (fun s n => if s.covered n d then s.adoptFallback n else s.dismissInst n 7) s
  s.spared (coreLoc c)

/-- The swap waits until the core's engines are idle between layers. -/
def State.spareWhenIdle (s : State) (c : Nat) : State :=
  let k := s.core c
  if c ∈ s.flt.toSpare ∧ !k.loadBusy ∧ !k.mathBusy ∧ !k.storeBusy ∧ !k.seqRunning then s.spareCore c else s

def execCoreSpare (core : Nat) (s : State) : Host.Outcome State Fault Refusal := unitOf numCores core (s.spareWhenIdle core)

end Sys2Proof.Machine
end

