-- ==== Sys2Proof/Machine/Accum.lean ====
section
/-! DEFINITION. The sum of a reduction (05_accumulation.md R128 to R137): exact mode, staged mode, merging; the sentinel's
sampling and bound (R138, R143, R145). -/

namespace Sys2Proof.Machine

/-! ## Special values of a reduction (R129) -/

/-- Products of a block as they enter the flags: none of a zero block or of one whose scale is zero (R108, R129). -/
def flagProds (b : ProdBlock) : List Num :=
  if b.zero then []
  else if b.scaleNan then [.nan]
  else if b.m = 0 then []
  else if b.m < 0 then b.prods.map negNum
  else b.prods

/-- The flags NaN, +∞, −∞ seen over the blocks. -/
def sumFlags (bs : List ProdBlock) : Bool × Bool × Bool :=
  let ps := bs.flatMap flagProds
  (ps.any (· == .nan), ps.any (· == .inf false), ps.any (· == .inf true))

/-- The result of a reduction whose finite sum is `v`. -/
def flagged (f : Bool × Bool × Bool) (v : Num) : Num :=
  if f.1 || (f.2.1 && f.2.2) then .nan else if f.2.1 then .inf false else if f.2.2 then .inf true else v

/-- A signed integer at an exponent; zero is +0. -/
def ofScaled (z : Int) (q : Int) : Num := if z = 0 then .fin false 0 0 else .fin (decide (z < 0)) z.natAbs q

/-! ## Segments (R130) -/

/-- Positions of a block. -/
def blockLen (b : ProdBlock) : Nat := b.prods.length

/-- Cut blocks into segments of 4,096 positions. -/
def segmentsOf : List ProdBlock → Nat → List ProdBlock → List (List ProdBlock)
  | [], _, cur => if cur.isEmpty then [] else [cur.reverse]
  | b :: r, n, cur =>
    if n + blockLen b ≥ 4096 then (b :: cur).reverse :: segmentsOf r 0 []
    else segmentsOf r (n + blockLen b) (b :: cur)

/-- Does a block take part in exact mode: not a zero block, its scale neither zero nor NaN (R131)? -/
def takesPart (b : ProdBlock) : Bool := !b.zero && !b.scaleNan && decide (b.m ≠ 0)

/-- κ of a segment: the largest combined scale exponent (R131). -/
def kappa (seg : List ProdBlock) : Option Int :=
  (seg.filter takesPart).foldl (fun k b => match k with
    | none => some b.h
    | some x => some (max x b.h)) none

/-- Enter `c × 2^sh` into a register: shifted left, or floored with a loss when a set bit drops. -/
def enter (acc : Int × Nat) (c : Int) (sh : Int) : Int × Nat :=
  if 0 ≤ sh then (acc.1 + c * 2 ^ sh.toNat, acc.2)
  else
    let d : Int := 2 ^ (-sh).toNat
    (acc.1 + c / d, acc.2 + (if c % d = 0 then 0 else 1))

/-- Σ n_a n_b 2^(q_a + q_b − λ) over the finite products of a block (R131). -/
def blockInt (b : ProdBlock) : Int :=
  b.prods.foldl (fun a p => match p with
    | .fin s n q => a + atExp s n q b.lam
    | _ => a) 0

/-- Exact mode over one segment: κ, the register and the alignment losses; nothing for a skipped one. -/
def exactSegment (seg : List ProdBlock) : Option (Int × Int × Nat) :=
  match kappa seg with
  | none => none
  | some k =>
    let r := (seg.filter takesPart).foldl (fun acc b => enter acc (b.m * blockInt b) (b.h + b.lam - (k - 43))) ((0, 0) : Int × Nat)
    some (k, r.1, r.2)

/-- Merge segment registers into Z (R132): the value and the alignment losses. -/
def mergeSegments (segs : List (Option (Int × Int × Nat))) : Num × Nat :=
  let live := segs.filterMap id
  match live.foldl (fun k x => match k with
      | none => some x.1
      | some m => some (max m x.1)) (none : Option Int) with
  | none => (.fin false 0 0, 0)
  | some km =>
    let z := live.foldl (fun acc x => enter acc x.2.1 (x.1 - km)) ((0, 0) : Int × Nat)
    (ofScaled z.1 (km - 43), z.2 + (live.map (fun x => x.2.2)).sum)

/-- The exact sum of a reduction and its alignment losses (R131, R132, R134). -/
def exactSum (bs : List ProdBlock) : Num × Nat :=
  let r := mergeSegments ((segmentsOf bs 0 []).map exactSegment)
  (flagged (sumFlags bs) r.1, r.2)

/-! ## Staged mode (R135, R136) -/

/-- Scaled products of a segment in order, special ones as zero (R135). -/
def scaledProds (seg : List ProdBlock) : List Num :=
  seg.flatMap (fun b =>
    if b.zero ∨ b.scaleNan ∨ b.m = 0 then b.prods.map (fun _ => .fin false 0 0)
    else b.prods.map (fun p => match p with
      | .fin s n q => .fin (s != decide (b.m < 0)) (n * b.m.natAbs) (q + b.h)
      | _ => .fin false 0 0))

/-- Cut a list into runs of `g`. -/
def runsOf {α : Type} (g : Nat) : Nat → List α → List (List α)
  | 0, _ => []
  | k + 1, l => if l.isEmpty then [] else l.take g :: runsOf g k (l.drop g)

/-- The largest floor(log2 |p|) of a run, `none` when all are zero. -/
def topExp (l : List Num) : Option Int :=
  l.foldl (fun e p => if isZero p then e else match e with
    | none => some (log2Num p)
    | some x => some (max x (log2Num p))) none

/-- Round one product to the run's unit 2^u, ties to even, signed. -/
def toUnit (u : Int) : Num → Int
  | .fin s n q =>
    let g := if 0 ≤ q then overGrid (n * 2 ^ q.toNat) 1 u else overGrid n (2 ^ (-q).toNat) u
    let k : Int := rneQuot g.1 g.2
    if s then -k else k
  | _ => 0

/-- One run: N and the exponent of its unit (R135). -/
def runSum (g : Nat) (l : List Num) : Int × Int :=
  match topExp l with
  | none => (0, 0)
  | some e =>
    let u := e + (Nat.log2 g : Int) - 22
    (l.foldl (fun a p => a + toUnit u p) 0, u)

/-- Run sums of a segment in ascending order. -/
def segmentRuns (g : Nat) (seg : List ProdBlock) : List (Int × Int) :=
  let ps := scaledProds seg
  (runsOf g (ps.length + 1) ps).map (runSum g)

/-- PROMOTE = 0: the FP32 accumulator of a segment. -/
def fp32Segment (g : Nat) (seg : List ProdBlock) : Nat :=
  (segmentRuns g seg).foldl (fun acc r => rnd32 (addNum (dec32 acc) (ofScaled r.1 r.2))) 0

/-- PROMOTE = 1: the long register of a segment. -/
def longSegment (g : Nat) (seg : List ProdBlock) : Option (Int × Int × Nat) :=
  match kappa seg with
  | none => none
  | some k =>
    let r := (segmentRuns g seg).foldl (fun acc r => if r.1 = 0 then acc else enter acc r.1 (r.2 - (k - 43))) ((0, 0) : Int × Nat)
    some (k, r.1, r.2)

/-- The staged sum and its alignment losses (R136). -/
def stagedSum (g : Nat) (promote : Bool) (bs : List ProdBlock) : Num × Nat :=
  let segs := segmentsOf bs 0 []
  if promote then
    let r := mergeSegments (segs.map (longSegment g))
    (flagged (sumFlags bs) r.1, r.2)
  else
    let accs := segs.map (fp32Segment g)
    let t := match accs with
      | [] => 0
      | a :: r => r.foldl add32 a
    (flagged (sumFlags bs) (dec32 t), 0)

/-- Run length of a RUN code (R38). -/
def runLength (code : Nat) : Nat := 8 * 2 ^ code

/-- The sum under a mode: exact when `staged` is false (R139). -/
def modeSum (staged : Bool) (run : Nat) (promote : Bool) (bs : List ProdBlock) : Num × Nat :=
  if staged then stagedSum (runLength run) promote bs else exactSum bs

/-! ## Products at the edge (R109, R128) -/

/-- Significand, exponent and NaN of one scale. -/
def scaleParts (x : Num) : Int × Int × Bool :=
  match x with
  | .fin s n q => (if s then -(n : Int) else n, q, false)
  | _ => (0, 0, true)

/-- A block of products from decoded elements and scales. -/
def makeBlock (lam : Int) (sa sb : Num) (a b : List Num) : ProdBlock :=
  let x := scaleParts sa
  let y := scaleParts sb
  { scaleNan := x.2.2 || y.2.2, m := x.1 * y.1, h := x.2.1 + y.2.1, lam, prods := List.zipWith mulNum a b }

/-! ## The sentinel (R138, R143 to R145) -/

/-- Is an output block sampled at rate `k` (R143)? -/
def sampledBlock (k kernelId commits block row : Nat) : Bool :=
  (counterGen kernelId (commits % 2 ^ 32) block (row % 2 ^ 32) (row / 2 ^ 32) 0).1 % 2 ^ k == 0

/-- Σ |p| of a reduction, exactly. -/
def sumAbs (bs : List ProdBlock) : Num := (scaledProds bs).foldl (fun a p => addNum a (absNum p)) (.fin false 0 0)

/-- Magnitude of a difference. -/
def gap (a b : Num) : Num := absNum (addNum a (negNum b))

/-- Largest |p| of a list. -/
def maxAbs (l : List Num) : Num := l.foldl (fun a p => if ltNum a (absNum p) then absNum p else a) (.fin false 0 0)

/-- E_run: 2^−23 × G² × Σ over runs of the largest |p| (R138). -/
def runError (g : Nat) (segs : List (List ProdBlock)) : Num :=
  let tops := segs.flatMap (fun s => (runsOf g ((scaledProds s).length + 1) (scaledProds s)).map maxAbs)
  mulNum (.fin false (g * g) (-23)) (tops.foldl addNum (.fin false 0 0))

/-- E_al: alignment losses in units of 2^(κm − 43) (R133). -/
def alignError (losses : Nat) (segs : List (List ProdBlock)) : Num :=
  match (segs.filterMap kappa).foldl (fun k x => match k with
      | none => some x
      | some m => some (max m x)) (none : Option Int) with
  | none => .fin false 0 0
  | some km => .fin false losses (km - 43)

/-- Is the staged sum further from the exact one than the bound of R138? The γ_d of PROMOTE = 0 is cleared of its denominator. -/
def breachOf (g : Nat) (promote : Bool) (bs : List ProdBlock) (staged exact : Num) (stagedLosses : Nat) : Bool :=
  let segs := segmentsOf bs 0 []
  let k := (bs.map blockLen).sum
  let er := runError g segs
  let diff := gap staged exact
  if promote then ltNum (addNum er (alignError stagedLosses segs)) diff
  else
    let d := ((min k 4096 + g - 1) / g - 1) + ((k + 4095) / 4096 - 1)
    let den : Num := .fin false (2 ^ 24 - d) 0
    ltNum (addNum (mulNum den er) (mulNum (.fin false d 0) (addNum (sumAbs bs) er))) (mulNum den diff)

end Sys2Proof.Machine
end

