-- ==== Sys2Proof/Machine/Kernels.lean ====
section
/-! DEFINITION. The arithmetic of the kernel kinds on rows of FP32 values (02_syllabus.md R41 to R43, 07_attention_kv.md
R197, R198, R200, 09_requests.md R246, R257), and codes placed in and taken out of streams. -/

namespace Sys2Proof.Machine

/-! ## Rows -/

/-- Largest value of a row of values that are not NaN. -/
def rowMax (l : List Nat) : Nat := l.foldl (fun a x => if isNan32 x then nan32 else if isNan32 a then a else max32 a x) (inf32 true)

/-- RMS norm (R43, kind 0x05 variant 0). -/
def rmsNorm (eps : Nat) (x gamma : List Nat) : List Nat :=
  let r := rsqrt32 (add32 (div32 (sumSq32 x) (ofNat32 x.length)) eps)
  List.zipWith (fun v g => mul32 (mul32 v r) g) x gamma

/-- Layer norm (R43, kind 0x05 variant 1); with no β no addition is made. -/
def layerNorm (eps : Nat) (x gamma beta : List Nat) : List Nat :=
  let mu := div32 (sum32 x) (ofNat32 x.length)
  let d := x.map (fun v => sub32 v mu)
  let r := rsqrt32 (add32 (div32 (sumSq32 d) (ofNat32 x.length)) eps)
  let y := List.zipWith (fun v g => mul32 (mul32 v r) g) d gamma
  if beta.isEmpty then y else List.zipWith add32 y beta

/-- The rotary partner of element `j` of a span: pair index, and whether it is the second of the pair. -/
def rotaryPair (split : Bool) (w j : Nat) : Nat × Bool :=
  if split then (if j < w / 2 then (j, false) else (j - w / 2, true)) else (j / 2, decide (j % 2 = 1))

/-- Rotary embedding of one row (R43, kind 0x07). -/
def rotaryRow (split : Bool) (w chunk off pos : Nat) (x f : List Nat) : List Nat :=
  (List.range x.length).map (fun k =>
    let j := k % chunk
    if j < off ∨ off + w ≤ j then x.getD k 0
    else
      let p := rotaryPair split w (j - off)
      let base := k - j + off
      let i0 := if split then base + p.1 else base + 2 * p.1
      let i1 := if split then base + p.1 + w / 2 else base + 2 * p.1 + 1
      let t := mul32 (ofNat32 pos) (f.getD p.1 0)
      let c := cos32 t
      let sn := sin32 t
      let x0 := x.getD i0 0
      let x1 := x.getD i1 0
      if p.2 then fma32 x0 sn (mul32 x1 c) else fma32 x0 c (neg32 (mul32 x1 sn)))

/-- Softmax of a row: maximum subtracted, canonical denominator. -/
def softmaxRow (x : List Nat) : List Nat :=
  let m := rowMax x
  let e := x.map (fun v => exp32 (sub32 v m))
  let l := sum32 e
  e.map (fun v => div32 v l)

/-- Insert an indexed score in descending order, equal values by lower index. -/
def insertScore (a : Nat × Nat) : List (Nat × Nat) → List (Nat × Nat)
  | [] => [a]
  | b :: r => if lt32 b.2 a.2 then a :: b :: r else b :: insertScore a r

/-- Scores with their indices, largest first. -/
def rankScores (x : List Nat) : List (Nat × Nat) :=
  ((List.range x.length).zip x).foldl (fun acc a => insertScore a acc) []

/-- Routing and top-k (R43, kind 0x08): gates, then indices. -/
def routeRow (sig : Bool) (k : Nat) (norm : Bool) (gateScale : Nat) (x : List Nat) : List Nat :=
  let p := if sig then x.map sigmoid32 else softmaxRow x
  let top := (rankScores p).take k
  let g := top.map (·.2)
  let g := if norm then
      let l := sum32 g
      g.map (fun v => div32 v l)
    else g
  g.map (fun v => mul32 v gateScale) ++ top.map (·.1)

/-- Weighted sum of rows: a chain of fused multiply-adds from +0.0 (R43 kind 0x09 variant 3; 07 R197). -/
def weightedRows (rows : List (List Nat)) (w : List Nat) (width : Nat) : List Nat :=
  (List.range width).map (fun c => (rows.zip w).foldl (fun acc x => fma32 x.2 (x.1.getD c 0) acc) 0)

/-- Block weights p through P_FMT, then the maximum and the sum (07 R197). -/
def attnWeights (fmt : Nat) (x : List Nat) : List Nat :=
  let m := rowMax x
  let p := x.map (fun v => rnd32 ((decCode fmt false (convNum fmt false none (dec32 (exp32 (sub32 v m)))).1).1))
  p ++ [m, sum32 p]

/-- Merge of statistics (m, l, o …) (07 R198). -/
def mergeStats (a b : List Nat) : List Nat :=
  let m := a.getD 0 (inf32 true)
  let m2 := b.getD 0 (inf32 true)
  if m = inf32 true then b
  else
    let m' := max32 m m2
    let x := exp32 (sub32 m m')
    let y := exp32 (sub32 m2 m')
    m' :: List.zipWith (fun p q => fma32 p x (mul32 q y)) (a.drop 1) (b.drop 1)

/-- Attention mass from pairs (l, m) of blocks, under the row's final m and l (07 R200). -/
def pageMass (m l : Nat) : List Nat → Nat → Nat
  | lb :: mb :: r, acc => pageMass m l r (add32 acc (div32 (mul32 lb (exp32 (sub32 mb m))) l))
  | _, acc => acc

/-- Lesson apply (09 R257): 64 coefficients, β with axis 0 fastest. -/
def lessonRow (scaleForm : Bool) (a x beta : List Nat) : List Nat :=
  (List.range x.length).map (fun c =>
    let u := (List.range 64).foldl (fun u j => fma32 (a.getD j 0) (beta.getD (j + 64 * c) 0) u) 0
    if scaleForm then mul32 (x.getD c 0) (add32 0x3F800000 u) else add32 (x.getD c 0) u)

/-- The 64 coefficients of a pack's entry: code × 2^(e − 133). -/
def lessonCoefs (entry : Bytes) : List Nat :=
  let e := field entry 2 1
  (List.range 64).map (fun j =>
    let v := toInt 8 (field entry (4 + j) 1)
    rnd32 (.fin (decide (v < 0)) v.natAbs ((e : Int) - 133)))

/-- The entry of a pack for a layer and site: bit 15 site, bits 9:0 layer (09 R255). -/
def lessonEntry (pack : Bytes) (layer site : Nat) : Option Bytes :=
  ((List.range (field pack 6 2)).map (fun i => slice pack (64 + 68 * i) 68)).find? (fun e => field e 0 2 == layer + 32768 * site)

/-! ## The slice pass (09 R246) -/

/-- z of token `v`: penalties, biases, mask, temperature. -/
def sliceZ (h : List Nat) (pen presence temp : Nat) (bias : Bytes) (mask : Option Bytes) (v x : Nat) : Nat :=
  let x := if v ∈ h then sub32 (if lt32 0 x then div32 x pen else mul32 x pen) presence else x
  let x := (List.range (bias.length / 8)).foldl (fun x i => if field bias (8 * i) 4 = v then add32 x (field bias (8 * i + 4) 4) else x) x
  let x := match mask with
    | some m => if (field m (v / 8) 1).testBit (v % 8) then x else inf32 true
    | none => x
  if lt32 0 temp then div32 x temp else x

/-- Statistics and candidates of a slice of `z` values from token `first` on; none when a NaN or +∞ fails the row. -/
def sliceStats (rank first n : Nat) (z : List Nat) : Option SliceResult :=
  if z.any (fun v => isNan32 v || v == inf32 false) then none
  else
    let m := rowMax z
    let s := if m = inf32 true then 0 else sum32 (z.map (fun v => exp32 (sub32 v m)))
    let c := ((rankScores z).filter (fun p => p.2 != inf32 true)).take n
    some { rank, m, s, cands := c.map (fun p => { token := first + p.1, z := p.2 }) }

/-! ## Codes in streams -/

/-- Replace code `j` of a run of format `f` (04 R101, R103). -/
def putCode (f : Nat) (run : Bytes) (j c : Nat) : Bytes :=
  if f = 0x03 then
    let q := j / 5
    let b := field run q 1
    let old := (if 243 ≤ b then 121 else b)
    let d := match c with | 1 => 2 | 3 => 0 | _ => 1
    let v := old - old / 3 ^ (j % 5) % 3 * 3 ^ (j % 5) + d * 3 ^ (j % 5)
    run.take q ++ le 1 v ++ run.drop (q + 1)
  else
    let w := fmtBits f
    let q := w * j / 8
    let x := field run q 5
    let sh := w * j % 8
    let v := x - x / 2 ^ sh % 2 ^ w * 2 ^ sh + c % 2 ^ w * 2 ^ sh
    let n := min 5 (run.length - q)
    run.take q ++ (le 5 v).take n ++ run.drop (q + n)

/-- Element `j` of a row that starts at element `first` of a stream, its block scale applied: an exact value, and whether its
code is invalid. -/
def rowElem (f sf block : Nat) (stream : Bytes) (first scaleOff j : Nat) : Num × Bool :=
  let e := runElem f (decide (sf ≠ 0)) stream (first + j)
  if sf = 0 ∨ block = 0 then e else (mulNum e.1 (decScale sf (field stream (scaleOff + j / block) 1)), e.2)

/-- A row as FP32 codes under a tensor scale, and the invalid codes met (04 R110). -/
def rowCodes (f sf block tScale : Nat) (stream : Bytes) (first scaleOff n : Nat) : List Nat × Nat :=
  let es := (List.range n).map (rowElem f sf block stream first scaleOff)
  (es.map (fun e => if tScale = 0x3F800000 then rnd32 e.1 else rnd32 (mulNum e.1 (dec32 tScale))), (es.filter (·.2)).length)

end Sys2Proof.Machine
end

