-- ==== Sys2Proof/Machine/Sequencer.lean ====
section
/-! DEFINITION. The scalar sequencer: one meaning per instruction (03_cores_and_slates.md R89), and the ends of its waits
(R83, R85, R88, R90). An instruction issues while RUN is set, the sequencer is between dispatch and END, and no wait is
pending; otherwise no instruction can issue and the command changes nothing (log entry 20). -/

namespace Sys2Proof.Machine

/-- May the sequencer issue? -/
def CoreSt.issues (k : CoreSt) : Bool := k.run && k.seqRunning && k.seqWait == .none

/-- Issue on core `c`: `f` acts, the program counter moves past the word. -/
def State.seqCore (s : State) (c : Nat) (f : CoreSt → CoreSt) : State :=
  s.onCore c (fun k => if k.issues then { f k with pc := k.pc + 8 } else k)

/-- Issue an instruction that writes a general register. -/
def State.seqReg (s : State) (c : Nat) (d : Fin 16) (f : CoreSt → Word64) : State :=
  s.seqCore c (fun k => { k with g := k.g.set d (f k) })

/-- Issue a branch: to pc + 8 × IMM when taken. -/
def State.seqBranch (s : State) (c : Nat) (imm : BitVec 44) (taken : CoreSt → Bool) : State :=
  s.onCore c (fun k => if k.issues then { k with pc := if taken k then k.pc + 8 * immSext imm else k.pc + 8 } else k)

/-- Issue an instruction that reaches beyond its core. -/
def State.seqAct (s : State) (c : Nat) (f : State → State) : State :=
  if (s.core c).issues then f (s.onCore c (fun k => { k with pc := k.pc + 8 })) else s

/-! ## Registers and branches -/

def execNop (core : Nat) (s : State) : Host.Outcome State Fault Refusal := unitOf numCores core (s.seqCore core id)

def execLi (core : Nat) (d : Fin 16) (imm : BitVec 44) (s : State) : Host.Outcome State Fault Refusal :=
  unitOf numCores core (s.seqReg core d (fun _ => immSext imm))

def execAdd (core : Nat) (d a b : Fin 16) (imm : BitVec 44) (s : State) : Host.Outcome State Fault Refusal :=
  unitOf numCores core (s.seqReg core d (fun k => k.g[a] + k.g[b] + immSext imm))

def execSub (core : Nat) (d a b : Fin 16) (s : State) : Host.Outcome State Fault Refusal :=
  unitOf numCores core (s.seqReg core d (fun k => k.g[a] - k.g[b]))

def execAnd (core : Nat) (d a b : Fin 16) (s : State) : Host.Outcome State Fault Refusal :=
  unitOf numCores core (s.seqReg core d (fun k => k.g[a] &&& k.g[b]))

def execOr (core : Nat) (d a b : Fin 16) (s : State) : Host.Outcome State Fault Refusal :=
  unitOf numCores core (s.seqReg core d (fun k => k.g[a] ||| k.g[b]))

def execXor (core : Nat) (d a b : Fin 16) (s : State) : Host.Outcome State Fault Refusal :=
  unitOf numCores core (s.seqReg core d (fun k => k.g[a] ^^^ k.g[b]))

def execShl (core : Nat) (d a : Fin 16) (imm : BitVec 44) (s : State) : Host.Outcome State Fault Refusal :=
  unitOf numCores core (s.seqReg core d (fun k => k.g[a] <<< immBits imm 5 0))

def execShr (core : Nat) (d a : Fin 16) (imm : BitVec 44) (s : State) : Host.Outcome State Fault Refusal :=
  unitOf numCores core (s.seqReg core d (fun k => k.g[a] >>> immBits imm 5 0))

def execMul (core : Nat) (d a b : Fin 16) (s : State) : Host.Outcome State Fault Refusal :=
  unitOf numCores core (s.seqReg core d (fun k => k.g[a] * k.g[b]))

def execBnz (core : Nat) (a : Fin 16) (imm : BitVec 44) (s : State) : Host.Outcome State Fault Refusal :=
  unitOf numCores core (s.seqBranch core imm (fun k => k.g[a] != 0))

def execBz (core : Nat) (a : Fin 16) (imm : BitVec 44) (s : State) : Host.Outcome State Fault Refusal :=
  unitOf numCores core (s.seqBranch core imm (fun k => k.g[a] == 0))

def execBlt (core : Nat) (a b : Fin 16) (imm : BitVec 44) (s : State) : Host.Outcome State Fault Refusal :=
  unitOf numCores core (s.seqBranch core imm (fun k => k.g[a].slt k.g[b]))

/-! ## Engine commands (R85, R89) -/

/-- Push a command on an engine's queue, or stall on a full one. -/
def pushCmd (k : CoreSt) (e : Engine) (cmd : EngineCmd) : CoreSt :=
  match e with
  | .load => if k.loadQ.length < 32 then { k with loadQ := k.loadQ ++ [cmd], seqWait := .none } else { k with seqWait := .queue e cmd }
  | .math => if k.mathQ.length < 16 then { k with mathQ := k.mathQ ++ [cmd], seqWait := .none } else { k with seqWait := .queue e cmd }
  | .store => if k.storeQ.length < 32 then { k with storeQ := k.storeQ ++ [cmd], seqWait := .none } else { k with seqWait := .queue e cmd }
  | .seq => k

/-- The command in four consecutive registers. -/
def cmdAt (k : CoreSt) (a : Nat) : EngineCmd :=
  ⟨k.g.toList.getD a 0, k.g.toList.getD (a + 1) 0, k.g.toList.getD (a + 2) 0, k.g.toList.getD (a + 3) 0⟩

def execCmd (core : Nat) (a : Fin 16) (imm : BitVec 44) (s : State) : Host.Outcome State Fault Refusal :=
  unitOf numCores core (s.seqAct core (fun s =>
    if a.val % 4 ≠ 0 then s.badCommand core
    else match immBits imm 1 0 with
      | 0 => s.onCore core (fun k => pushCmd k .load (cmdAt k a.val))
      | 1 => s.onCore core (fun k => pushCmd k .math (cmdAt k a.val))
      | 2 => s.onCore core (fun k => pushCmd k .store (cmdAt k a.val))
      | _ => s.badCommand core))

def execCmdStallEnd (core : Nat) (s : State) : Host.Outcome State Fault Refusal :=
  unitOf numCores core (s.onCore core (fun k => match k.seqWait with
    | .queue e cmd => pushCmd k e cmd
    | _ => k))

/-! ## Waits (R83, R88, R90) -/

/-- A counter wait that is satisfied ends: TAKE subtracts the threshold, a flagged counter raises 0x1309 (R83, R94). -/
def State.endCounterWait (s : State) (c : Nat) : State :=
  match (s.core c).seqWait with
  | .counter n h t =>
    let k := s.core c
    if satisfied (k.count n) h then
      let s := s.onCore c (fun k => { (if t then k.setCount n (k.count n - h) else k) with seqWait := .none })
      if k.arrivalPoison.getLsbD n then s.coreCause c 0 { fault 0x1309 { coreLoc c with locB := n + 0x400 } with inst := k.charge } else s
    else s
  | _ => s

def execWaitc (core : Nat) (a : Fin 16) (imm : BitVec 44) (s : State) : Host.Outcome State Fault Refusal :=
  unitOf numCores core (s.seqAct core (fun s =>
    if 48 ≤ immBits imm 5 0 then s.badCommand core
    else (s.onCore core (fun k => { k with seqWait := .counter (immBits imm 5 0) (k.g[a].setWidth 32) (imm.getLsbD 6) })).endCounterWait core))

def execWaitcSatisfied (core : Nat) (s : State) : Host.Outcome State Fault Refusal := unitOf numCores core (s.endCounterWait core)

/-- Do tag operations on these slots have to wait for a fill (R78)? -/
def anyFilling (k : CoreSt) (first n : Nat) : Bool := (slotRange first n).any (fun i => (k.slot i).filling)

/-- A wait of the sequencer on slots ends when they allow it: WAITT, REL, MARK (R78, R89). -/
def endSlotWait (k : CoreSt) : CoreSt :=
  match k.seqWait with
  | .slotFull i => if k.readable i then { k with seqWait := .none } else k
  | .rel f n => if anyFilling k f n then k else { (slotRange f n).foldl CoreSt.relSlot k with seqWait := .none }
  | .mark i o => if (k.slot i).filling then k else { k.markSlot i o with seqWait := .none }
  | _ => k

def execWaitt (core : Nat) (imm : BitVec 44) (s : State) : Host.Outcome State Fault Refusal :=
  unitOf numCores core (s.seqAct core (fun s =>
    if 735 < immBits imm 9 0 then s.badCommand core (immBits imm 9 0 % 768)
    else s.onCore core (fun k => endSlotWait { k with seqWait := .slotFull (immBits imm 9 0) })))

def execRel (core : Nat) (a : Fin 16) (imm : BitVec 44) (s : State) : Host.Outcome State Fault Refusal :=
  unitOf numCores core (s.seqAct core (fun s =>
    if 735 < (s.core core).g[a].toNat + immBits imm 5 0 then s.badCommand core
    else s.onCore core (fun k => endSlotWait { k with seqWait := .rel k.g[a].toNat (immBits imm 5 0 + 1) })))

def execMark (core : Nat) (a b : Fin 16) (s : State) : Host.Outcome State Fault Refusal :=
  unitOf numCores core (s.seqAct core (fun s =>
    if 735 < (s.core core).g[a].toNat then s.badCommand core
    else s.onCore core (fun k => endSlotWait { k with seqWait := .mark k.g[a].toNat (k.g[b].toNat % 2 ^ 14) })))

def execSetc (core : Nat) (a : Fin 16) (imm : BitVec 44) (s : State) : Host.Outcome State Fault Refusal :=
  unitOf numCores core (s.seqAct core (fun s =>
    if 48 ≤ immBits imm 5 0 then s.badCommand core
    else s.onCore core (fun k => k.setCount (immBits imm 5 0) (k.g[a].setWidth 32))))

def execRdc (core : Nat) (d : Fin 16) (imm : BitVec 44) (s : State) : Host.Outcome State Fault Refusal :=
  unitOf numCores core (s.seqReg core d (fun k => (k.count (immBits imm 5 0)).setWidth 64))

/-- Have the engines of a mask drained (R88)? -/
def drained (k : CoreSt) (mask : Nat) : Bool :=
  (!mask.testBit 0 || !k.loadBusy) && (!mask.testBit 1 || !k.mathBusy) && (!mask.testBit 2 || !k.storeBusy)

/-- A SYNC ends when its engines have drained. -/
def endSync (k : CoreSt) : CoreSt :=
  match k.seqWait with
  | .sync m => if drained k m then { k with seqWait := .none } else k
  | _ => k

def execSync (core : Nat) (imm : BitVec 44) (s : State) : Host.Outcome State Fault Refusal :=
  unitOf numCores core (s.seqCore core (fun k => endSync { k with seqWait := .sync (immBits imm 2 0) }))

def execSyncComplete (core : Nat) (s : State) : Host.Outcome State Fault Refusal := unitOf numCores core (s.onCore core endSync)

/-! ## Control words and END -/

def execRdctl (core : Nat) (d : Fin 16) (imm : BitVec 44) (s : State) : Host.Outcome State Fault Refusal :=
  unitOf numCores core (s.seqReg core d (fun _ => BitVec.ofNat 64 (s.ctlWord core (immBits imm 11 0))))

def execWrctl (core : Nat) (a : Fin 16) (imm : BitVec 44) (s : State) : Host.Outcome State Fault Refusal :=
  unitOf numCores core (s.seqAct core (fun s => s.coreWrite core (immBits imm 11 0) ((s.core core).g[a].toNat % 2 ^ 32)))

def execEndKernel (core : Nat) (s : State) : Host.Outcome State Fault Refusal :=
  unitOf numCores core (s.seqAct core (fun s => s.endOn core))

/-! ## Limits, releases, clears -/

/-- The wait limit is reached: 0x1307 at the instance class; its release ends the wait here and everywhere (R90, R92). -/
def State.waitExpired (s : State) (c : Nat) : State :=
  let k := s.core c
  if k.waitLimit = 0 ∨ (k.seqWait = .none ∧ k.loadWait = .none ∧ k.mathWait = .none ∧ k.storeWait = .none) then s
  else
    let slot := k.oldestWait.2.1
    let s := if k.instValid then s else s.onCore c coreReleased
    s.coreCause c slot { fault 0x1307 (coreLoc c slot) with inst := k.charge }

def execWaitLimit (core : Nat) (s : State) : Host.Outcome State Fault Refusal := unitOf numCores core (s.waitExpired core)

def execCoreRelease (core : Nat) (s : State) : Host.Outcome State Fault Refusal := unitOf numCores core (s.releaseCore core)

def execReleaseDrained (core : Nat) (s : State) : Host.Outcome State Fault Refusal :=
  unitOf numCores core (s.onCore core (fun k => if k.release then releaseEnds { k with loads := [], arrived := [] } else k))

def execSwitchClear (core inst epoch : Nat) (s : State) : Host.Outcome State Fault Refusal :=
  unitOf numCores core (s.clearCore core (inst % 64) (epoch % 256))

def execConflictClear (core : Nat) (s : State) : Host.Outcome State Fault Refusal :=
  unitOf numCores core (s.onCore core (fun k => { k with conflict := [] }))

def execTagWrite (core slot : Nat) (value : Word32) (s : State) : Host.Outcome State Fault Refusal :=
  if slot < 768 then unitOf numCores core (s.onCore core (fun k => k.setTag slot value.toNat)) else .fault (.noSuchUnit slot)

def execLandingWrite (pkt : LandingPkt) (s : State) : Host.Outcome State Fault Refusal :=
  unitOf numCores pkt.core (State.land { s with corridor := dropFirst (· == pkt) s.corridor } pkt)

def execDispatchRecord (die tile : Nat) (record : DispatchRec) (s : State) : Host.Outcome State Fault Refusal :=
  if tile < 48 then unitOf 16 die (s.deliverRecord die tile record) else .fault (.noSuchUnit tile)

end Sys2Proof.Machine
end

