-- ==== Sys2Proof/Machine/Engines.lean ====
section
/-! DEFINITION. The load, store and math engines (03_cores_and_slates.md R76 to R88, R94): commands at the head of a
queue, slots that commit, acknowledgements, matrix and vector commands, the error sentinel (05_accumulation.md R144). -/

namespace Sys2Proof.Machine

/-! ## Issue -/

/-- Raise the cause of a refused address against a core's instance (R72, 06 R149, R150, 10 R265). -/
def State.addressCause (s : State) (c slot cause : Nat) : State :=
  s.coreCause c slot { fault cause (coreLoc c slot) with inst := (s.core c).charge }

/-- A late prefetch: the page's copy is still on its way (07 R205). -/
def State.latePrefetch (s : State) (n page : Nat) : State :=
  let d := s.page page
  if n < numInsts ∧ d.tier = .library ∧ d.migrating ∧ (s.inst n).kv.prefetch.any (fun e => e.2 == page) then
    ((s.bump (instIdx n 0x40) 0xA).onStep n (fun st => { st with lateKv := true })).emit { fault 0x1703 { die := 16 + keeperOf page, unit := 4 } with inst := n, address := page }
  else s

/-- Translate a place of the module range for a core (06 R149, R160). -/
def State.placed (s : State) (off : Nat) : Target :=
  match s.place off with
  | .paged o => .memory o
  | .remote n o => if s.nodeState n = .lost then .lost else .remote n o
  | .reserved => .none 0x1608

/-- Where slot i of a command lies. -/
def State.slotTarget (s : State) (addr : Nat) : Target :=
  match s.target addr false with
  | .memory off => s.placed off
  | t => t

/-- Issue the request of slot i of a load: local places are read when the slot commits; a remote one takes a tag and a
packet; a refused one is delivered poisoned. -/
def State.issueLoad (s : State) (c cmdNo i : Nat) (cmd : EngineCmd) : State :=
  let k := s.core c
  let arrive (s : State) : State := s.onCore c (fun k => { k with arrived := k.arrived ++ [(cmdNo, i, poisonBeats s.free 4)] }) |> State.fresh
  match s.slotTarget (cmd.addrOf i) with
  | .core _ o => if 0x2FFFF < o + 255 then (arrive s).addressCause c (cmd.slot + i) 0x1308 else s
  | .memory off =>
    let cause := s.accessCause k.inst false off
    let s := s.latePrefetch k.inst (offPage off)
    if cause = 0 then s else (arrive s).addressCause c (cmd.slot + i) cause
  | .remote node off =>
    s.sendRequest (coreDie c) { opcode := 1, vc := 0, beats := 4, inst := k.inst, epoch := k.epoch, node, offset := off }
      { die := 0, tag := 0, node, inst := k.inst, opcode := 1, core := c, cmdNo, slot := i }
  | .service _ _ => (arrive s).addressCause c (cmd.slot + i) 0x1A01
  | .none cause => (arrive s).addressCause c (cmd.slot + i) cause
  | .lost => (arrive s).lostTarget k.charge (coreLoc c (cmd.slot + i))

/-- Change one load job. -/
def onLoad (cmdNo : Nat) (f : LoadJob → LoadJob) (k : CoreSt) : CoreSt := { k with loads := mapIf (fun j => j.cmdNo == cmdNo) f k.loads }

/-- Issue slot requests in ascending order until one has to wait for its slot (R77, R88). -/
def State.issueSlots (s : State) (c cmdNo : Nat) (cmd : EngineCmd) : List Nat → State
  | [] => s.onCore c (fun k => { k with loadWait := .none })
  | i :: r =>
    let k := s.core c
    let d := cmd.slot + i
    if cmd.tagged ∧ !k.writable d then s.onCore c (fun k => { k with loadWait := .slotEmpty d })
    else
      let s := s.onCore c (fun k => onLoad cmdNo (fun j => { j with left := j.left ++ [i], todo := j.todo.filter (· != i) })
        (if cmd.tagged then k.beginFill d else k))
      let s := s.issueLoad c cmdNo i cmd
      if (s.core c).loads.any (fun j => j.cmdNo == cmdNo) then s.issueSlots c cmdNo cmd r else s

/-- Start the command at the head of the load queue (R85, R87, R88). -/
def State.startLoad (s : State) (c : Nat) : State :=
  let k := s.core c
  match k.loadQ with
  | [] => s
  | cmd :: rest =>
    if k.loadWait ≠ .none ∨ (cmd.fence ∧ !k.loads.isEmpty) then s
    else
      let s := s.onCore c (fun k => { k with loadQ := rest })
      if !cmd.loadOk then s.badCommand c
      else
        let n := k.nextCmd
        let todo := List.range cmd.nslot
        let s := s.onCore c (fun k => { k with nextCmd := k.nextCmd + 1, loads := k.loads ++ [{ cmdNo := n, cmd, left := [], todo }] })
        s.issueSlots c n cmd todo

def execLoadCommand (core : Nat) (ev : UnitEvents) (s : State) : Host.Outcome State Fault Refusal :=
  unitOf numCores core ((s.unitEvents core ev).startLoad core)

/-! ## Load slots commit (R78, R80, R88) -/

/-- A load command whose slots have all committed completes: its COUNT increment applies (R82). -/
def finishLoad (cmdNo : Nat) (k : CoreSt) : CoreSt :=
  match k.loads.find? (fun j => j.cmdNo == cmdNo) with
  | none => k
  | some j =>
    if j.left.isEmpty && j.todo.isEmpty then
      let k := { k with loads := k.loads.filter (fun j => j.cmdNo != cmdNo) }
      if j.cmd.counts then k.increment j.cmd.counter else k
    else k

/-- Write the four beats of a slot and change its tag; `src` are the owners that the source carries. -/
def commitSlot (cmd : EngineCmd) (i : Nat) (beats : List Beat) (src : List Nat) (k : CoreSt) : CoreSt :=
  let d := cmd.slot + i
  let poison := beats.filterMap (·.poison)
  let k := k.putSlate (256 * d) (padTo 256 (beats.flatMap (·.bytes)))
  if cmd.tagged then k.endFill d (mergeOwner (cmd.owner :: src)) poison else k.rawWrite d poison

/-- The beats of a slot where they are now at hand: brought by a response, in memory, or in a readable slate slot; with the
owners of the source. -/
def State.slotBeats (s : State) (c cmdNo i : Nat) (cmd : EngineCmd) : Option (List Beat × List Nat) :=
  match (s.core c).arrived.find? (fun a => a.1 == cmdNo && a.2.1 == i) with
  | some a => some (a.2.2, [])
  | none =>
    match s.slotTarget (cmd.addrOf i) with
    | .memory off => some (s.readBeats off cmd.owner 4, [])
    | .core k o =>
      let sl := (s.core k).slot (o / 256)
      if sl.tag = .empty then none
      else some ((toBeats (getBytes (s.core k).slate o 256)).map (fun b => { b with poison := if sl.tag = .poison then some sl.owner else none }), [sl.owner])
    | _ => none

/-- All beats of a load slot commit. A response that comes after a release is discarded (R92). -/
def State.commitLoad (s : State) (c cmdNo i : Nat) (remote : Option (List Beat)) : State :=
  let k := s.core c
  match k.loads.find? (fun j => j.cmdNo == cmdNo && decide (i ∈ j.left)) with
  | none => s
  | some j =>
    let drop (k : CoreSt) : CoreSt := { onLoad cmdNo (fun j => { j with left := j.left.filter (· != i) }) k with
      arrived := k.arrived.filter (fun a => !(a.1 == cmdNo && a.2.1 == i)) }
    if k.release then
      s.onCore c (fun k =>
        let k := drop k
        let k := { k with loads := k.loads.filter (fun j => !j.left.isEmpty) }
        releaseEnds k)
    else
      let src := match remote with
        | some b => some (b, [])
        | none => s.slotBeats c cmdNo i j.cmd
      match src with
      | none => s
      | some b =>
        let s := match s.slotTarget (j.cmd.addrOf i) with
          | .core q o => if remote.isNone then s.poisonRead q (o / 256) else s
          | _ => s
        let s := if remote.isNone then s.afterRead b.1 else s
        s.onCore c (fun k => finishLoad cmdNo (drop (commitSlot j.cmd i b.1 b.2 k)))

def execLoadSlotCommit (core : Nat) (cmdNo slot : Nat) (remote : Option (List Beat)) (s : State) : Host.Outcome State Fault Refusal :=
  unitOf numCores core (s.commitLoad core cmdNo slot remote)

/-! ## Remote slate reads (R88) -/

/-- A beat of slot `slot` for a requester core that loads it: its bytes, poisoned bytes, or a retry on `EMPTY`. -/
def State.remoteRead (s : State) (c slot beat requester : Nat) : State :=
  let sl := (s.core c).slot slot
  if sl.tag = .empty ∨ numCores ≤ requester then s
  else
    let s := s.poisonRead c slot
    let b : Beat := ⟨getBytes (s.core c).slate (256 * slot + 64 * beat) 64, if sl.tag = .poison then some sl.owner else none⟩
    let asks (j : LoadJob) (i : Nat) : Bool := match s.slotTarget (j.cmd.addrOf i) with
      | .core k o => k == c && o / 256 == slot
      | _ => false
    let waiting := (s.core requester).loads.findSome? (fun j => (j.left.find? (asks j)).map (fun i => (j.cmdNo, i)))
    match waiting with
    | none => s
    | some w => s.onCore requester (fun k =>
        match k.arrived.find? (fun a => a.1 == w.1 && a.2.1 == w.2) with
        | some _ => { k with arrived := mapIf (fun a => a.1 == w.1 && a.2.1 == w.2) (fun a => (a.1, a.2.1, a.2.2.set beat b)) k.arrived }
        | none => { k with arrived := k.arrived ++ [(w.1, w.2, (toBeats (getBytes (s.core c).slate (256 * slot) 256)).map (fun x => { x with poison := b.poison }))] })

def execRemoteSlateRead (core slot beat : Nat) (requester : Nat) (s : State) : Host.Outcome State Fault Refusal :=
  if slot < 768 then unitOf numCores core (s.remoteRead core slot (beat % 4) requester) else .fault (.noSuchUnit slot)

/-- The load engine asks again for a slot whose source was `EMPTY`: the same read, now. -/
def State.retryRead (s : State) (c cmdNo i : Nat) : State :=
  match (s.core c).loads.find? (fun j => j.cmdNo == cmdNo && decide (i ∈ j.left)) with
  | none => s
  | some j => match s.slotTarget (j.cmd.addrOf i) with
    | .core k o => s.remoteRead k (o / 256) 0 c
    | _ => s

def execRemoteReadRetry (core cmdNo slot : Nat) (s : State) : Host.Outcome State Fault Refusal :=
  unitOf numCores core (s.retryRead core cmdNo slot)

/-! ## Store commands (R80, R85, R88) -/

/-- The beats of a source slot as they leave: each with the slot's owner when it is `POISON`. -/
def sourceBeats (k : CoreSt) (i : Nat) : List Beat :=
  (toBeats (k.slotBytes i)).map (fun b => { b with poison := if (k.slot i).tag = .poison then some (k.slot i).owner else none })

/-- Change one store job. -/
def onStore (cmdNo : Nat) (f : StoreJob → StoreJob) (k : CoreSt) : CoreSt := { k with stores := mapIf (fun j => j.cmdNo == cmdNo) f k.stores }

/-- Per-beat poison mask of a packet. -/
def beatMask (b : List Beat) : Nat := maskOf (((List.range b.length).zip b).filterMap (fun x => if x.2.poison.isSome then some x.1 else none))

/-- Send the beats of slot i to their place. -/
def State.sendSlot (s : State) (c cmdNo i : Nat) (cmd : EngineCmd) (owner : Nat) (beats : List Beat) (last : Bool) : State :=
  let k := s.core c
  let counted (s : State) : State := if cmd.counts && last then s.issued k.inst else s
  match s.slotTarget (cmd.addrOf i) with
  | .core q o =>
    let p : LandingPkt := { core := q, offset := o, beats, tagged := cmd.tagged, count := cmd.counts, counter := cmd.counter,
                            inst := k.inst, epoch := k.epoch, owner, last, sender := c, cmdNo }
    if q = c then
      let r := landAll p (s.core c)
      (counted s).onCore c (fun _ => landCount p false r.1) |> (fun s => if cmd.counts && last then s.applied k.inst else s)
    else let s := counted s
      { s with corridor := s.corridor ++ [p] }
  | .memory off =>
    let cause := s.accessCause k.inst false off
    if cause ≠ 0 then s.addressCause c (cmd.slot + i) cause
    else
      let w := s.writePaged false off beats
      if w.2 = 0 then w.1 else w.1.addressCause c (cmd.slot + i) w.2
  | .remote node off =>
    let mask := beatMask beats
    let s := if cmd.counts && last then (counted s).exited k.inst else s
    let q : Packet := { opcode := 2, vc := 2, beats := 4, inst := k.inst, epoch := k.epoch, node, offset := off, counter := cmd.counter,
                        tagged := cmd.tagged, count := cmd.counts && last, ack := last, data := beats.flatMap (·.bytes),
                        poisonMask := mask, poisonOwner := owner }
    if last then s.sendRequest (coreDie c) q { die := 0, tag := 0, node, inst := k.inst, opcode := 2, core := c, cmdNo }
    else s.sendPacket (coreDie c) q
  | .service _ _ => s.addressCause c (cmd.slot + i) 0x1A01
  | .none cause => s.addressCause c (cmd.slot + i) cause
  | .lost =>
    let s := if cmd.counts && last then (counted s).discarded k.inst else s
    (s.flagStore c cmdNo).lostTarget k.charge (coreLoc c (cmd.slot + i))

/-- Must a tagged local write wait for its destination slot (R77)? -/
def State.localBlocked (s : State) (c i : Nat) (cmd : EngineCmd) : Option Nat :=
  match s.slotTarget (cmd.addrOf i) with
  | .core q o => if q = c ∧ cmd.tagged ∧ !(s.core c).writable (o / 256) then some (o / 256) else none
  | _ => none

/-- Send slots in ascending order until a source is `EMPTY` or a local tagged destination occupied. -/
def State.sendSlots (s : State) (c cmdNo : Nat) (cmd : EngineCmd) : List Nat → State
  | [] => s.onCore c (fun k => { k with storeWait := .none })
  | i :: r =>
    let k := s.core c
    let d := cmd.slot + i
    if !k.readable d then s.onCore c (fun k => { k with storeWait := .slotFull d })
    else match s.localBlocked c i cmd with
      | some x => s.onCore c (fun k => { k with storeWait := .slotEmpty x })
      | none =>
        let owner := (k.slot d).owner
        let beats := sourceBeats k d
        let s := s.onCore c (fun k => onStore cmdNo (fun j => { j with todo := j.todo.filter (· != i) }) (k.readSlot d cmd.consume))
        let s := if (k.slot d).tag = .poison then
            let s' := s.onCore c (fun k' => k'.setSlot d (k.slot d))
            (s'.poisonRead c d).onCore c (fun k' => if cmd.consume then k'.setSlot d { k'.slot d with tag := .empty } else k')
          else s
        let s := s.sendSlot c cmdNo i cmd owner beats r.isEmpty
        if (s.core c).stores.any (fun j => j.cmdNo == cmdNo) then s.sendSlots c cmdNo cmd r else s

/-- Start the command at the head of the store queue. -/
def State.startStore (s : State) (c : Nat) : State :=
  let k := s.core c
  match k.storeQ with
  | [] => s
  | cmd :: rest =>
    if k.storeWait ≠ .none ∨ (cmd.fence ∧ !k.stores.isEmpty) then s
    else
      let s := s.onCore c (fun k => { k with storeQ := rest })
      if !cmd.storeOk then s.badCommand c
      else
        let n := k.nextCmd
        let todo := List.range cmd.nslot
        let s := s.onCore c (fun k => { k with nextCmd := k.nextCmd + 1, stores := k.stores ++ [{ cmdNo := n, cmd, todo, flagged := false }] })
        s.sendSlots c n cmd todo

def execStoreCommand (core : Nat) (ev : UnitEvents) (s : State) : Host.Outcome State Fault Refusal :=
  unitOf numCores core ((s.unitEvents core ev).startStore core)

/-- The destination acknowledges a whole store command: the ACK increment applies, flagged for a lost target (R82, 16 R443). -/
def ackStore (cmdNo status : Nat) (k : CoreSt) : CoreSt :=
  match k.stores.find? (fun j => j.cmdNo == cmdNo && j.todo.isEmpty) with
  | none => k
  | some j =>
    let k := { k with stores := k.stores.filter (fun j => j.cmdNo != cmdNo) }
    if j.cmd.ack then
      (if j.flagged ∨ status ≠ 0 then k.flagCount j.cmd.ackCounter else k).increment j.cmd.ackCounter
    else k

def execStoreAck (core : Nat) (cmdNo status : Nat) (s : State) : Host.Outcome State Fault Refusal :=
  unitOf numCores core (s.onCore core (ackStore cmdNo status))

/-! ## Math commands (R78, R80, R81, R86) -/

/-- The configuration entry a command names. -/
def CoreSt.config (k : CoreSt) (i : Nat) : MathCfg := decodeCfg (sget cfgReset k.mathCfg i)

/-- Input slots of a math command. -/
def mathInputs (cmd : EngineCmd) : List Nat :=
  slotRange cmd.slotA cmd.count ++ (if cmd.hasB then slotRange cmd.slotB cmd.count else [])

/-- Input slots that the command's reads empty. -/
def mathConsumed (cmd : EngineCmd) : List Nat :=
  (if cmd.consumeA then slotRange cmd.slotA cmd.count else []) ++ (if cmd.hasB ∧ cmd.consumeB then slotRange cmd.slotB cmd.count else [])

/-- Output slots. -/
def mathOutputs (cmd : EngineCmd) : List Nat := if cmd.hold then [] else slotRange cmd.slotD cmd.count

/-- What a math command has to wait for, if anything: an `EMPTY` input, an occupied tagged output (R77). -/
def mathBlock (k : CoreSt) (cmd : EngineCmd) : Option Wait :=
  match (mathInputs cmd).find? (fun i => !k.readable i) with
  | some i => some (.slotFull i)
  | none =>
    match (mathOutputs cmd).find? (fun i => cmd.taggedD && !k.writable i && !(decide (i ∈ mathConsumed cmd))) with
    | some i => some (.slotEmpty i)
    | none => none

/-- The bytes of a stream. -/
def CoreSt.stream (k : CoreSt) (slot n : Nat) : Bytes := getBytes k.slate (256 * slot) (256 * n)

/-- Write the output stream, change the tags of its slots: poisoned inputs poison every output slot (R80). -/
def putOutputs (cmd : EngineCmd) (out : Bytes) (owner : Nat) (poison : List Nat) (k : CoreSt) : CoreSt :=
  let k := k.putSlate (256 * cmd.slotD) (padTo (256 * cmd.count) out)
  (mathOutputs cmd).foldl (fun k i => if cmd.taggedD then k.endFill i owner poison else k.rawWrite i poison) k

/-- Add conversion events and alignment losses to the layer that a core runs (04 R122, 05 R146). -/
def State.countEvents (s : State) (c sat lost bad losses : Nat) : State :=
  match (s.core c).kernel with
  | none => s
  | some r =>
    if sat + lost + bad + losses = 0 then s
    else s.onInst r.inst (fun i => { i with telNow := supd {} i.telNow r.layer (fun t => { t with
      saturations := t.saturations + sat, lostSpecials := t.lostSpecials + lost, invalidCodes := t.invalidCodes + bad,
      alignLosses := t.alignLosses + losses }) })

/-- Decode one block of products from the two streams; the count of invalid codes (05 R109, R128; 04 R114). -/
def planBlock (f : MathCfg) (a b : Bytes) (p : BlockPlan) : ProdBlock × Nat :=
  let fb := match p.side with | some e => e | none => f.bFmt
  if p.side = some 0 then ({ zero := true, prods := List.replicate p.count (.fin false 0 0) }, 0)
  else
    let as_ := (List.range p.count).map (fun j => runElem f.aFmt (decide (f.aScale ≠ 0)) (a.drop p.aByte) (p.aElem + j))
    let bs_ := (List.range p.count).map (fun j => runElem fb (decide (f.bScale ≠ 0)) (b.drop p.bByte) (p.bElem + j))
    let sa := match p.aScale with | some o => decScale f.aScale (field a o 1) | none => .fin false 1 0
    let sb := match p.bScale with | some o => decScale f.bScale (field b o 1) | none => .fin false 1 0
    (makeBlock (fmtLow f.aFmt (decide (f.aScale ≠ 0)) + fmtLow fb (decide (f.bScale ≠ 0))) sa sb (as_.map (·.1)) (bs_.map (·.1)),
     ((as_ ++ bs_).filter (·.2)).length)

/-- A side-table entry that the math engine cannot take: the block decodes as poisoned with owner 0x3FFF (04 R114). -/
def badSide (p : BlockPlan) : Bool := p.side.any (fun e => decide (0x0D < e))

/-- The key of an accumulator: 8 rows × 64 columns (05 R127). -/
def accKey (o : OutPlan) : Nat := o.row % 8 * 64 + o.col % 64

/-- Convert finished results and place their codes in the output stream (04 R118). -/
def placeOutputs (f : MathCfg) (outs : List (OutPlan × Num)) (out : Bytes) : Bytes × Nat × Nat :=
  let draw (o : OutPlan) : Option Nat := if f.stochastic then some (elementDraw f.roundKey f.kernelId o.key) else none
  let put (acc : Bytes × Nat × Nat) (o : OutPlan) (c : Nat × ConvEvent) : Bytes × Nat × Nat :=
    (acc.1.take o.dByte ++ putCode f.outFmt (acc.1.drop o.dByte) o.dElem c.1,
     acc.2.1 + (if c.2 = 1 then 1 else 0), acc.2.2 + (if c.2 = 2 then 1 else 0))
  if f.outScale = 0 then
    outs.foldl (fun acc x => put acc x.1 (convNum f.outFmt false (draw x.1) x.2)) (out, 0, 0)
  else
    let scales := (outs.filterMap (fun x => x.1.dScale)).eraseDups
    scales.foldl (fun acc sc =>
      let mine := outs.filter (fun x => x.1.dScale == some sc)
      let r := convBlock f.outScale f.outFmt (mine.map (fun x => (x.2, draw x.1)))
      let acc := (acc.1.take sc ++ le 1 r.1 ++ acc.1.drop (sc + 1), acc.2.1, acc.2.2)
      (mine.zip r.2).foldl (fun acc x => put acc x.1.1 x.2) acc) (out, 0, 0)

/-- The matrix unit's work of one command: sums, conversions, accumulators. -/
def State.matrixWork (s : State) (c : Nat) (cmd : EngineCmd) (plan : MathPlan) (owner : Nat) (poison : List Nat) : State :=
  let k := s.core c
  let f := k.config cmd.cfg
  let a := k.stream cmd.slotA cmd.count
  let b := if cmd.hasB then k.stream cmd.slotB cmd.count else []
  let blocks := plan.outs.map (fun o => (o, o.blocks.map (planBlock f a b)))
  let bad := (blocks.map (fun x => (x.2.map (·.2)).sum)).sum
  let poison := if plan.outs.any (fun o => o.blocks.any badSide) then poison ++ [0x3FFF] else poison
  let acc := blocks.map (fun x =>
    let h := sget {} k.acc (accKey x.1)
    (x.1, ({ blocks := h.blocks ++ x.2.map (·.1), owners := (h.owners ++ [owner]).eraseDups, poison := (h.poison ++ poison).eraseDups } : AccVal)))
  if cmd.hold then
    let s := s.onCore c (fun k => { k with acc := acc.foldl (fun m x => sset {} m (accKey x.1) x.2) k.acc })
    s.countEvents c 0 0 bad 0
  else
    let owner := mergeOwner (owner :: acc.flatMap (·.2.owners))
    let poison := poison ++ acc.flatMap (·.2.poison)
    let sums := acc.map (fun x => (x.1, modeSum f.staged f.run f.promote x.2.blocks))
    let losses := (sums.map (fun x => x.2.2)).sum
    let vals := sums.map (fun x => (x.1, mulNum (dec32 f.t) x.2.1))
    let r := placeOutputs f vals (k.stream cmd.slotD cmd.count)
    let s := s.onCore c (fun k => { putOutputs cmd r.1 owner poison k with
      acc := acc.foldl (fun m x => serase m (accKey x.1)) k.acc })
    s.countEvents c r.2.1 r.2.2 bad losses

/-! ## Vector rows -/

/-- The lesson pack of an entry, where one applies: `none` when the row's lesson is not loaded (09 R257). -/
def State.packOf (s : State) (n e : Nat) : Option (Option Bytes) :=
  let l := (s.entry n e).lesson
  if l = 0xFFFF then some none
  else match (s.inst n).req.lessons.find? (fun x => x.1 == l) with
    | some p => if p.2.usable then some (some p.2.bytes) else none
    | none => none

/-- Distinct tokens among the last PENALTY_WINDOW of an entry's history (09 R246). -/
def State.penalised (s : State) (n e : Nat) : List Nat :=
  ((sget [] (s.inst n).req.history e).take (field (s.entry n e).sampling 0x3C 2)).eraseDups

/-- Candidates that a row keeps (09 R246). -/
def sliceCount (sampling : Bytes) : Nat :=
  let k := field sampling 0x1C 2
  if 0 < k then k else if field sampling 0x08 4 = 0 then 1 else 1024

/-- Fail a row of the step: its token is not drawn, its entry is ended at the step end (09 R251). -/
def State.failRow (s : State) (n e cause : Nat) : State :=
  s.raise { fault cause { die := dieK0, unit := 0x0B, locA := e } with inst := n, owner := e }

/-- What a vector row gives: its results, and the owner of a poison that the operation itself makes. -/
structure RowResult where
  codes : List Nat
  poison : Option Nat := none
  deriving DecidableEq, Repr

/-- The element of a stream at byte and index: where a row's run starts. -/
def elemByte (f a : Nat) : Nat := if f = 0x03 then a / 5 else fmtBits f * a / 8

/-- Replace bytes of a stream. -/
def patch (b : Bytes) (off : Nat) (v : Bytes) : Bytes := b.take off ++ v ++ b.drop (off + v.length)

/-- Move row `i` of A's table to row `j` of D's bit for bit, its scale bytes with it (02 R43). -/
def moveRow (f : MathCfg) (r : RowPlan) (a d : Bytes) (i j : Nat) : Bytes :=
  let n := runBytes f.aFmt r.na
  let sc := if f.aScale = 0 then 0 else (r.na + f.block - 1) / max 1 f.block
  patch (patch d (elemByte f.aFmt r.d + j * n) (slice a (elemByte f.aFmt r.a + i * n) n)) (r.dScale + j * sc) (slice a (r.aScale + i * sc) sc)

/-- The same row with bytes that the spec does not state, for an index outside the table. -/
def freeRow (k : Nat) (f : MathCfg) (r : RowPlan) (d : Bytes) : Bytes :=
  patch d (elemByte f.aFmt r.d) (le (runBytes f.aFmt r.na) (Config.freeValue k 0))

/-- Rows of width `w` cut out of a list. -/
def rowsOfWidth (w : Nat) (l : List Nat) : List (List Nat) := runsOf w (l.length + 1) l

/-- The operation of a vector command on one row of A and one of B (02 R43). -/
def vectorRow (s : State) (op : VecOp) (x y : List Nat) : RowResult :=
  match op with
  | .add => { codes := List.zipWith add32 x y }
  | .mul => { codes := List.zipWith mul32 x y }
  | .scale c => { codes := x.map (fun v => mul32 v c) }
  | .silu => { codes := x.map silu32 }
  | .gelu => { codes := x.map gelu32 }
  | .sigmoid => { codes := x.map sigmoid32 }
  | .swiglu => { codes := List.zipWith (fun a b => mul32 (silu32 a) b) x y }
  | .copy => { codes := x }
  | .rmsNorm eps => { codes := rmsNorm eps x y }
  | .layerNorm eps beta => { codes := layerNorm eps x y beta }
  | .rotary split w chunk off pos => { codes := rotaryRow split w chunk off pos x y }
  | .route sig k norm sc indices => { codes := if indices then (routeRow sig k norm sc x).drop k else (routeRow sig k norm sc x).take k }
  | .dot ts => { codes := [mul32 ts (dot32 (x.zip y))] }
  | .weights fmt => { codes := attnWeights fmt x }
  | .weighted => { codes := weightedRows (rowsOfWidth (x.length / y.length) x) y (x.length / y.length) }
  | .merge => { codes := mergeStats x y }
  | .divide c => { codes := x.map (fun v => div32 v c) }
  | .mass m l _ _ _ _ => { codes := [pageMass m l x 0] }
  | .lesson form n e layer site =>
    (match s.packOf n e with
     | none => { codes := x, poison := some e }
     | some none => { codes := x }
     | some (some pack) => match lessonEntry pack layer site with
       | none => { codes := x }
       | some en => { codes := lessonRow form (lessonCoefs en) x y })
  | .slice _ _ _ => { codes := [] }
  | .gather _ => { codes := x }
  | .scatter _ => { codes := x }
  | .scatterAdd _ => { codes := List.zipWith add32 y x }
  | .max => { codes := [rowMax x] }
  | .sum => { codes := [sum32 x] }

/-- Add a slice result to the row of entry `e`. -/
def addSlice (e : Nat) (c : SliceResult) (st : StepSt) : StepSt :=
  let l := if st.slices.any (fun p => p.1 == e) then mapIf (fun (p : Nat × List SliceResult) => p.1 == e) (fun p => (p.1, p.2 ++ [c])) st.slices
    else st.slices ++ [(e, [c])]
  { st with slices := l }

/-- Effects of a vector row beside its output: the Gradebook's mass (07 R200), the slice pass (09 R246), a lesson that is
not loaded (09 R257). -/
def State.vectorEffect (s : State) (op : VecOp) (poisoned : Bool) (x : List Nat) : State :=
  match op with
  | .mass m l n e g k =>
    let key := (e * 64 + g) * 2 ^ 24 + k
    s.onKv n (fun v => { v with map := supd {} v.map key (fun d => { d with mass := pageMass m l x d.mass }) })
  | .lesson _ n e _ _ => if (s.packOf n e).isNone then s.failRow n e 0x1902 else s
  | .slice n e first =>
    let en := s.entry n e
    let row := (s.inst n).roster.step.bind (fun st => st.rows.find? (fun r => r.entry == e && r.draws))
    (match row with
     | none => s
     | some r =>
       if poisoned ∨ r.poisoned then s.onStep n (fun st => { st with rows := mapIf (fun r => r.entry == e) (fun r => { r with poisoned := true }) st.rows })
       else
         let h := s.penalised n e
         let sa := en.sampling
         let mask := if (field sa 0x38 4).testBit 0 then r.mask else none
         let z := ((List.range x.length).zip x).map (fun p =>
           sliceZ h (field sa 0x14 4) (field sa 0x18 4) (field sa 0x08 4) (sget [] (s.inst n).req.bias e) mask (first + p.1) p.2)
         match sliceStats (s.inst n).bind.place.rank first (sliceCount sa) z with
         | none => (s.failRow n e 0x1903).onStep n (fun st => { st with rows := mapIf (fun r => r.entry == e) (fun r => { r with poisoned := true }) st.rows })
         | some c => s.onStep n (fun st => addSlice e c st))
  | _ => s

/-- What the rows of a vector command have made so far: the output stream, the poison owners that the operation makes, the owners
of indices outside their table, conversion counts. -/
structure RowsDone where
  out : Bytes
  poison : List Nat := []
  bad : List Nat := []
  sat : Nat := 0
  lost : Nat := 0
  invalid : Nat := 0
  deriving DecidableEq, Repr

/-- Results of a row as they are written: indices bit for bit, every other result divided by the output's tensor scale and
converted (02 R37, R41; 04 R110, R118). -/
def putRow (f : MathCfg) (plan : MathPlan) (r : RowPlan) (out : Bytes) (codes : List Nat) : Bytes × Nat × Nat :=
  match plan.op with
  | .route _ _ _ _ true => (patch out (4 * r.d) (codes.flatMap (le 4)), 0, 0)
  | _ =>
    let vals := codes.map (fun v => dec32 (if plan.ty = 0x3F800000 then v else div32 v plan.ty))
    let outs : List (OutPlan × Num) := ((List.range vals.length).zip vals).map (fun p =>
      ({ row := 0, col := 0, blocks := [], dByte := elemByte f.outFmt r.d, dElem := p.1,
         dScale := if f.outScale = 0 then none else some (r.dScale + p.1 / max 1 f.outBlock) }, p.2))
    placeOutputs { f with stochastic := false } outs out

/-- A row that an index moves (02 R43, kind 0x09); an index outside the table counts as a read of poison with the owner of the
index row's data. -/
def moveStep (k : Nat) (f : MathCfg) (plan : MathPlan) (indexOwner : Nat) (a b : Bytes) (r : RowPlan) (acc : RowsDone) : RowsDone :=
  let i := field b (4 * r.b) 4
  match plan.op with
  | .gather rows => if i < rows then { acc with out := moveRow f r a acc.out i 0 }
      else { acc with out := freeRow k f r acc.out, poison := acc.poison ++ [indexOwner], bad := acc.bad ++ [indexOwner] }
  | .scatter rows => if i < rows then { acc with out := moveRow f r a acc.out 0 i } else { acc with bad := acc.bad ++ [indexOwner] }
  | .scatterAdd rows =>
    if i < rows then
      let dst := { r with d := r.d + i * r.na, dScale := r.dScale + i * (r.na / max 1 f.outBlock) }
      let x := rowCodes f.aFmt f.aScale f.block plan.ta a r.a r.aScale r.na
      let y := rowCodes f.outFmt f.outScale f.outBlock plan.ty acc.out dst.d dst.dScale r.na
      let p := putRow f plan dst acc.out (List.zipWith add32 y.1 x.1)
      { acc with out := p.1, sat := acc.sat + p.2.1, lost := acc.lost + p.2.2, invalid := acc.invalid + x.2 + y.2 }
    else { acc with bad := acc.bad ++ [indexOwner] }
  | _ => acc

/-- Does an index in B move the row? -/
def movesByIndex (op : VecOp) : Bool :=
  match op with
  | .gather _ | .scatter _ | .scatterAdd _ => true
  | _ => false

/-- One row of a vector command: convert in, compute, convert out, place (02 R41, 04 R118). -/
def State.vectorStep (s : State) (c : Nat) (cmd : EngineCmd) (plan : MathPlan) (poisoned : Bool)
    (acc : State × RowsDone) (r : RowPlan) : State × RowsDone :=
  let k := s.core c
  let f := k.config cmd.cfg
  let a := k.stream cmd.slotA cmd.count
  let b := if cmd.hasB then k.stream cmd.slotB cmd.count else []
  if movesByIndex plan.op then
    (acc.1.fresh, moveStep acc.1.free f plan (k.slot (cmd.slotB + 4 * r.b / 256)).owner a b r acc.2)
  else
    let x := rowCodes f.aFmt f.aScale f.block plan.ta a r.a r.aScale r.na
    let y := rowCodes f.bFmt f.bScale f.block plan.tb b r.b r.bScale r.nb
    let res := vectorRow acc.1 plan.op x.1 y.1
    let p := putRow f plan r acc.2.out res.codes
    (acc.1.vectorEffect plan.op poisoned x.1,
     { acc.2 with out := p.1, poison := acc.2.poison ++ res.poison.toList, sat := acc.2.sat + p.2.1, lost := acc.2.lost + p.2.2,
                  invalid := acc.2.invalid + x.2 + y.2 })

/-- Raise 0x1303 for an owner that this dispatch has not reported yet (R81). -/
def State.poisonOwnerRead (s : State) (c slot owner : Nat) : State :=
  let k := s.core c
  if owner ∈ k.reported then s
  else
    let cls := if owner = 0x3FFF ∨ k.kernel.any (·.micro) then 3 else 2
    let s := s.onCore c (fun q => { q with reported := q.reported ++ [owner], faultCause := 0x1303, faultOwner := owner, faultSlot := slot })
    s.raiseMerged { fault 0x1303 (coreLoc c slot) with cls, inst := k.charge, owner }

/-- The vector unit's work of one command. -/
def State.vectorWork (s : State) (c : Nat) (cmd : EngineCmd) (plan : MathPlan) (owner : Nat) (poison : List Nat) : State :=
  let k := s.core c
  let r := plan.rows.foldl (s.vectorStep c cmd plan (!poison.isEmpty)) (s, { out := k.stream cmd.slotD cmd.count })
  let s := r.1
  let s := if cmd.hold then s else s.onCore c (putOutputs cmd r.2.out owner (poison ++ r.2.poison))
  (r.2.bad.foldl (fun s o => s.poisonOwnerRead c cmd.slotB o) s).countEvents c r.2.sat r.2.lost r.2.invalid 0

/-- Run the command at the head of the math queue on its unit; a command of the other unit is not this event. -/
def State.startMath (s : State) (c unit : Nat) (plan : MathPlan) : State :=
  let k := s.core c
  match k.mathQ with
  | [] => s
  | cmd :: rest =>
    if !cmd.mathOk then (s.onCore c (fun k => { k with mathQ := rest, mathWait := .none })).badCommand c
    else if cmd.unit ≠ unit then s
    else
      match mathBlock k cmd with
      | some w => s.onCore c (fun k => { k with mathWait := w })
      | none =>
        let ins := mathInputs cmd
        let owner := mergeOwner (ins.map (fun i => (k.slot i).owner))
        let poison := ((ins.filter (fun i => (k.slot i).tag == .poison)).map (fun i => (k.slot i).owner))
        let s := s.onCore c (fun k => { k with mathQ := rest, mathWait := .none })
        let s1 := if unit = 1 then s.matrixWork c cmd plan owner poison else s.vectorWork c cmd plan owner poison
        let kept := (mathConsumed cmd).filter (fun i => !decide (i ∈ mathOutputs cmd))
        let s2 := s1.onCore c (fun q => kept.foldl (fun q i => q.readSlot i true) q)
        ins.foldl (fun s i => if (k.slot i).tag = .poison then s.poisonOwnerRead c i (k.slot i).owner else s) s2

def execMatrixCommand (core : Nat) (ev : UnitEvents) (s : State) : Host.Outcome State Fault Refusal :=
  unitOf numCores core ((s.unitEvents core ev).startMath core 1 ev.plan)

def execVectorCommand (core : Nat) (ev : UnitEvents) (s : State) : Host.Outcome State Fault Refusal :=
  unitOf numCores core ((s.unitEvents core ev).startMath core 2 ev.plan)

/-! ## Blocked accesses resume (R78, R94) -/

/-- The slot an engine waits for allows it now. -/
def waitOver (k : CoreSt) (w : Wait) : Bool :=
  match w with
  | .slotFull i => k.readable i
  | .slotEmpty i => k.writable i
  | _ => false

/-- A tag change wakes a blocked access: the engine goes on with its command. -/
def State.resumeEngine (s : State) (c : Nat) (e : Engine) : State :=
  let k := s.core c
  match e with
  | .seq => s.onCore c endSlotWait
  | .load => if waitOver k k.loadWait then
      (match k.loads.find? (fun j => !j.todo.isEmpty) with
       | some j => s.issueSlots c j.cmdNo j.cmd j.todo
       | none => s.onCore c (fun k => { k with loadWait := .none }))
    else s
  | .math => if waitOver k k.mathWait then s.onCore c (fun k => { k with mathWait := .none }) else s
  | .store => if waitOver k k.storeWait then
      (match k.stores.find? (fun j => !j.todo.isEmpty) with
       | some j => s.sendSlots c j.cmdNo j.cmd j.todo
       | none => s.onCore c (fun k => { k with storeWait := .none }))
    else s

def execBlockedAccessResume (core : Nat) (engine : Engine) (s : State) : Host.Outcome State Fault Refusal :=
  unitOf numCores core (s.resumeEngine core engine)

/-! ## The error sentinel (05 R142 to R145) -/

/-- Round a positive quotient to FP64. -/
def round64 (n d : Nat) : Nat := magCode 52 1023 none n d

/-- The exact value of a non-negative FP64 code. -/
def dec64 (c : Nat) : Nat × Int := if c / 2 ^ 52 = 0 then (c, -1074) else (c % 2 ^ 52 + 2 ^ 52, (c / 2 ^ 52 : Nat) - 1075)

/-- Sum of two non-negative FP64 codes. -/
def add64 (a b : Nat) : Nat :=
  let x := dec64 a
  let y := dec64 b
  let q := min x.2 y.2
  let v := x.1 * 2 ^ (x.2 - q).toNat + y.1 * 2 ^ (y.2 - q).toNat
  if 0 ≤ q then round64 (v * 2 ^ q.toNat) 1 else round64 v (2 ^ (-q).toNat)

/-- Magnitude and exponent of a finite number. -/
def magOf : Num → Nat × Int
  | .fin _ n q => (n, q)
  | _ => (0, 0)

/-- ρ as a quotient: |S_s − S_x| / A. -/
def rhoQuot (diff a : Num) : Nat × Nat :=
  let x := magOf diff
  let y := magOf a
  let q := min x.2 y.2
  (x.1 * 2 ^ (x.2 - q).toNat, y.1 * 2 ^ (y.2 - q).toNat)

/-- Fold one sampled element into a layer record: `differ` counts its code. -/
def foldElem (e : SentinelElem) (differ : Bool) (t : LayerTel) : LayerTel :=
  let bs := e.segments.flatten
  let x := exactSum bs
  let a := sumAbs bs
  let t := { t with sampled := t.sampled + 1, codesDiffer := t.codesDiffer + bitOf differ, alignLosses := t.alignLosses + x.2 }
  if isFin x.1 && isFin e.staged && !isZero a && x.2 == 0 then
    let r := rhoQuot (gap e.staged x.1) a
    { t with rhoMax := max t.rhoMax (round32 false r.1 r.2), rhoSum := add64 t.rhoSum (round64 r.1 r.2), rhoCount := t.rhoCount + 1 }
  else t

/-- A breach (R145): beyond the bound, or the special classes differ; an overflow of the FP32 accumulator is none. -/
def elemBreach (b : SentinelBlock) (e : SentinelElem) : Bool :=
  let bs := e.segments.flatten
  let x := exactSum bs
  if isFin x.1 && isFin e.staged then breachOf (runLength b.run) b.promote bs e.staged x.1 (stagedSum (runLength b.run) b.promote bs).2
  else if isFin x.1 then (match e.staged with | .inf _ => b.promote | _ => true)
  else x.1 != e.staged

/-- The codes that the exact references of a block convert to (R144). -/
def refCodes (b : SentinelBlock) : List Nat :=
  let vals := b.elems.map (fun e => (mulNum (dec32 b.t) (exactSum e.segments.flatten).1, e.draw))
  if b.outScale = 0 then vals.map (fun v => (convNum b.outFmt false v.2 v.1).1)
  else (convBlock b.outScale b.outFmt vals).2.map (·.1)

/-- SENTINEL_K in force under the override (R147). -/
def sentinelRate (k override : Nat) : Nat := if k = 0 ∨ override = 0xFF then 0 else if override = 0 then k else override

/-- Check one block, when it is sampled at all (R143). -/
def State.checkBlock (s : State) (c n : Nat) (b : SentinelBlock) : State :=
  let rate := sentinelRate b.k (s.inst n).sentinel
  if rate = 0 ∨ !sampledBlock rate b.kernelId (s.inst n).roster.committed b.block b.row then s
  else
    let codes := refCodes b
    let s := s.onInst n (fun i => { i with telNow := supd {} i.telNow b.layer (fun t =>
      ((b.elems.zip codes)).foldl (fun t p => foldElem p.1 (decide (p.1.code ≠ p.2)) t) t) })
    if b.elems.any (elemBreach b) then
      let s := s.bump (instIdx n 0x20) 5
      s.coreError c { fault 0x1501 (coreLoc c) with inst := n }
    else s

def execSentinelCheck (core inst : Nat) (blocks : List SentinelBlock) (s : State) : Host.Outcome State Fault Refusal :=
  if inst < numInsts then unitOf numCores core (blocks.foldl (fun s b => s.checkBlock core inst b) s) else .fault (.noSuchUnit inst)

end Sys2Proof.Machine
end

