-- ==== Sys2Proof/Machine/KV.lean ====
section
/-! DEFINITION. The KV cache of an index (07_attention_kv.md R185 to R207; 09_requests.md R241, R242): layout, page maps,
quantized append, copy on write, release, window rings, Gradebook, prefetch. -/

namespace Sys2Proof.Machine

/-! ## Layout (R187, R189, R191) -/

/-- Number of a cache: entry, layer group, layer index, head group. -/
def cacheNo (e g l h : Nat) : Nat := ((e * 16 + g) * 1024 + l) * 256 + h
def cacheEntry (c : Nat) : Nat := c / 2 ^ 22
def cacheGroup (c : Nat) : Nat := c / 2 ^ 18 % 16
def cacheLayer (c : Nat) : Nat := c / 256 % 1024
def cacheHead (c : Nat) : Nat := c % 256

/-- B_G, the bytes of a group. -/
def groupBytes (g : LayerGroup) : Nat := 16 * (g.lw * fmtBits g.vFmt + g.rw * fmtBits g.kFmt) / 8 + g.lw + g.rw

/-- P, the positions of a page. -/
def pagePositions (g : LayerGroup) : Nat := 16 * min 256 (65536 / max 1 (groupBytes g))

/-- SLOTS of a layer group. -/
def pageSlots (g : LayerGroup) : Nat :=
  let p := pagePositions g
  if g.variant = 1 then (g.window + p - 1) / p + 1 else (g.maxContext + p - 1) / p

/-- Page slot of a position. -/
def pageSlot (g : LayerGroup) (pos : Nat) : Nat := if g.variant = 1 then pos / pagePositions g % pageSlots g else pos / pagePositions g

/-- Entry index in a map. -/
def mapIndex (g : LayerGroup) (l h slot : Nat) : Nat := (l * g.headGroups + h) * pageSlots g + slot

/-- Key of a map entry. -/
def mapKey (e gi k : Nat) : Nat := (e * 64 + gi) * 2 ^ 24 + k
def keyEntry (k : Nat) : Nat := k / 2 ^ 30
def keyGroup (k : Nat) : Nat := k / 2 ^ 24 % 64
def keyIndex (k : Nat) : Nat := k % 2 ^ 24

/-- The layer group a number names; an empty one where there is none. -/
def KvSt.group (v : KvSt) (g : Nat) : LayerGroup := v.groups.getD g ⟨0, 0, 0, 0, 0, 0, [], 1, 0, 0, 0, 0, 0, 0⟩

/-- Is the cache one that this module holds? -/
def KvSt.holds (v : KvSt) (g l h : Nat) : Bool :=
  let G := v.group g
  decide (g < v.groups.length) && decide (G.layerLo ≤ l) && decide (l < G.layerLo + G.layerN) && decide (G.hgLo ≤ h) && decide (h < G.hgLo + G.hgN)

/-- Layer and head group pairs of a layer group held here, ascending. -/
def heldPairs (G : LayerGroup) : List (Nat × Nat) :=
  (List.range G.layerN).flatMap (fun l => (List.range G.hgN).map (fun h => (G.layerLo + l, G.hgLo + h)))

/-- The map entry of a cache at a position. -/
def KvSt.entryKey (v : KvSt) (c pos : Nat) : Nat :=
  let G := v.group (cacheGroup c)
  mapKey (cacheEntry c) (cacheGroup c) (mapIndex G (cacheLayer c) (cacheHead c) (pageSlot G pos))

def KvSt.mapAt (v : KvSt) (k : Nat) : MapEntry := sget {} v.map k
def KvSt.setMap (v : KvSt) (k : Nat) (f : MapEntry → MapEntry) : KvSt := { v with map := supd {} v.map k f }
def KvSt.groupState (v : KvSt) (c g : Nat) : Nat := sget 0 v.states (c * 2 ^ 20 + g)
def KvSt.setState (v : KvSt) (c g x : Nat) : KvSt := { v with states := sset 0 v.states (c * 2 ^ 20 + g) x }
def KvSt.stage (v : KvSt) (c : Nat) : Staging := sget {} v.staging c
def KvSt.onStage (v : KvSt) (c : Nat) (f : Staging → Staging) : KvSt := { v with staging := supd {} v.staging c f }

def noPage : Nat := 0xFFFFFFFF
def evictedPage : Nat := 0xFFFFFFFE

/-! ## Codes of a group (R193) -/

/-- FP16 code as an exact number. -/
def half (c : Nat) : Num := (decCode 0x0F false c).1

/-- One channel: its 16 codes and its scale. -/
def channelCodes (fmt : Nat) (vals : List Nat) : Bytes × Nat :=
  let r := convBlock 0x20 fmt (vals.map (fun v => (half v, none)))
  (packRun fmt (r.2.map (·.1)), r.1)

/-- One plane: codes channel by channel, then its scales. -/
def planeBytes (fmt lo n : Nat) (rows : List (List Nat)) : Bytes :=
  let cs := (List.range n).map (fun j => channelCodes fmt (rows.map (fun r => r.getD (lo + j) 0)))
  cs.flatMap (·.1) ++ cs.flatMap (fun c => le 1 c.2)

/-- The bytes of a complete group. -/
def groupCodes (G : LayerGroup) (rows : List (List Nat)) : Bytes := planeBytes G.vFmt 0 G.lw rows ++ planeBytes G.kFmt G.lw G.rw rows

/-- The buffer of a group. -/
def Staging.buf (s : Staging) (g : Nat) : Sparse (List Nat) := if g % 2 = 0 then s.buf0 else s.buf1
def Staging.poison (s : Staging) (g : Nat) : Option Nat := if g % 2 = 0 then s.poison0 else s.poison1

/-- Put the values of one position; a fresh group starts with an empty buffer. -/
def Staging.put (s : Staging) (g i : Nat) (fresh : Bool) (values : List Nat) (poison : Option Nat) : Staging :=
  let b := sins (if fresh then [] else s.buf g) i values
  let old := if fresh then none else s.poison g
  let p := match poison, old with
    | some a, some b => some (mergePoison [a, b])
    | some a, none => some a
    | none, b => b
  if g % 2 = 0 then { s with buf0 := b, poison0 := p } else { s with buf1 := b, poison1 := p }

/-- Free a group's buffer. -/
def Staging.drop (s : Staging) (g : Nat) : Staging := if g % 2 = 0 then { s with buf0 := [], poison0 := none } else { s with buf1 := [], poison1 := none }

/-! ## Writing a group to its page -/

/-- Write bytes at any offset of the paged range; beats that they touch take the poison given. -/
def State.writeRun (s : State) (off : Nat) (b : Bytes) (poison : Option Nat) : State :=
  let m := { s.mem with bytes := putBytes s.mem.bytes off b }
  let beats := (List.range ((off % 64 + b.length + 63) / 64)).map (fun i => off / 64 + i)
  match poison with
  | none => { s with mem := { m with poison := m.poison.filter (fun (e : Nat × Nat) => !(decide (e.1 ∈ beats) && decide (off ≤ 64 * e.1) && decide (64 * e.1 + 64 ≤ off + b.length))) } }
  | some o => State.onPage { s with mem := { m with poison := beats.foldl (fun p k => sins p k o) m.poison } } (offPage off) (fun d => { d with poisoned := true })

/-- Write the codes of group `g` to page `p`; the last group of a page asks for its seal (R192). -/
def State.writeGroup (s : State) (G : LayerGroup) (p g : Nat) (codes : Bytes) (poison : Option Nat) : State :=
  let k := 16 * g % pagePositions G / 16
  let s := s.writeRun (p * pageBytes + k * groupBytes G) codes poison
  if 16 * (k + 1) = pagePositions G then s.onPage p (fun d => if d.state = .owned then { d with sealPending := true } else d) else s

/-- Allocate a page for a sequence: its own quota first, then growth (06 R174); an allocation that is not granted leaves the
state as it was. -/
def State.kvGrant (s : State) (n e : Nat) : Option (State × Nat) :=
  let cls := (s.entry n e).cls
  match s.grant (s.kvPool n) n e cls dieK0 with
  | some r => some r
  | none => if s.kvPool n = 65 then none else s.grant 65 n e cls dieK0

/-- A group without a page: its codes stay in the buffer, the sequence is pressed (R192). -/
def State.unpaged (s : State) (n c g : Nat) (codes : Bytes) : State :=
  let e := cacheEntry c
  let s := s.onKv n (fun v => { (v.setState c g 3).onStage c (fun t => { t with unpaged := some g, codes }) with pressed := addOnce v.pressed e })
  (s.bump (instIdx n 0x40) 0xB).raise { fault 0x1701 { die := 16 + c % 4, unit := 3, locA := e, locB := cacheGroup c * 1024 + cacheLayer c } with inst := n, owner := e }

/-- Copy the groups before group `g` of page `x` to page `y`, with their poison (09 R242). -/
def State.copyGroups (s : State) (G : LayerGroup) (x y g : Nat) : State :=
  let n := 16 * g % pagePositions G / 16 * groupBytes G
  let b := getBytes s.mem.bytes (x * pageBytes) n
  let marks := s.mem.poison.filter (fun (e : Nat × Nat) => e.1 / 1024 == x && decide (e.1 % 1024 * 64 < n))
  let s := { s with mem := { s.mem with bytes := putBytes s.mem.bytes (y * pageBytes) b,
                                        poison := marks.foldl (fun m e => sins m (y * 1024 + e.1 % 1024) e.2) s.mem.poison } }
  if marks.isEmpty then s else s.onPage y (fun d => { d with poisoned := true })

/-- First group of the chunk that the step carries for a sequence. -/
def State.chunkGroup (s : State) (n e : Nat) : Nat :=
  ((s.inst n).roster.step.bind (fun st => (st.rows.find? (fun r => r.entry == e && r.prefill)).map (fun r => r.first / 16))).getD 0

/-- A complete group goes to its page: the page of its slot, a private copy of a shared one, or a new one (R192, R194, 09 R242). -/
def State.storeGroup (s : State) (n c g : Nat) (codes : Bytes) (poison : Option Nat) : State :=
  let v := (s.inst n).kv
  let G := v.group (cacheGroup c)
  let key := v.entryKey c (16 * g)
  let p := (v.mapAt key).page
  let e := cacheEntry c
  if p < evictedPage ∧ (s.page p).refs ≤ 1 then
    (s.writeGroup G p g codes poison).onKv n (fun v => v.setState c g 2)
  else
    let ck := c * 2 ^ 20 + s.chunkGroup n e
    let got := if p < evictedPage then
        (match v.copyPages.find? (fun x => x.1 == ck) with
         | some x => some (s.onKv n (fun v => { v with copyPages := serase v.copyPages ck }), x.2)
         | none => s.kvGrant n e)
      else
        (match v.chunkPages.find? (fun x => x.1 == key) with
         | some x => some (s.onKv n (fun v => { v with chunkPages := serase v.chunkPages key }), x.2)
         | none => s.kvGrant n e)
    match got with
    | none => s.unpaged n c g codes
    | some r =>
      let s := if p < evictedPage then
          (((r.1.bump (instIdx n 0x60) 5).pinPage p n).copyGroups G p r.2 g).onKv n (fun v => { v with copying := sins v.copying c p })
        else r.1
      let s := s.onKv n (fun v => (v.setMap key (fun m => { m with page := r.2, evicted := false, released := false })).setState c g 2)
      s.writeGroup G r.2 g codes poison

/-- An append record reaches its append unit (R190). -/
def State.append (s : State) (n e gi l h pos : Nat) (values : List Nat) (poison : Option Nat) : State :=
  let v := (s.inst n).kv
  let c := cacheNo e gi l h
  if !v.holds gi l h then s
  else
    let C := (s.entry n e).committed
    let want := max C (v.stage c).next
    let loc : FaultLoc := { die := 16 + c % 4, unit := 3, locA := e, locB := gi * 1024 + l }
    if pos ≠ want then s.raise { fault 0x1702 loc with inst := n, owner := e, detail := pos % 2 ^ 32 }
    else
      let g := pos / 16
      let i := pos % 16
      let s := s.onKv n (fun v => (v.onStage c (fun t => { t.put g i (i == 0) values poison with next := pos + 1 })).setState c g 1)
      if i < 15 then s
      else
        let t := (s.inst n).kv.stage c
        let G := v.group gi
        let rows := (List.range 16).map (fun j => sget [] (t.buf g) j)
        s.storeGroup n c g (groupCodes G rows) (t.poison g)

def execAppendRecord (inst entry group layer headGroup position : Nat) (values : List Nat) (poison : Option Nat) (s : State) :
    Host.Outcome State Fault Refusal :=
  if entry < numEntries then unitOf numInsts inst (s.append inst entry group layer headGroup position values poison) else .fault (.noSuchUnit entry)

/-! ## Dropping references (09 R241, R242) -/

/-- A sequence drops its reference on a page: FREE where it is the holder, else UNREF. -/
def State.dropRefOf (s : State) (n e p : Nat) : State := if (s.page p).holder = e then s.freePage p n e else s.unrefPage p n

/-- A copy on write commits: the reference on the old page is dropped. -/
def State.cowCommit (s : State) (n c : Nat) : State :=
  match (s.inst n).kv.copying.find? (fun x => x.1 == c) with
  | some x => (s.onKv n (fun v => { v with copying := serase v.copying c })).dropRefOf n (cacheEntry c) x.2
  | none => s

def execCowCopyCommit (inst entry group layer headGroup : Nat) (s : State) : Host.Outcome State Fault Refusal :=
  unitOf numInsts inst (s.cowCommit inst (cacheNo entry group layer headGroup))

/-- Release everything a sequence holds in the cache (R241): mapped pages in map order, then map and root pages, staging. -/
def State.releaseCache (s : State) (n e : Nat) : State :=
  let v := (s.inst n).kv
  let s := (v.copying.filter (fun (x : Nat × Nat) => cacheEntry x.1 == e)).foldl (fun s x => s.cowCommit n x.1) s
  let s := s.onKv n (fun v => { v with reseal := v.reseal.filter (fun p => (s.page p).holder != e) })
  let mine := v.map.filter (fun (x : Nat × MapEntry) => keyEntry x.1 == e)
  let s := mine.foldl (fun s x => if x.2.page < evictedPage then s.dropRefOf n e x.2.page else s) s
  let s := (v.copyPages.filter (fun (x : Nat × Nat) => cacheEntry (x.1 / 2 ^ 20) == e)).foldl (fun s x => s.freePage x.2 n e) s
  let s := (v.chunkPages.filter (fun (x : Nat × Nat) => keyEntry x.1 == e)).foldl (fun s x => s.freePage x.2 n e) s
  let s := (v.mapPages.filter (fun (x : Nat × Nat) => x.1 / 2 ^ 19 == e)).foldl (fun s x => s.freePage x.2 n e) s
  s.onKv n (fun v => { v with
    map := v.map.filter (fun (x : Nat × MapEntry) => keyEntry x.1 != e)
    mapPages := v.mapPages.filter (fun (x : Nat × Nat) => x.1 / 2 ^ 19 != e)
    copyPages := v.copyPages.filter (fun (x : Nat × Nat) => cacheEntry (x.1 / 2 ^ 20) != e)
    staging := v.staging.filter (fun (x : Nat × Staging) => cacheEntry x.1 != e)
    states := v.states.filter (fun (x : Nat × Nat) => cacheEntry (x.1 / 2 ^ 20) != e)
    chunkPages := v.chunkPages.filter (fun (x : Nat × Nat) => keyEntry x.1 != e)
    wants := v.wants.filter (fun w => w.entry != e)
    pressed := v.pressed.filter (· != e) })

/-! ## Step end (R189, R192, R195, R201) -/

/-- One group's state at a step end: `WRITTEN` becomes `STORED` or `OPEN`; `UNPAGED` of a voided step becomes `OPEN`. -/
def groupEnd (commit : Bool) (committed : Nat) (key x : Nat) : Nat :=
  let g := key % 2 ^ 20
  if x = 2 then (if commit then 4 else 1)
  else if x = 3 ∧ !commit ∧ committed < 16 * (g + 1) then 1
  else x

/-- The caches at a step end: states, buffers of stored groups, the next position to append. -/
def State.cacheStepEnd (s : State) (n : Nat) (commit : Bool) : State :=
  s.onKv n (fun v =>
    let gone := (v.states.filter (fun (x : Nat × Nat) => commit && x.2 == 2)).map (·.1)
    let states := smap 0 (fun k x => groupEnd commit (s.entry n (cacheEntry (k / 2 ^ 20))).committed k x) v.states
    let staging := smap {} (fun c t =>
      let C := (s.entry n (cacheEntry c)).committed
      let t := (gone.filter (fun k => k / 2 ^ 20 == c)).foldl (fun (t : Staging) k => t.drop (k % 2 ^ 20)) t
      let t := match t.unpaged with
        | some g => if !commit ∧ C < 16 * (g + 1) then { t with unpaged := none, codes := [] } else t
        | none => t
      { t with next := C }) v.staging
    { v with states, staging, pressed := v.pressed.filter (fun e => staging.any (fun (x : Nat × Staging) => cacheEntry x.1 == e && x.2.unpaged.isSome)) })

/-- Seals of owed pages are issued again at a committing step end (R195). -/
def State.resealPages (s : State) (n : Nat) : State :=
  ((s.inst n).kv.reseal.foldl (fun s p => s.onPage p (fun d => if d.state = .owned ∧ d.inst = n then { d with sealPending := true } else d)) s).onKv n
    (fun v => { v with reseal := [] })

/-- First position of the page that a ring slot holds now, for the page that holds the last positions below C (R189). -/
def ringFirst (G : LayerGroup) (C slot : Nat) : Nat :=
  let P := pagePositions G
  let R := pageSlots G
  let last := (C - 1) / P
  (last - (last + R - slot) % R) * P

/-- Ring pages that lie wholly below C − WINDOW + 1 are released at a committing step end. -/
def State.windowRelease (s : State) (n : Nat) : State :=
  let v := (s.inst n).kv
  v.map.foldl (fun s x =>
    let G := v.group (keyGroup x.1)
    let e := keyEntry x.1
    let C := (s.entry n e).committed
    let first := ringFirst G C (keyIndex x.1 % pageSlots G)
    if G.variant = 1 ∧ x.2.page < evictedPage ∧ 0 < C ∧ first + pagePositions G + G.window ≤ C + 1 then
      let s := s.dropRefOf n e x.2.page
      (match v.chunkPages.find? (fun y => y.1 == x.1) with
       | some y => s.onKv n (fun v => { v.setMap x.1 (fun m => { m with page := y.2, released := false }) with chunkPages := serase v.chunkPages x.1 })
       | none => s.onKv n (fun v => v.setMap x.1 (fun m => { m with page := noPage, released := true })))
    else s) s

/-- The Gradebook's fold: SCORE := fma(SCORE, −2^−d, SCORE) + MASS at a committing step end; a voided one clears MASS. -/
def State.foldMasses (s : State) (n : Nat) (commit : Bool) : State :=
  let d := s.ent (instIdx n 0x40) 3
  s.onKv n (fun v => { v with map := smap {} (fun _ (m : MapEntry) =>
    if m.mass = 0 then m
    else if commit then { m with mass := 0, score := add32 (fma32 m.score ((127 - d) * 2 ^ 23 + 2 ^ 31) m.score) m.mass }
    else { m with mass := 0 }) v.map })

/-- Settings that waited for a committing step end take effect (R207). -/
def State.applyWaitingSettings (s : State) (n : Nat) : State :=
  let w := (s.inst n).kv.waiting
  let s := w.foldl (fun s x => s.setEnt (instIdx n 0x40) x.1 x.2) s
  s.onKv n (fun v => { v with waiting := [] })

/-! ## Owed pages (R192, R203) -/

/-- Caches of an index with an `UNPAGED` group, ascending. -/
def State.owed (s : State) (n : Nat) : List (Nat × Nat) :=
  (s.inst n).kv.staging.filterMap (fun (x : Nat × Staging) => x.2.unpaged.map (fun g => (x.1, g)))

/-- A page is granted for the owed group of a cache: codes move from the buffer to the page (a shared page is copied first). -/
def State.payOwed (s : State) (n c g p : Nat) : State :=
  let v := (s.inst n).kv
  let G := v.group (cacheGroup c)
  let key := v.entryKey c (16 * g)
  let old := (v.mapAt key).page
  let t := v.stage c
  let s := if old < evictedPage then ((s.bump (instIdx n 0x60) 5).copyGroups G old p g).dropRefOf n (cacheEntry c) old else s
  let s := s.writeGroup G p g t.codes (t.poison g)
  let s := if (s.page p).sealPending then s.onKv n (fun v => { v with reseal := addOnce v.reseal p }) else s
  s.onKv n (fun v =>
    let v := ((v.setMap key (fun m => { m with page := p, evicted := false, released := false })).setState c g 4).onStage c (fun t => { (t.drop g) with unpaged := none, codes := [] })
    { v with pressed := v.pressed.filter (fun e => e != cacheEntry c || v.staging.any (fun (x : Nat × Staging) => cacheEntry x.1 == e && x.2.unpaged.isSome)) })

/-- Copy a whole page with its poison (09 R238). -/
def State.copyPage (s : State) (x y : Nat) : State :=
  let marks := s.mem.poison.filter (fun (e : Nat × Nat) => e.1 / 1024 == x)
  let s := { s with mem := { s.mem with bytes := putBytes s.mem.bytes (y * pageBytes) (getBytes s.mem.bytes (x * pageBytes) pageBytes),
                                        poison := marks.foldl (fun m e => sins m (y * 1024 + e.1 % 1024) e.2) s.mem.poison } }
  if marks.isEmpty then s else s.onPage y (fun d => { d with poisoned := true })

/-- A page granted to the builder goes where it was wanted. -/
def State.placeWant (s : State) (n : Nat) (w : Want) (p : Nat) : State :=
  match w.kind with
  | 0 => (s.onKv n (fun v => { v with mapPages := sins v.mapPages ((w.entry * 16 + w.key) * 2 ^ 15 + 2 ^ 14) p })).onEntry n w.entry
      (fun e => { e with kvRoots := e.kvRoots.set w.key p })
  | 1 => s.onKv n (fun v => { v with mapPages := sins v.mapPages w.key p })
  | 2 =>
    if ((s.inst n).kv.mapAt w.key).page < evictedPage then s.onKv n (fun v => { v with chunkPages := sins v.chunkPages w.key p })
    else s.onKv n (fun v => v.setMap w.key (fun m => { m with page := p, evicted := false, released := false }))
  | 3 => s.onKv n (fun v => { v with copyPages := sins v.copyPages w.key p })
  | _ => (s.copyPage w.src p).onKv n (fun v => v.setMap w.key (fun m => { m with page := p, evicted := false, released := false }))

/-- Pages that the keepers granted to sequences of the index go to their owed groups, ascending, then to what the builder
asked for; a page for neither is freed. -/
def State.payAll (s : State) (n : Nat) (granted : List (QueuedAlloc × Nat)) : State :=
  granted.foldl (fun s a =>
    if a.1.inst ≠ n then s
    else match (s.owed n).find? (fun o => cacheEntry o.1 == a.1.holder) with
      | some o => s.payOwed n o.1 o.2 a.2
      | none =>
        match (s.inst n).kv.wants.find? (fun w => w.entry == a.1.holder) with
        | some w => (s.onKv n (fun v => { v with wants := dropFirst (· == w) v.wants })).placeWant n w a.2
        | none => s.freePage a.2 n a.1.holder) s

/-- A want whose queued request is gone was answered NOPAGE (06 R175). -/
def State.trimWants (s : State) (n : Nat) : State :=
  let v := (s.inst n).kv
  let keep := (v.wants.map (·.entry)).eraseDups.flatMap (fun e =>
    let q := (s.mem.queued.filter (fun a => a.inst == n && a.holder == e)).length - ((s.owed n).filter (fun o => cacheEntry o.1 == e)).length
    (v.wants.filter (fun w => w.entry == e)).take q)
  s.onKv n (fun v => { v with wants := keep })

/-! ## Prefetch of spilled pages (R205) -/

/-- Entries of the step in ascending sequence ID. -/
def State.stepEntries (s : State) (n : Nat) : List Nat :=
  match (s.inst n).roster.step with
  | some st => sortBy (fun a b => decide ((s.entry n a).seqId ≤ (s.entry n b).seqId)) ((st.rows.map (·.entry)).eraseDups)
  | none => []

/-- Spilled pages that layer `l` of the step reads: ascending sequence and slot. -/
def State.spilledOf (s : State) (n l : Nat) : List Nat :=
  let v := (s.inst n).kv
  (s.stepEntries n).flatMap (fun e => (v.map.filter (fun (x : Nat × MapEntry) =>
    let G := v.group (keyGroup x.1)
    keyEntry x.1 == e && decide (x.2.page < evictedPage) && !x.2.evicted &&
    (G.layers.idxOf? l == some (keyIndex x.1 / pageSlots G / max 1 G.headGroups)) && (s.page x.2.page).tier == .library && !(s.page x.2.page).hbmCopy)).map (fun x => x.2.page))

/-- Start the copies for layer `l`. -/
def State.prefetchLayer (s : State) (n l : Nat) : State :=
  (s.spilledOf n l).foldl (fun s p =>
    if (s.page p).migrating then s
    else match s.startMove p .hbm true false false with
      | some s => s.onKv n (fun v => { v with prefetch := v.prefetch ++ [(l, p)] })
      | none => s) s

/-- Drop the copies of layers before `l`. -/
def State.dropPrefetch (s : State) (n l : Nat) : State :=
  let mine := (s.inst n).kv.prefetch.filter (fun x => decide (x.1 < l))
  let s := s.onKv n (fun v => { v with prefetch := v.prefetch.filter (fun x => decide (l ≤ x.1)) })
  mine.foldl (fun s x =>
    match s.mem.moves.find? (fun j => j.page == x.2 && j.copy) with
    | some j => s.failMove j
    | none => s.dropCopy x.2) s

end Sys2Proof.Machine
end

