-- ==== Sys2Proof/Machine/Requests.lean ====
section
/-! DEFINITION. Prefix trees, sampling, token rings, lessons and budgets of one index (09_requests.md R235 to R264). -/

namespace Sys2Proof.Machine

/-! ## Prefix tree (R235 to R240) -/

def noNode : Nat := 0xFFFFFFFF
def matchPending : Nat := 0xFFFFFFFE

/-- SCOPE of a sampling block. -/
def scopeOf (sampling : Bytes) : Nat := field sampling 0x38 4 / 2 % 4

/-- Key of the root under which a sequence matches: lesson and scope key (R235). -/
def rootKey (e : RosterEntry) : Nat × Nat := (e.lesson, if scopeOf e.sampling = 1 then e.tenant else noNode)

/-- A node by its index. -/
def ReqSt.node (q : ReqSt) (i : Nat) : PrefixNode := sget {} q.nodes i
/-- Change a node. -/
def ReqSt.onNode (q : ReqSt) (i : Nat) (f : PrefixNode → PrefixNode) : ReqSt := { q with nodes := supd {} q.nodes i f }

/-- The root of a key. -/
def ReqSt.findRoot (q : ReqSt) (k : Nat × Nat) : Option Nat :=
  (q.nodes.find? (fun (x : Nat × PrefixNode) => x.2.kind == 1 && x.2.lesson == k.1 && x.2.scope == k.2)).map (·.1)

/-- The child of a node that stands for a chunk of 64 tokens. -/
def ReqSt.child (q : ReqSt) (n : Nat) (chunk : List Nat) : Option Nat :=
  (q.nodes.find? (fun (x : Nat × PrefixNode) => x.2.kind == 2 && x.2.parent == n && x.2.tokens == chunk)).map (·.1)

/-- Follow the chunks of `tokens` down from node `n`: the path of nodes, deepest last. -/
def ReqSt.path (q : ReqSt) : Nat → Nat → List Nat → List Nat
  | 0, _, _ => []
  | fuel + 1, n, tokens =>
    if tokens.length < 64 then []
    else match q.child n (tokens.take 64) with
      | some c => c :: q.path fuel c (tokens.drop 64)
      | none => []

/-- The prefix walker: the deepest node and its depth (R237, stage 3). -/
def ReqSt.walk (q : ReqSt) (k : Nat × Nat) (tokens : List Nat) : Nat × Nat :=
  match q.findRoot k with
  | none => (noNode, 0)
  | some r =>
    let p := q.path (tokens.length / 64) r tokens
    (p.getLastD noNode, p.length)

/-- The nodes from a node up to its root, the node first. -/
def ReqSt.upPath (q : ReqSt) : Nat → Nat → List Nat
  | 0, _ => []
  | fuel + 1, n => if (q.node n).kind = 2 then n :: q.upPath fuel (q.node n).parent else []

/-- Every pending walk runs during the step after its ADMIT. -/
def State.runWalks (s : State) (n : Nat) : State :=
  s.onReq n (fun q => { q with walks := q.walks.map (fun w =>
    if w.walked then w else
    let r := q.walk (rootKey (s.entry n w.entry)) w.tokens
    { w with found := r.1, depth := r.2, walked := true }) })

/-- The result of a walk is applied at the step end, right after row 7 of 08 R220 (R237, stage 4). -/
def State.applyWalk (s : State) (n step : Nat) (w : Walk) : State :=
  let e := s.entry n w.entry
  if e.state = 6 ∨ e.state = 0 then s
  else
    let s := s.onEntry n w.entry (fun e => { e with prefixNode := if w.depth = 0 then noNode else w.found, prefilled := 64 * w.depth, committed := 64 * w.depth })
    if w.depth = 0 then s
    else
      let s := s.onReq n (fun q =>
        let q := q.onNode w.found (fun x => { x with hold := x.hold + 1 })
        (q.upPath w.depth w.found).foldl (fun q i => q.onNode i (fun x => { x with lastUse := step })) q)
      s.bump (instIdx n 0x60) 4 (64 * w.depth)

/-- Apply every finished walk. -/
def State.applyWalks (s : State) (n step : Nat) : State :=
  let ws := (s.inst n).req.walks.filter (·.walked)
  let s := s.onReq n (fun q => { q with walks := q.walks.filter (fun w => !w.walked) })
  ws.foldl (fun s w => s.applyWalk n step w) s

/-- Take a node out of its parent's list of children. -/
def ReqSt.unlink (q : ReqSt) (i : Nat) : ReqSt :=
  let x := q.node i
  if x.kind = 1 then q
  else
    let q := if (q.node x.parent).firstChild = i then q.onNode x.parent (fun p => { p with firstChild := x.nextSibling }) else q
    match q.nodes.find? (fun (y : Nat × PrefixNode) => y.2.kind == 2 && y.2.parent == x.parent && y.2.nextSibling == i) with
    | some y => q.onNode y.1 (fun z => { z with nextSibling := x.nextSibling })
    | none => q

/-- Prune a node: its references are dropped in list order, its record is free (R240). -/
def State.pruneNode (s : State) (n i : Nat) : State :=
  let x := (s.inst n).req.node i
  let s := x.pages.foldl (fun s p => s.unrefPage p.2 n) s
  s.onReq n (fun q => { q.unlink i with nodes := serase (q.unlink i).nodes i })

/-- The node that a prune takes: the lowest LAST_USE, then the lowest index, of those prunable. -/
def ReqSt.prunable (q : ReqSt) (keep : Nat) : Option Nat :=
  let l := q.nodes.filter (fun (x : Nat × PrefixNode) => x.2.firstChild == noNode && x.2.hold == 0 && x.1 != keep)
  (l.foldl (fun (best : Option (Nat × PrefixNode)) x => match best with
    | some b => if x.2.lastUse < b.2.lastUse then some x else best
    | none => some x) none).map (·.1)

/-- The lowest free record below the node limit. -/
def State.freeNode (s : State) (n : Nat) : Option Nat :=
  let q := (s.inst n).req
  let limit := s.ent (instIdx n 0x60) 1
  if q.nodes.length < limit then (List.range (q.nodes.length + 1)).find? (fun i => (q.node i).kind == 0) else none

/-- A record for a new node: a free one, or one pruned for it. -/
def State.nodeFor (s : State) (n keep : Nat) : Option (State × Nat) :=
  match s.freeNode n with
  | some i => some (s, i)
  | none =>
    match (s.inst n).req.prunable keep with
    | some p => let s := s.pruneNode n p; (s.freeNode n).map (fun i => (s, i))
    | none => none

/-- Link a new node as the last child of its parent. -/
def ReqSt.link (q : ReqSt) (parent i : Nat) : ReqSt :=
  match (q.nodes.filter (fun (x : Nat × PrefixNode) => x.2.kind == 2 && x.2.parent == parent && x.2.nextSibling == noNode && x.1 != i)).head? with
  | some y => q.onNode y.1 (fun z => { z with nextSibling := i })
  | none => q.onNode parent (fun p => { p with firstChild := i })

/-- Map entries of a sequence whose page holds a position in a chunk, ascending: group, layer, head group, slot. -/
def State.chunkEntries (s : State) (n e d : Nat) : List (Nat × Nat) :=
  let v := (s.inst n).kv
  (List.range v.groups.length).flatMap (fun gi =>
    let G := v.group gi
    (heldPairs G).flatMap (fun lh =>
      let c := cacheNo e gi lh.1 lh.2
      ([v.entryKey c (64 * d), v.entryKey c (64 * d + 63)].eraseDups).filterMap (fun k =>
        if (v.mapAt k).page < evictedPage then some (keyGroup k * 2 ^ 24 + keyIndex k, (v.mapAt k).page) else none)))

/-- REF the pages of a chunk; a page that is saturated or gone is not listed. -/
def State.refPages (s : State) (n : Nat) (l : List (Nat × Nat)) : State × List (Nat × Nat) :=
  l.foldl (fun (acc : State × List (Nat × Nat)) x =>
    let t := acc.1.refPage x.2 n
    if t.mem.answer = 0 then (t, acc.2 ++ [x]) else (t, acc.2)) (s, [])

/-- Insert the chunks of one entry from node `m` at depth `d` on (R239): the state, the node reached, and whether the
insertion stopped for lack of a prunable node. -/
def State.insertChunks (s : State) (n e step : Nat) (first : Nat) (tokens : List Nat) : Nat → Nat → Nat → Nat → State × Nat × Bool
  | 0, m, _, _ => (s, m, false)
  | fuel + 1, m, d, held =>
    if (s.entry n e).prefilled < 64 * (d + 1) ∨ 64 * d < first ∨ first + tokens.length < 64 * (d + 1) then (s, m, false)
    else
      let chunk := (tokens.drop (64 * d - first)).take 64
      let q := (s.inst n).req
      let go (s : State) (c : Nat) : State × Nat × Bool :=
        let s := s.onReq n (fun q =>
          let q := if held = 1 then q.onNode m (fun x => { x with hold := x.hold - 1 }) else q
          q.onNode c (fun x => { x with hold := x.hold + 1, lastUse := step }))
        s.insertChunks n e step first tokens fuel c (d + 1) 1
      match q.child m chunk with
      | some c => go s c
      | none =>
        match s.nodeFor n m with
        | none => (s, m, true)
        | some r =>
          let p := r.1.refPages n (r.1.chunkEntries n e d)
          let root := (p.1.inst n).req.node m
          let s := p.1.onReq n (fun q => (q.onNode r.2 (fun _ => { kind := 2, lesson := root.lesson, scope := root.scope, parent := m, firstChild := noNode,
                                                                    nextSibling := noNode, depth := d + 1, tokens := chunk, pages := p.2 })).link m r.2)
          go s r.2

/-- The root of an entry, created where it is missing. -/
def State.rootFor (s : State) (n : Nat) (k : Nat × Nat) (step : Nat) : Option (State × Nat) :=
  match (s.inst n).req.findRoot k with
  | some r => some (s, r)
  | none =>
    match s.nodeFor n noNode with
    | none => none
    | some r => some (r.1.onReq n (fun q => q.onNode r.2 (fun _ =>
        { kind := 1, lesson := k.1, scope := k.2, parent := noNode, firstChild := noNode, nextSibling := noNode, lastUse := step })), r.2)

/-- Insert the prompt chunks of one entry whose tokens arrived in this step. -/
def State.insertEntry (s : State) (n step : Nat) (row : StepRow) : State × Bool :=
  let e := s.entry n row.entry
  let has := decide (64 ≤ row.tokens.length)
  if (e.state = 2 ∨ e.state = 3) ∧ scopeOf e.sampling ≠ 0 ∧ e.prefixNode ≠ matchPending ∧ !e.parkMask.testBit 3 ∧ has then
    let start := if e.prefixNode = noNode then (s.rootFor n (rootKey e) step).map (fun r => (r.1, r.2, 0))
      else some (s, e.prefixNode, ((s.inst n).req.node e.prefixNode).depth)
    match start with
    | none => (s, true)
    | some r =>
      let t := r.1.insertChunks n row.entry step row.first row.tokens (row.tokens.length / 64 + 1) r.2.1 r.2.2 (if e.prefixNode = noNode then 0 else 1)
      let m := t.2.1
      let s := t.1.onEntry n row.entry (fun e => { e with prefixNode := if ((t.1.inst n).req.node m).kind = 1 then noNode else m })
      (s, t.2.2)
  else (s, false)

/-- Insertion after row 12, entries ascending; cause 0x1904 is logged once where it stopped (R239). -/
def State.insertPrefixes (s : State) (n step : Nat) (rows : List StepRow) : State :=
  let l := sortBy (fun a b => decide (a.entry ≤ b.entry)) (rows.filter (·.prefill))
  let r := l.foldl (fun (acc : State × Bool) row => let t := acc.1.insertEntry n step row; (t.1, acc.2 || t.2)) (s, false)
  if r.2 then r.1.emit { fault 0x1904 { die := dieK0, unit := 0x0B } with inst := n } else r.1

/-- The subtrees of a lesson that was unloaded are pruned, leaves first (R240). -/
def State.pruneLessons (s : State) (n : Nat) : State :=
  let ls := (s.inst n).req.unloaded
  let mine := (s.inst n).req.nodes.filter (fun (x : Nat × PrefixNode) => decide (x.2.lesson ∈ ls))
  let s := s.onReq n (fun q => { q with unloaded := [] })
  (sortBy (fun a b => decide (b.2.depth ≤ a.2.depth)) mine).foldl (fun s x => s.pruneNode n x.1) s

/-- The 320 bytes of a node record without its page list (R236). -/
def nodeBytes (x : PrefixNode) : Bytes :=
  if x.kind = 0 then zeros 320
  else le 1 x.kind ++ zeros 1 ++ le 2 x.lesson ++ le 4 x.scope ++ le 4 x.parent ++ le 4 x.firstChild ++ le 4 x.nextSibling ++
    le 4 x.depth ++ le 4 x.hold ++ zeros 4 ++ le 8 x.lastUse ++ zeros 8 ++ zeros 16 ++ padTo 256 (x.tokens.flatMap (le 4))

/-! ## Sampling (R244 to R251) -/

/-- Is an FP32 code finite and within [lo, hi]? -/
def within32 (c lo hi : Nat) : Bool := !isNan32 c && !lt32 c lo && !lt32 hi c

/-- The checks of a sampling block (R244); `mask` says that feature bit 9 is negotiated. -/
def samplingOk (b : Bytes) (mask : Bool) : Bool :=
  let f := field b 0x38 4
  within32 (field b 0x08 4) 0 0x42C80000 &&
  (within32 (field b 0x0C 4) 0 one32 && lt32 0 (field b 0x0C 4)) &&
  (within32 (field b 0x10 4) 0 one32 && lt32 (field b 0x10 4) one32) &&
  within32 (field b 0x14 4) one32 0x41200000 &&
  within32 (field b 0x18 4) 0xC1200000 0x41200000 &&
  decide (field b 0x1C 2 ≤ 1024) && decide (field b 0x1E 2 ≤ 256) && decide (field b 0x20 8 % 64 = 0) &&
  decide (f < 8) && decide (f / 2 % 4 ≠ 3) && decide (field b 0x3C 2 ≤ 1024) && decide (field b 0x3E 2 = 0) &&
  (!f.testBit 0 || (mask && decide (field b 0x20 8 ≠ 0)))

/-- The order of candidates: descending z, then ascending token (R246). -/
def candBefore (a b : Candidate) : Bool := lt32 b.z a.z || (!lt32 a.z b.z && decide (a.token ≤ b.token))

/-- The merged list of a row: at most 1,024 candidates (R247). -/
def mergeCands (l : List SliceResult) : List Candidate := (sortBy candBefore (l.flatMap (·.cands))).take 1024

/-- LSE of a row from its slices in ascending rank (R247). -/
def logSumExp (l : List SliceResult) : Nat :=
  let l := sortBy (fun a b => decide (a.rank ≤ b.rank)) l
  let m := rowMax (l.map (·.m))
  let s := (l.filter (fun x => x.m != inf32 true)).foldl (fun s x => fma32 x.s (exp32 (sub32 x.m m)) s) 0
  add32 m (log32 s)

/-- Cumulative sums of probabilities until TOP_P is reached: candidate, its log-probability, its sum (R248). -/
def cumulate (topP : Nat) : Nat → List (Candidate × Nat) → List (Candidate × Nat × Nat)
  | _, [] => []
  | cum, x :: r =>
    let c := add32 cum (exp32 x.2)
    (x.1, x.2, c) :: (if lt32 topP one32 && !lt32 c topP then [] else cumulate topP c r)

/-- The uniform draw r of a position (R249). -/
def drawWord (seed pos seqId : Nat) : Nat :=
  let w := counterGen (seed % 2 ^ 32) (seed / 2 ^ 32) 0x53414D50 pos (seqId % 2 ^ 32) (seqId / 2 ^ 32)
  genWord w 0 / 256 % 2 ^ 24

/-- What a draw gives: token, FP16 log-probability, TRUNCATED. -/
structure DrawResult where
  token : Nat
  logprob : Nat
  truncated : Bool
  deriving DecidableEq, Repr

/-- FP16 code of an FP32 value. -/
def toHalf (c : Nat) : Nat := (convNum 0x0F false none (dec32 c)).1

/-- The draw from a merged list (R248); none where the list is empty. -/
def drawFrom (block : Bytes) (pos seqId : Nat) (cands : List Candidate) (lse : Nat) : Option DrawResult :=
  match cands with
  | [] => none
  | c1 :: _ =>
    let all := cands.map (fun c => (c, sub32 c.z lse))
    let p1 := exp32 (sub32 c1.z lse)
    if field block 0x08 4 % 2 ^ 31 = 0 then some ⟨c1.token, toHalf (sub32 c1.z lse), false⟩
    else
      let topK := field block 0x1C 2
      let topP := field block 0x0C 4
      let minP := field block 0x10 4
      let keep := if 0 < topK then all.take topK else all
      let keep := if lt32 0 minP then keep.filter (fun x => !lt32 (exp32 x.2) (mul32 minP p1)) else keep
      let sums := cumulate topP 0 keep
      let last := sums.getLastD (c1, 0, 0)
      let cut := decide (cands.length = 1024) && decide (topK = 0) && lt32 topP one32 && lt32 last.2.2 topP
      let u := mul32 (ofNat32 (drawWord (field block 0 8) pos seqId)) 0x33800000
      let t := mul32 u last.2.2
      let x := (sums.find? (fun x => lt32 t x.2.2)).getD last
      some ⟨x.1.token, toHalf x.2.1, cut⟩

/-- The 16 bytes of a token record (R252). -/
def tokenRecord (token pos flags logprob delta : Nat) : Bytes :=
  le 4 token ++ le 4 pos ++ le 2 flags ++ le 2 logprob ++ le 4 (min delta (2 ^ 32 - 1))

/-- Canonical FP16 NaN. -/
def halfNan : Nat := (convNum 0x0F false none Num.nan).1

/-- BELL_DELTA of a record of the step in ring `k` (R252). -/
def State.bellDelta (s : State) (n k bell : Nat) : Nat := bell - sget bell (s.inst n).req.lastBell k

/-- The end that a committed row finds (08 R214): stop, MAX_NEW, MAX_POSITIONS in that precedence, else 0. -/
def endOf (stop : Bool) (generated maxNew committed maxPositions : Nat) : Nat :=
  if stop then 1 else if maxNew ≤ generated then 2 else if maxPositions ≤ committed then 3 else 0

/-- The home module of an entry is this one. -/
def State.isHome (s : State) (n : Nat) (e : RosterEntry) : Bool := decide (e.home = (s.inst n).bind.place.rank)

/-- A record cannot be written to host memory: the sequence is ended with REQUEST_FAULT (R253). -/
def State.ringFails (s : State) (k : Nat) : State :=
  match (s.ring k).assigned with
  | some a =>
    let n := a / 65536
    let e := a % 65536
    let s := s.raise { fault 0x1906 { die := 20 + (s.ring k).link, unit := 0x0A, locA := k } with inst := n, owner := e }
    s.onStep n (fun st => { st with drawn := mapIf (fun (d : Drawn) => d.entry == e) (fun d => { d with failed := true }) st.drawn })
  | none => s

/-- A row that is not drawn: its entry ends at the step end (R251). -/
def State.rowFailed (s : State) (n e : Nat) : State :=
  let s := s.onStep n (fun st => { st with drawn := st.drawn ++ [{ entry := e, token := 0, stop := false, logprob := 0, truncated := false, failed := true }] })
  s.endRequest n e 0x1903

/-- The draw of a row: its token, the stop test, its record beyond PROD (R248 to R253). -/
def State.drawRow (s : State) (n : Nat) (st : StepSt) (row : StepRow) (en : RosterEntry) (slices : List SliceResult) : State :=
  let e := row.entry
  let pos := row.first + row.count
  let cands := mergeCands slices
  match drawFrom en.sampling pos en.seqId cands (logSumExp slices) with
  | none => (s.failRow n e 0x1903).rowFailed n e
  | some d =>
    let stop := decide (d.token = field en.sampling 0x28 4) || decide (d.token = field en.sampling 0x2C 4)
    let stop := stop && decide (d.token ≠ 0xFFFFFFFF)
    let why := endOf stop (en.generated + 1) en.maxNew pos en.maxPositions
    let flags := (if why = 0 then 0 else 1 + 2 * why) + (if en.resumed then 32 else 0) + (if d.truncated then 128 else 0)
    let b := tokenRecord d.token pos flags d.logprob (s.bellDelta n en.ring st.bell)
    let s := s.onStep n (fun st => { st with drawn := st.drawn ++ [{ entry := e, token := d.token, stop, logprob := d.logprob, truncated := d.truncated }] })
    let r := s.ring en.ring
    if (s.fn r.link).up ∧ r.enable then
      (s.hostPut (ringSlot r r.prod) b).onReq n (fun q => { q with posted := q.posted ++ [(e, en.ring, b)] })
    else s.ringFails en.ring

/-- Sample one entry once every member's slice is there. -/
def State.sample (s : State) (n e : Nat) : State :=
  match (s.inst n).roster.step with
  | none => s
  | some st =>
    let en := s.entry n e
    match st.rows.find? (fun r => r.entry == e && r.draws) with
    | none => s
    | some row =>
      let slices := ((st.slices.find? (fun p => p.1 == e)).map (·.2)).getD []
      let full := (List.range (s.inst n).bind.place.modules).all (fun r => slices.any (fun x => x.rank == r))
      if !s.isHome n en ∨ st.drawn.any (fun d => d.entry == e) then s
      else if row.poisoned ∨ (s.inst n).roster.faulted.any (fun f => f.1 == e) then s.rowFailed n e
      else if full then s.drawRow n st row en slices
      else s

def execSampleDraw (inst entry : Nat) (s : State) : Host.Outcome State Fault Refusal :=
  if entry < numEntries then unitOf numInsts inst (s.sample inst entry) else .fault (.noSuchUnit entry)

def execRingWriteFailed (ring : Nat) (s : State) : Host.Outcome State Fault Refusal := unitOf numRings ring (s.ringFails ring)

/-- A failed mask read delivers the row's slice poisoned (R246). -/
def State.maskFails (s : State) (n e : Nat) : State :=
  let draws := ((s.inst n).roster.step.map (fun st => st.rows.any (fun r => r.entry == e && r.draws))).getD false
  if draws && (field (s.entry n e).sampling 0x38 4).testBit 0 then
    let s := s.onStep n (fun st => { st with rows := mapIf (fun (r : StepRow) => r.entry == e) (fun r => { r with poisoned := true }) st.rows })
    s.failRow n e 0x1901
  else s

def execMaskReadFailed (inst entry : Nat) (s : State) : Host.Outcome State Fault Refusal :=
  if entry < numEntries then unitOf numInsts inst (s.maskFails inst entry) else .fault (.noSuchUnit entry)

/-! ## Token rings at a step end (R253, R254) -/

/-- PROD advances over a record that is in its place. -/
def State.commitToken (s : State) (n bell k : Nat) (b : Bytes) : State :=
  (s.produce k b).onReq n (fun q => { q with lastBell := sins q.lastBell k bell })

/-- The posted records of the step become visible at a committing step end, but for entries ended by a request fault. -/
def State.commitTokens (s : State) (n bell : Nat) (ended : List Nat) : State :=
  let l := (s.inst n).req.posted
  let s := s.onReq n (fun q => { q with posted := [] })
  l.foldl (fun s p => if p.1 ∈ ended then s else s.commitToken n bell p.2.1 p.2.2) s

/-- The final record of an end without a sampled token, where the ring has room (R254, 08 R232). -/
def State.finalRecord (s : State) (n e bell reason : Nat) : State :=
  let en := s.entry n e
  if s.isHome n en ∧ s.ringRoom en.ring 1 then
    let b := tokenRecord 0xFFFFFFFF en.committed (1 + 2 * reason + 64) halfNan (s.bellDelta n en.ring bell)
    s.commitToken n bell en.ring b
  else s

/-! ## Lessons (R255, R256) -/

/-- The checks of a pack (R255). -/
def packOk (p : Program) (b : Bytes) : Bool :=
  let n := field b 6 2
  let site (i : Nat) : Nat := field b (64 + 68 * i) 2
  let crc := crc32c (b.take 0x18 ++ zeros 4 ++ b.drop 0x1C)
  decide (64 ≤ b.length) && decide (b.length ≤ 16384) && decide (b.length = 64 + 68 * n) && decide (field b 0 4 = 0x4E53534C) && decide (field b 4 2 = 1) && decide (n ≤ 240) &&
  decide (slice b 8 16 = p.syllabusId) && decide (field b 0x18 4 = crc) && decide (unle (slice b 0x1C 36) = 0) &&
  (List.range n).all (fun i =>
    (i == 0 || decide (site (i - 1) < site i)) && decide (site i / 1024 % 32 = 0) && decide (field b (64 + 68 * i + 2) 1 ≤ 254) &&
    decide (field b (64 + 68 * i + 3) 1 = 0) &&
    p.kernels.any (fun k => k.kind == 0x0B && k.layer == site i % 1024 && decide (field k.params 0 1 = site i / 32768)))

/-- A place for a pack: a quarter of a lesson page with room, else a new page (R256). -/
def State.lessonPlace (s : State) (n : Nat) : Option (State × Nat × Nat) :=
  let ls := (s.inst n).req.lessons
  let pages := (ls.map (·.2.page)).eraseDups
  let free := pages.findSome? (fun p => ((List.range 4).find? (fun i => !ls.any (fun l => l.2.page == p && l.2.slot == i))).map (fun i => (p, i)))
  match free with
  | some r => some (s, r.1, r.2)
  | none => (s.grant 65 n 0x3FF0 0 dieK0).map (fun r => (r.1, r.2, 0))

/-- LESSON_LOAD. -/
def State.lessonLoad (s : State) (n i : Nat) (pack : Option Bytes) (r : CmdRef) : State :=
  if (s.inst n).bind.state ≠ .serving then s.complete r 0x0708
  else if 65534 < i then s.complete r 0x1002
  else
    match pack with
    | none => s.complete r 0x0903
    | some b =>
      if !packOk (s.inst n).bind.program b then s.complete r 0x0903
      else if (s.inst n).req.lessons.any (fun l => l.1 == i) then s.complete r 0x0902
      else match s.lessonPlace n with
        | none => s.complete r 0x0907
        | some p =>
          let s := p.1.writeRun (p.2.1 * pageBytes + 16384 * p.2.2) (padTo 16384 b) none
          let s := s.sealPage p.2.1 n
          let s := s.onReq n (fun q => { q with lessons := q.lessons ++ [(i, { bytes := b, page := p.2.1, slot := p.2.2 })] })
          s.complete r 0

def execLessonLoad (inst index : Nat) (pack : Option Bytes) (ref : CmdRef) (s : State) : Host.Outcome State Fault Refusal :=
  unitOf numInsts inst (s.lessonLoad inst index pack ref)

/-- LESSON_UNLOAD: refused while an entry of the replica names the index. The page goes with its last pack. -/
def State.lessonUnload (s : State) (n i : Nat) (r : CmdRef) : State :=
  if (s.inst n).bind.state ≠ .serving then s.complete r 0x0708
  else if 65534 < i then s.complete r 0x1002
  else if (s.inst n).roster.entries.any (fun (e : Nat × RosterEntry) => e.2.state != 0 && e.2.lesson == i) then s.complete r 0x0902
  else match (s.inst n).req.lessons.find? (fun l => l.1 == i) with
    | none => s.complete r 0x0709
    | some l =>
      let rest := (s.inst n).req.lessons.filter (fun x => x.1 != i)
      let s := s.onReq n (fun q => { q with lessons := rest, unloaded := addOnce q.unloaded i })
      let s := if rest.any (fun x => x.2.page == l.2.page) then s else s.freePage l.2.page n 0x3FF0
      s.complete r 0

def execLessonUnload (inst index : Nat) (ref : CmdRef) (s : State) : Host.Outcome State Fault Refusal :=
  unitOf numInsts inst (s.lessonUnload inst index ref)

/-! ## Budgets (R258 to R261) -/

/-- The 48 bytes of a budget record. -/
def budgetBytes (b : Budget) : Bytes :=
  le 8 (ofInt 64 b.balance) ++ le 8 b.granted ++ le 8 b.consumed ++ le 4 b.refill ++ le 4 b.capacity ++ le 2 b.promptWeight ++ le 2 b.genWeight ++
  le 2 b.flags ++ zeros 10

/-- Two's complement value of 64 bits. -/
def wrap64 (x : Int) : Int := toInt 64 (ofInt 64 x)

def Budget.enabled (b : Budget) : Bool := b.flags.testBit 0

/-- Charge c units. -/
def charge (c : Nat) (b : Budget) : Budget :=
  if b.enabled then { b with balance := wrap64 (b.balance - c), consumed := (b.consumed + c) % 2 ^ 64 } else b

/-- Refill for k windows. -/
def refill (k : Nat) (b : Budget) : Budget :=
  if b.enabled then
    let add := min (k * b.refill) (((b.capacity : Int) - b.balance).toNat)
    { b with balance := wrap64 (b.balance + add), granted := (b.granted + add) % 2 ^ 64 }
  else b

/-- Apply a pending set: the fields, and a new balance with GRANTED (R260). -/
def applySet (c : BudgetChange) (b : Budget) : Budget :=
  let b := { b with refill := c.refill, capacity := c.capacity, promptWeight := c.promptWeight, genWeight := c.genWeight, flags := c.flags % 2 }
  match c.balance with
  | some x => { b with balance := x, granted := ofInt 64 ((b.granted : Int) + x - b.balance) }
  | none => b

/-- The book of a record: GRANTED = BALANCE + CONSUMED modulo 2^64 (R261). -/
def budgetBalanced (b : Budget) : Bool := decide (b.granted = ofInt 64 (b.balance + b.consumed))

def ReqSt.onBudget (q : ReqSt) (t : Nat) (f : Budget → Budget) : ReqSt := { q with budgets := supd {} q.budgets t f }

/-- A record out of balance: cause 0x1905, and GRANTED takes BALANCE + CONSUMED (16 R450). -/
def State.auditBudgets (s : State) (n : Nat) : State :=
  ((s.inst n).req.budgets.filter (fun (b : Nat × Budget) => !budgetBalanced b.2)).foldl (fun s b =>
    let s := s.onReq n (fun q => q.onBudget b.1 (fun b => { b with granted := ofInt 64 (b.balance + b.consumed) }))
    (s.bump (instIdx n 0x60) 9).raise { fault 0x1905 { die := dieK0, unit := 0x0B, locA := b.1 } with inst := n }) s

def execBudgetAudit (s : State) : Host.Outcome State Fault Refusal :=
  done ((s.insts.map (·.1)).foldl (fun s n => s.auditBudgets n) s)

/-- BUDGET_SET at submission (R260). -/
def State.budgetSet (s : State) (n : Nat) (c : BudgetChange) (r : CmdRef) : State :=
  if (s.inst n).bind.state ≠ .serving then s.complete r 0x0708
  else if (s.inst n).bind.program.needs.tenants ≤ c.tenant then s.complete r 0x0704
  else if c.effectiveStep < s.stepOf n + 2 then s.complete r 0x0905
  else if 4096 ≤ (s.inst n).req.sets.length then s.complete r 0x0906
  else (s.onReq n (fun q => { q with sets := q.sets ++ [c] })).complete r 0

def execBudgetSet (inst : Nat) (change : BudgetChange) (ref : CmdRef) (s : State) : Host.Outcome State Fault Refusal :=
  unitOf numInsts inst (s.budgetSet inst change ref)

end Sys2Proof.Machine
end

