-- ==== Sys2Proof/Machine/Roster.lean ====
section
/-! DEFINITION. The Roster's shared operations (08_roster.md R209 to R225, R549): the replica and its CRC, digests, park
reasons, committed rows, commands as they are applied, budgets of a step end, the pressure procedure (07_attention_kv.md
R202 to R206). -/

namespace Sys2Proof.Machine

/-! ## The replica (R210, R549) -/

/-- The 256 bytes of an entry. -/
def entryBytes (e : RosterEntry) : Bytes :=
  le 8 e.seqId ++ le 1 e.state ++ le 1 e.parkMask ++ le 1 e.priority ++ le 1 e.cls ++ le 2 e.home ++ le 2 e.ring ++ le 2 e.tenant ++ le 2 e.lesson ++
  le 1 e.endReason ++ le 1 ((if e.swappedOut then 1 else 0) + (if e.pressed then 2 else 0) + (if e.resumed then 4 else 0)) ++ zeros 2 ++
  le 4 e.promptLen ++ le 4 e.prefilled ++ le 4 e.committed ++ le 4 e.maxPositions ++ le 4 e.generated ++ le 4 e.maxNew ++
  le 8 e.admitStep ++ le 8 e.lastStep ++ padTo 64 (e.kvRoots.flatMap (le 4)) ++ padTo 64 e.sampling ++ le 8 e.promptAddr ++
  le 4 e.prefixNode ++ le 4 e.lastToken ++ le 4 e.owedPages ++ zeros 44

/-- KV roots of an entry before any root page. -/
def noRoots : List Nat := List.replicate 16 0xFFFFFFFF

/-- What of an entry every module holds alike: KV_ROOTS, PRESSED and OWED_PAGES tell of this module's own pages (log entry 22). -/
def replicated (e : RosterEntry) : RosterEntry := if e.state = 0 then e else { e with kvRoots := noRoots, pressed := false, owedPages := 0 }

/-- REPLICA_CRC of the replica as it stands. -/
def State.replicaCrc (s : State) (n : Nat) : Nat :=
  let i := s.inst n
  let head := (List.range numEntries).flatMap (fun e => entryBytes (replicated (sget {} i.roster.entries e)))
  let block := le 8 (s.ent (instIdx n 0x50) 1) ++ le 8 i.roster.committed ++ le 8 (i.req.wLast.getD 0) ++ le 1 (s.ent (instIdx n 0x50) 3) ++ zeros 39
  let budgets := (List.range i.bind.program.needs.tenants).flatMap (fun t => budgetBytes (sget {} i.req.budgets t))
  let nodes := (List.range (s.ent (instIdx n 0x60) 1)).flatMap (fun k => nodeBytes (i.req.node k))
  crc32c (head ++ block ++ budgets ++ nodes)

/-! ## Digests (R219) -/

/-- The bytes of a record. -/
def recordBytes (r : DigestRec) : Bytes :=
  le 1 r.kind ++ le 1 r.arg8 ++ le 2 r.entry ++ le 4 r.arg32 ++ le 8 r.seqId ++ (match r.proposed with | some e => entryBytes e | none => [])

/-- The bytes of a digest. -/
def digestBytes (d : Digest) : Bytes :=
  le 1 d.round ++ le 1 d.inst ++ le 2 d.rank ++ le 4 ((if d.void then 1 else 0) + (if d.fence then 2 else 0) + (if d.dismiss then 4 else 0)) ++
  le 8 d.step ++ le 8 d.bell ++ le 4 d.crc ++ le 1 d.fencedDie ++ zeros 3 ++ le 4 d.records.length ++ zeros 28 ++ d.records.flatMap recordBytes

/-- Ranks of an instance. -/
def State.ranks (s : State) (n : Nat) : List Nat := List.range (s.inst n).bind.place.modules

/-- The digests of a round, one of each rank in ascending rank; none while one is missing. -/
def roundOf (ranks : List Nat) (l : List Digest) : Option (List Digest) :=
  let ds := ranks.map (fun r => l.find? (fun d => d.rank == r))
  if ds.all (·.isSome) then some (ds.filterMap id) else none

/-- Take the first digest of each rank out of a list. -/
def dropRound (ranks : List Nat) (l : List Digest) : List Digest := ranks.foldl (fun l r => dropFirst (fun (d : Digest) => d.rank == r) l) l

/-! ## Park reasons (R212, R214) -/

/-- The state that a sequence not parked has (R211): never advanced `WAITING`, then `PREFILLING`, with a token `DECODING`. -/
def runState (e : RosterEntry) : Nat := if 1 ≤ e.generated then 3 else if e.lastStep = 0 then 1 else 2

/-- Set a park reason: `FREE` and `ENDING` entries ignore it. -/
def State.setPark (s : State) (n e b : Nat) : State :=
  let en := s.entry n e
  if en.state = 0 ∨ en.state = 6 then s
  else
    let s := s.onEntry n e (fun x => { x with state := 4, parkMask := setBit x.parkMask b true })
    if en.parkMask.testBit b then s else s.onRoster n (fun r => { r with notices := r.notices ++ [(e, b)] })

/-- Clear a park reason: with the last one the sequence runs again, or waits for its swapped pages. -/
def State.clearPark (s : State) (n e b : Nat) : State :=
  let en := s.entry n e
  if en.state ≠ 4 ∨ !en.parkMask.testBit b then s
  else
    let m := setBit en.parkMask b false
    s.onEntry n e (fun x =>
      if m ≠ 0 then { x with parkMask := m }
      else if x.swappedOut then { x with parkMask := 0, state := 5 }
      else { x with parkMask := 0, state := runState x, resumed := true })

/-- End an entry with a reason: `ENDING` keeps its first reason. -/
def State.endEntry (s : State) (n e why : Nat) : State :=
  let st := (s.entry n e).state
  if st = 0 ∨ st = 6 then s else s.onEntry n e (fun x => { x with state := 6, endReason := why })

/-- Entries in use, ascending. -/
def State.entriesInUse (s : State) (n : Nat) : List Nat := ((s.inst n).roster.entries.filter (fun (e : Nat × RosterEntry) => e.2.state != 0)).map (·.1)

/-! ## Rows 3 and 4 of R220 -/

/-- Records of a kind with their sender's rank, ascending rank, then record order. -/
def recordsOf (ds : List Digest) (kind : Nat) : List (Nat × DigestRec) :=
  ds.flatMap (fun d => (d.records.filter (fun r => r.kind == kind)).map (fun r => (d.rank, r)))

/-- A committed row advances its entry (R214), with the end check. -/
def State.commitRow (s : State) (n step : Nat) (row : StepRow) (token : Option DigestRec) : State :=
  let e := row.entry
  match token with
  | some t =>
    let s := s.onEntry n e (fun x =>
      let c := if row.prefill then x.prefilled + row.count else x.committed + 1
      let x := { x with state := 3, committed := c, prefilled := if row.prefill then c else x.prefilled, generated := x.generated + 1,
                        lastToken := t.arg32, lastStep := step, resumed := false }
      let why := endOf (t.arg8.testBit 0) x.generated x.maxNew x.committed x.maxPositions
      if why = 0 then x else { x with state := 6, endReason := why })
    s.onReq n (fun q => { q with history := sins q.history e ((t.arg32 :: sget [] q.history e).take 1024) })
  | none => s.onEntry n e (fun x =>
      { x with state := 2, prefilled := x.prefilled + row.count, committed := x.prefilled + row.count, lastStep := step, resumed := false })

/-- Row 3: committed rows in ascending entry. -/
def State.commitRows (s : State) (n : Nat) (st : StepSt) (ds : List Digest) : State :=
  let tokens := recordsOf ds 0x01
  let ended := (recordsOf ds 0x02).map (fun r => r.2.entry)
  (sortBy (fun a b => decide (a.entry ≤ b.entry)) st.rows).foldl (fun (s : State) (row : StepRow) =>
    if row.entry ∈ ended ∨ (s.entry n row.entry).state = 0 then s
    else if row.draws then
      match tokens.find? (fun t => t.2.entry == row.entry) with
      | some t => s.commitRow n st.number row (some t.2)
      | none => s
    else s.commitRow n st.number row none) s

/-- Row 4: REQUEST_END. -/
def State.requestEnds (s : State) (n : Nat) (ds : List Digest) : State :=
  let l := recordsOf ds 0x02
  let s := l.foldl (fun s r => s.endEntry n r.2.entry r.2.arg8) s
  s.onRoster n (fun q => { q with faulted := q.faulted.filter (fun f => !l.any (fun r => r.2.entry == f.1)) })

/-! ## Row 5: budgets (09 R259) -/

/-- Charge one committed row of the step and its token. -/
def State.chargeRow (s : State) (n e units : Nat) (perToken : Bool) : State :=
  let t := (s.entry n e).tenant
  s.onReq n (fun q => q.onBudget t (fun b => charge (units * (if perToken then b.genWeight else b.promptWeight)) b))

/-- Set or clear BUDGET on one entry. -/
def State.budgetPark (s : State) (n e : Nat) : State :=
  let en := s.entry n e
  let b := sget ({} : Budget) (s.inst n).req.budgets en.tenant
  if !b.enabled ∨ en.state = 6 then s
  else if b.balance ≤ 0 then
    (if en.parkMask.testBit 2 then s else (s.setPark n e 2).bump (instIdx n 0x60) 8)
  else s.clearPark n e 2

/-- Pending sets of this step or of one before it, in ascending tenant and then arrival. -/
def State.applySets (s : State) (n step : Nat) : State :=
  let due := (s.inst n).req.sets.filter (fun c => decide (c.effectiveStep ≤ step))
  let s := s.onReq n (fun q => { q with sets := q.sets.filter (fun c => decide (step < c.effectiveStep)) })
  (sortBy (fun a b => decide (a.tenant ≤ b.tenant)) due).foldl (fun s c => s.onReq n (fun q => q.onBudget c.tenant (applySet c))) s

/-- Row 5 of a committing step end. -/
def State.budgetRow (s : State) (n : Nat) (st : StepSt) (ds : List Digest) : State :=
  let s := s.applySets n st.number
  let w := st.bell / max 1 (s.ent (instIdx n 0x60) 7)
  let k := w - (s.inst n).req.wLast.getD w
  let s := s.onReq n (fun q => { q with wLast := some w, budgets := smap {} (fun _ b => refill k b) q.budgets })
  let ended := (recordsOf ds 0x02).map (fun r => r.2.entry)
  let tokens := recordsOf ds 0x01
  let rows := sortBy (fun a b => decide (a.entry ≤ b.entry)) st.rows
  let got (row : StepRow) : Bool := !decide (row.entry ∈ ended) && (!row.draws || tokens.any (fun t => t.2.entry == row.entry))
  let s := (rows.filter (fun r => r.prefill && got r)).foldl (fun s r => s.chargeRow n r.entry r.count false) s
  let s := (rows.filter (fun r => r.draws && got r)).foldl (fun s r => s.chargeRow n r.entry 1 true) s
  let s := (s.entriesInUse n).foldl (fun s e => s.budgetPark n e) s
  s.auditBudgets n

/-! ## Rows 6 and 7 -/

/-- Row 6: RING_FULL, then RING_ROOM. -/
def State.ringRows (s : State) (n : Nat) (ds : List Digest) : State :=
  let s := (recordsOf ds 0x03).foldl (fun s r => s.setPark n r.2.entry 1) s
  (recordsOf ds 0x04).foldl (fun s r => s.clearPark n r.2.entry 1) s

/-- The entry of a sequence ID. -/
def State.findSeq (s : State) (n q : Nat) : Option Nat :=
  ((s.inst n).roster.entries.find? (fun (e : Nat × RosterEntry) => e.2.state != 0 && e.2.seqId == q)).map (·.1)

/-- A command on a sequence as it is applied (R216): the state and the result code. -/
def State.applyOn (s : State) (n rank : Nat) (r : DigestRec) (f : Nat → State × Nat) : State × Nat :=
  match s.findSeq n r.seqId with
  | none => (s, 0x0702)
  | some e => if (s.entry n e).home ≠ rank then (s, 0x0706) else if (s.entry n e).state = 6 then (s, 0x0707) else f e

/-- The checks of an ADMIT as it is applied, in order (R216). -/
def State.admitCode (s : State) (n : Nat) (p : RosterEntry) : Nat :=
  let i := s.inst n
  let needs := i.bind.program.needs
  if p.seqId = 0 ∨ p.seqId = 2 ^ 64 - 1 ∨ (s.findSeq n p.seqId).isSome then 0x0702
  else if needs.tenants ≤ p.tenant ∨ 3 < p.cls ∨ 7 < p.priority then 0x0704
  else if p.promptLen = 0 ∨ needs.maxContext < p.promptLen ∨ p.maxPositions < p.promptLen ∨ needs.maxContext < p.maxPositions ∨ p.maxNew = 0 then 0x0705
  else if !samplingOk p.sampling (i.bind.program.features.testBit 9) then 0x0901
  else if i.bind.place.maxSeq ≤ (s.entriesInUse n).length then 0x0701
  else 0

/-- ADMIT as it is applied: the lowest `FREE` entry, `WAITING`, its match pending where it uses prefixes. -/
def State.admitEntry (s : State) (n step bell : Nat) (p : RosterEntry) : State × Nat :=
  let code := s.admitCode n p
  let home := s.isHome n p
  let here := ((s.inst n).req.incoming.find? (fun x => x.seqId == p.seqId)).getD { seqId := p.seqId }
  let s := s.onReq n (fun q => { q with incoming := q.incoming.filter (fun x => x.seqId != p.seqId) })
  if code ≠ 0 then ((if home then s.onRing p.ring (fun r => { r with assigned := none }) else s), code)
  else
    let e := ((List.range numEntries).find? (fun k => (s.entry n k).state == 0)).getD 0
    let uses := scopeOf p.sampling ≠ 0
    let s := s.onEntry n e (fun _ => { p with state := 1, admitStep := step, prefixNode := if uses then matchPending else noNode })
    let s := s.onReq n (fun q => { q with
      bias := if here.bias = [] then serase q.bias e else sins q.bias e here.bias
      history := serase q.history e
      walks := if uses then q.walks ++ [{ entry := e, tokens := here.tokens }] else q.walks })
    let s := if home then (s.onRing p.ring (fun r => { r with assigned := some (n * 65536 + e) })).onReq n (fun q => { q with lastBell := sins q.lastBell p.ring bell }) else s
    (s, 0)

/-- One command record as it is applied. -/
def State.applyCommand (s : State) (n step bell rank : Nat) (r : DigestRec) : State × Nat :=
  match r.kind with
  | 0x05 => s.applyOn n rank r (fun e => (s.endEntry n e 4, 0))
  | 0x06 => s.applyOn n rank r (fun e => (s.setPark n e 0, 0))
  | 0x07 => s.applyOn n rank r (fun e =>
      if !(s.entry n e).parkMask.testBit 0 then (s, 0x0707)
      else
        let s := if (s.entry n e).swappedOut then s.clearPark n e 4 else s
        (s.clearPark n e 0, 0))
  | 0x08 => s.applyOn n rank r (fun e => if 7 < r.arg8 then (s, 0x0704) else (s.onEntry n e (fun x => { x with priority := r.arg8 }), 0))
  | 0x0A => if r.arg8 = 0 ∨ 16 < r.arg8 then (s, 0x0704) else (s.setEnt (instIdx n 0x50) 3 r.arg8, 0)
  | _ => match r.proposed with
    | some p => s.admitEntry n step bell p
    | none => (s, 0x0702)

/-- Command records of a kind: rank, number among the commands of its digest, record. -/
def commandsOf (ds : List Digest) (kind : Nat) : List (Nat × Nat × DigestRec) :=
  ds.flatMap (fun d =>
    let c := d.records.filter (fun r => decide (5 ≤ r.kind) && decide (r.kind ≤ 0x0A))
    (((List.range c.length).zip c).filter (fun x => x.2.kind == kind)).map (fun x => (d.rank, x.1, x.2)))

/-- Row 7: END, PARK, RESUME, PRIORITY, INTERLEAVE, ADMIT, one kind after another; the results of this module's own commands. -/
def State.commandRows (s : State) (n step bell : Nat) (ds : List Digest) : State :=
  let own := (s.inst n).bind.place.rank
  let admits := sortBy (fun a b => decide (a.2.2.seqId ≤ b.2.2.seqId)) (commandsOf ds 0x09)
  let all := commandsOf ds 0x05 ++ commandsOf ds 0x06 ++ commandsOf ds 0x07 ++ commandsOf ds 0x08 ++ commandsOf ds 0x0A ++ admits
  let sent := (s.inst n).roster.cmds.filter (·.sent)
  let r := all.foldl (fun (acc : State × List (CmdRef × Nat)) c =>
    let t := acc.1.applyCommand n step bell c.1 c.2.2
    let mine := if c.1 = own then (sent[c.2.1]?).bind (·.ref) else none
    (t.1, match mine with | some x => acc.2 ++ [(x, t.2)] | none => acc.2)) (s, [])
  r.1.onRoster n (fun q => { q with cmds := q.cmds.filter (fun c => !c.sent), results := q.results ++ r.2 })

/-! ## Lockstep at a step end (13_bell_timetable.md R381, R382) -/

/-- Right after row 7: BELL is set on every entry in use from the step before E on, and cleared at the end of the step that
the resume created. -/
def State.lockstepRow (s : State) (n step : Nat) : State :=
  let l := (s.inst n).lock
  let s := if l.clearAt.any (fun x => decide (x ≤ step)) then
      ((s.entriesInUse n).foldl (fun s e => s.clearPark n e 5) s).onLock n (fun l => { l with clearAt := none })
    else s
  if l.leaveAt.any (fun x => decide (x ≤ step + 1)) then (s.entriesInUse n).foldl (fun s e => s.setPark n e 5) s else s

/-! ## Release of ended entries (09 R241) -/

/-- An `ENDING` entry drops what it holds. -/
def State.releaseEntry (s : State) (n e : Nat) : State :=
  let node := (s.entry n e).prefixNode
  let s := s.releaseCache n e
  s.onReq n (fun q =>
    let q := if (q.node node).kind = 2 then q.onNode node (fun x => { x with hold := x.hold - 1 }) else q
    { q with bias := serase q.bias e, history := serase q.history e, walks := q.walks.filter (fun w => w.entry != e) })

/-- Entries that became `ENDING` at this step end: final records of the ends without a token, then the release. -/
def State.releaseEnded (s : State) (n bell : Nat) : State :=
  (s.entriesInUse n).foldl (fun s e =>
    let en := s.entry n e
    if en.state = 6 then
      let s := if 4 ≤ en.endReason then s.finalRecord n e bell en.endReason else s
      (s.releaseEntry n e).onEntry n e (fun x => { x with prefixNode := noNode, kvRoots := noRoots })
    else s) s

/-! ## The pressure procedure (07 R202 to R206) -/

/-- Lexicographic order of lists of numbers. -/
def lexLe : List Nat → List Nat → Bool
  | [], _ => true
  | _ :: _, [] => false
  | a :: r, b :: t => decide (a < b) || (decide (a = b) && lexLe r t)

/-- Map entries of the index with a page, whose page lies in a variant-0 group outside the live window and the anchors. -/
def State.coldPages (s : State) (n : Nat) : List (Nat × MapEntry) :=
  let v := (s.inst n).kv
  let live := s.ent (instIdx n 0x40) 4
  v.map.filter (fun (x : Nat × MapEntry) =>
    let G := v.group (keyGroup x.1)
    let last := (keyIndex x.1 % pageSlots G + 1) * pagePositions G
    let C := (s.entry n (keyEntry x.1)).committed
    decide (G.variant = 0) && decide (x.2.page < evictedPage) && (s.page x.2.page).state == .sealed &&
    decide (last + live ≤ C) && !(G.anchors != 0 && Config.pageAnchored n x.1 s.free))

/-- Action 2: evict in ascending score until the target is met. -/
def State.evict (s : State) (n need : Nat) : State × Nat :=
  let l := sortBy (fun a b =>
    lexLe [a.2.score, keyGroup a.1, keyIndex a.1, (s.entry n (keyEntry a.1)).seqId] [b.2.score, keyGroup b.1, keyIndex b.1, (s.entry n (keyEntry b.1)).seqId]) (s.coldPages n)
  l.foldl (fun (acc : State × Nat) x =>
    if acc.2 = 0 then acc
    else
      let t := acc.1.dropRefOf n (keyEntry x.1) x.2.page
      let t := (t.onKv n (fun v => v.setMap x.1 (fun m => { m with page := evictedPage, evicted := true }))).bump (instIdx n 0x40) 7
      (t, if (t.page x.2.page).refs = 0 then acc.2 - 1 else acc.2)) (s, need)

/-- Action 3 under the spill policy (R204). -/
def State.spill (s : State) (n need : Nat) : State × Nat :=
  let v := (s.inst n).kv
  let first (k : Nat) : Nat := keyIndex k % pageSlots (v.group (keyGroup k)) * pagePositions (v.group (keyGroup k))
  let l := sortBy (fun a b =>
    lexLe [first a.1, keyGroup a.1, keyIndex a.1, (s.entry n (keyEntry a.1)).seqId] [first b.1, keyGroup b.1, keyIndex b.1, (s.entry n (keyEntry b.1)).seqId]) ((s.coldPages n).filter (fun x => !(s.page x.2.page).poisoned && (s.page x.2.page).tier == .hbm && !(s.page x.2.page).migrating))
  l.foldl (fun (acc : State × Nat) x =>
    if acc.2 = 0 ∨ (acc.1.page x.2.page).migrating then acc
    else match acc.1.startMove x.2.page .library false false false with
      | some t => (t, acc.2 - 1)
      | none => acc) (s, need)

/-- Pages of a sequence that a swap moves: `SEALED`, one reference, not poisoned, in HBM (R206). -/
def State.swapPages (s : State) (n e : Nat) : List Nat :=
  ((s.inst n).kv.map.filter (fun (x : Nat × MapEntry) => keyEntry x.1 == e && decide (x.2.page < evictedPage) &&
    (s.page x.2.page).state == .sealed && decide ((s.page x.2.page).refs = 1) && !(s.page x.2.page).poisoned && (s.page x.2.page).tier == .hbm)).map (·.2.page)

/-- Sealed pages of a sequence that are resident in HBM. -/
def State.residentPages (s : State) (n e : Nat) : Nat :=
  ((s.inst n).kv.map.filter (fun (x : Nat × MapEntry) => keyEntry x.1 == e && decide (x.2.page < evictedPage) &&
    (s.page x.2.page).state == .sealed && (s.page x.2.page).tier == .hbm)).length

/-- Action 3 under the swap policy: the victims, in order, until the target is met. -/
def State.swapVictims (s : State) (n need : Nat) : List Nat × Nat :=
  let l := sortBy (fun a b =>
    lexLe [(s.entry n a).priority, 2 ^ 40 - s.residentPages n a, (s.entry n a).seqId] [(s.entry n b).priority, 2 ^ 40 - s.residentPages n b, (s.entry n b).seqId]) ((s.entriesInUse n).filter (fun e => decide ((s.entry n e).state ≤ 4) && !(s.entry n e).parkMask.testBit 4 && !(s.swapPages n e).isEmpty))
  l.foldl (fun (acc : List Nat × Nat) e => if acc.2 = 0 then acc else (acc.1 ++ [e], acc.2 - (s.swapPages n e).length)) ([], need)

/-- Action 1: ask for every owed page that is not asked for yet. -/
def State.askOwed (s : State) (n : Nat) : State :=
  (s.owed n).foldl (fun s o =>
    let e := cacheEntry o.1
    let waiting := (s.mem.queued.filter (fun a => a.inst == n && a.holder == e)).length
    let wants := ((s.inst n).kv.wants.filter (fun w => w.entry == e)).length
    let before := ((s.owed n).filter (fun p => cacheEntry p.1 == e && decide (p.1 < o.1))).length
    if before + 1 + wants ≤ waiting then s
    else
      let t := s.alloc (s.kvPool n) n e (s.entry n e).cls true dieK0
      if t.mem.answer = 0 then t.payOwed n o.1 o.2 t.mem.answerPage else t) s

/-- The pressure procedure before the keepers' pass: the state and the sequences to be swapped out. -/
def State.pressure (s : State) (n : Nat) : State × List Nat :=
  let need0 := (s.owed n).length + (s.ent (instIdx n 0x40) 5 - poolFree (s.pool 65))
  let owed0 := (s.owed n).length
  let s := s.askOwed n
  let need := need0 - (owed0 - (s.owed n).length)
  let r := if s.ent (instIdx n 0x40) 2 = 1 then s.evict n need else (s, need)
  match s.ent (instIdx n 0x40) 1 with
  | 1 => ((r.1.spill n r.2).1, [])
  | 2 => (r.1, (r.1.swapVictims n r.2).1)
  | _ => (r.1, [])

/-- PRESSED and OWED_PAGES of every entry follow this module's caches. -/
def State.refreshOwed (s : State) (n : Nat) : State :=
  (s.entriesInUse n).foldl (fun s e =>
    s.onEntry n e (fun x => { x with pressed := decide (e ∈ (s.inst n).kv.pressed), owedPages := ((s.owed n).filter (fun o => cacheEntry o.1 == e)).length })) s

/-! ## Telemetry and storms at a step end (05 R146, 16 R439) -/

/-- Add the samples of a step to a layer's record, counts saturating. -/
def foldTel (a b : LayerTel) : LayerTel :=
  let c (x y : Nat) : Nat := min (x + y) 0xFFFFFFFF
  { sampled := c a.sampled b.sampled, rhoMax := max a.rhoMax b.rhoMax, rhoSum := add64 a.rhoSum b.rhoSum, rhoCount := a.rhoCount + b.rhoCount,
    codesDiffer := c a.codesDiffer b.codesDiffer, saturations := c a.saturations b.saturations, lostSpecials := c a.lostSpecials b.lostSpecials,
    invalidCodes := c a.invalidCodes b.invalidCodes, alignLosses := c a.alignLosses b.alignLosses }

/-- The step's samples are folded in, or dropped. -/
def State.foldTelemetry (s : State) (n bell : Nat) (commit : Bool) : State :=
  let s := s.onInst n (fun i => { i with telNow := [], tel := if commit then i.telNow.foldl (fun (t : Sparse LayerTel) x => supd {} t x.1 (fun a => foldTel a x.2)) i.tel else i.tel })
  if commit then s.setEnt (instIdx n 0x20) 1 bell else s

/-- Instance-class faults in consecutive periods. -/
def State.countStorm (s : State) (n : Nat) : State :=
  let r := (s.inst n).roster
  let k := if r.stormed then r.storm + 1 else 0
  let s := s.onRoster n (fun r => { r with storm := k, stormed := false })
  if s.ent 0x2610 5 ≤ k ∧ 0 < k then (s.bump 0x2600 0xA).raiseDismiss { fault 0x2002 { die := dieK0 } with inst := n } 7 else s

end Sys2Proof.Machine
end

