-- ==== Sys2Proof/Machine/Steps.lean ====
section
/-! DEFINITION. Building a step (08_roster.md R223 to R227): template, rows, prompt and mask reads, look-ahead; 07_attention_kv.md
R188, R194, R205, R206; 09_requests.md R238. -/

namespace Sys2Proof.Machine

/-! ## Templates (R223) -/

/-- The lowest template of a TKIND. -/
def Program.ofKind (p : Program) (k : Nat) : Option Nat := p.templates.findIdx? (fun t => t.kind == k)

/-- The template of a step from its pending work. -/
def chooseTemplate (p : Program) (decode prefill : Bool) (step q : Nat) : Option Nat :=
  match decode, prefill with
  | true, false => (p.ofKind 0).or (p.ofKind 2)
  | false, true => (p.ofKind 1).or (p.ofKind 2)
  | true, true =>
    match p.ofKind 2 with
    | some t => some t
    | none => if step % q = q - 1 then p.ofKind 1 else p.ofKind 0
  | false, false => none

/-- Template `t`. -/
def Program.template (p : Program) (t : Nat) : TemplateRec := p.templates.getD t ⟨0, 0, 0, 0, 0⟩

/-- Kernels of a template in order. -/
def Program.kernelsOf (p : Program) (t : Nat) : List KernelRec := (p.kernels.drop (p.template t).first).take (p.template t).count

/-- Layers of a template in the order they run. -/
def Program.layersOf (p : Program) (t : Nat) : List Nat := ((p.kernelsOf t).map (·.layer)).eraseDups

/-- The largest PREFILL_BOUND of the templates that can prefill. -/
def Program.largestBound (p : Program) : Nat := ((p.templates.filter (fun t => t.kind == 1 || t.kind == 2)).map (·.bound)).foldl max 0

/-! ## Prefill candidates (R224) -/

/-- Take chunks in order until the bound is used up: entry, sequence, start, positions left. -/
def takeChunks : Nat → List (Nat × Nat × Nat × Nat) → List Cand
  | _, [] => []
  | bound, x :: r =>
    let k := min x.2.2.2 (min 4096 bound)
    let k := if k < x.2.2.2 then k / 64 * 64 else k
    if k = 0 then takeChunks bound r
    else { entry := x.1, seqId := x.2.1, first := x.2.2.1, count := k } :: takeChunks (bound - k) r

/-- Entries that can be prefilled, in candidate order, with the position their next chunk starts at after this step's rows. -/
def State.prefillOrder (s : State) (n : Nat) (rows : List StepRow) : List (Nat × Nat × Nat × Nat) :=
  let l := (s.inst n).roster.entries.filter (fun (e : Nat × RosterEntry) => (e.2.state == 1 || e.2.state == 2) && e.2.prefixNode != matchPending)
  let l := sortBy (fun a b => lexLe [7 - a.2.priority, a.2.admitStep, a.2.seqId] [7 - b.2.priority, b.2.admitStep, b.2.seqId]) l
  (l.map (fun e =>
    let start := match rows.find? (fun r => r.entry == e.1 && r.prefill) with | some r => r.first + r.count | none => e.2.prefilled
    (e.1, e.2.seqId, start, e.2.promptLen - start))).filter (fun x => decide (0 < x.2.2.2))

/-- Candidates that may become rows now: none denied them, they still wait, their chunk starts where they are. -/
def State.placeable (s : State) (n : Nat) : List Cand :=
  (s.inst n).roster.cand.filter (fun c =>
    let e := s.entry n c.entry
    !c.denied && e.seqId == c.seqId && (e.state == 1 || e.state == 2) && e.prefilled == c.first)

/-- The prefill rows under a bound: the candidates taken again in order (R224). -/
def fitChunks (bound : Nat) (promptLen : Nat → Nat) (l : List Cand) : List Cand :=
  takeChunks bound (l.map (fun c => (c.entry, c.seqId, c.first, min c.count (promptLen c.entry - c.first))))

/-- Rows of a step: decode rows in ascending entry, then prefill rows. -/
def State.rowsFor (s : State) (n : Nat) (t : Option Nat) : List StepRow :=
  match t with
  | none => []
  | some t =>
    let tp := (s.inst n).bind.program.template t
    let dec := if tp.kind = 1 then [] else ((s.inst n).roster.entries.filter (fun (e : Nat × RosterEntry) => e.2.state == 3)).map (fun e =>
      ({ entry := e.1, prefill := false, first := e.2.committed, count := 1, draws := true, tokens := [e.2.lastToken] } : StepRow))
    let pre := if tp.kind = 0 then [] else (fitChunks tp.bound (fun e => (s.entry n e).promptLen) (s.placeable n)).map (fun c =>
      ({ entry := c.entry, prefill := true, first := c.first, count := c.count, draws := decide (c.first + c.count = (s.entry n c.entry).promptLen) } : StepRow))
    dec ++ pre

/-! ## Reads of phase 2 (R226, 09 R246) -/

/-- A failed prompt read: the tokens are poisoned with the row's entry as owner. -/
def State.promptFails (s : State) (n e : Nat) : State :=
  let has := ((s.inst n).roster.step.map (fun st => st.rows.any (fun r => r.entry == e && r.prefill))).getD false
  if has then
    let s := s.onStep n (fun st => { st with rows := mapIf (fun (r : StepRow) => r.entry == e) (fun r => { r with poisoned := true }) st.rows })
    s.failRow n e 0x1802
  else s

/-- The home module reads the tokens of one prefill row and sends them to every member. -/
def State.readPrompt (s : State) (n step : Nat) (row : StepRow) (answer : Option (List Nat)) : State :=
  match answer with
  | none => s.promptFails n row.entry
  | some l =>
    let l := (l.take row.count).map (· % 2 ^ 32)
    let s := s.onStep n (fun st => { st with rows := mapIf (fun (r : StepRow) => r.entry == row.entry) (fun r => { r with tokens := l }) st.rows })
    s.tellPeers n 3 row.entry step (l.flatMap (le 4))

/-- The home module reads the mask of one row and sends it to every member. -/
def State.readMask (s : State) (n step : Nat) (row : StepRow) (answer : Option Bytes) : State :=
  match answer with
  | none => s.maskFails n row.entry
  | some b =>
    let s := s.onStep n (fun st => { st with rows := mapIf (fun (r : StepRow) => r.entry == row.entry) (fun r => { r with mask := some b }) st.rows })
    s.tellPeers n 4 row.entry step b

/-- All reads of phase 2: a buffer that does not come counts as a failed read. -/
def State.phaseReads (s : State) (n step : Nat) (rows : List StepRow) (prompts : List (Nat × Option (List Nat))) (masks : List (Nat × Option Bytes)) : State :=
  let home (r : StepRow) : Bool := s.isHome n (s.entry n r.entry)
  let s := (rows.filter (fun r => r.prefill && home r)).foldl (fun (s : State) (r : StepRow) =>
    s.readPrompt n step r ((prompts.find? (fun p => p.1 == r.entry)).bind (·.2))) s
  (rows.filter (fun r => r.draws && home r && (field (s.entry n r.entry).sampling 0x38 4).testBit 0)).foldl (fun (s : State) (r : StepRow) =>
    s.readMask n step r ((masks.find? (fun p => p.1 == r.entry)).bind (·.2))) s

/-- Row data that arrived before the step was built here. -/
def State.takeEarly (s : State) (n step : Nat) : State :=
  let l := (s.inst n).req.early
  let s := s.onReq n (fun q => { q with early := q.early.filter (fun x => decide (step < x.2.2.1)) })
  (l.filter (fun x => x.2.2.1 == step)).foldl (fun s x =>
    s.onStep n (fun st => { st with rows := mapIf (fun (r : StepRow) => r.entry == x.2.1) (rowGets x.1 x.2.2.2) st.rows })) s

/-! ## Look-ahead (R224, 07 R188, R194, 09 R238) -/

/-- The slot of page `idx` still holds the ring page before it (07 R189). -/
def ringTaken (G : LayerGroup) (C idx : Nat) : Bool :=
  let R := pageSlots G
  decide (G.variant = 1) && decide (R ≤ idx) && decide (C + 1 < (idx - R) * pagePositions G + pagePositions G + G.window)

/-- Pages that a chunk needs in one cache: pages it completes groups of, and a copy page where it starts inside a page. -/
def State.cacheWants (s : State) (n : Nat) (c : Cand) (gi l h : Nat) : List Want :=
  let v := (s.inst n).kv
  let G := v.group gi
  let P := pagePositions G
  let cache := cacheNo c.entry gi l h
  let last := (c.first + c.count) / 16 * 16
  let C := (s.entry n c.entry).committed
  let inside := decide (c.first % P ≠ 0)
  let copy : List Want :=
    if inside && !v.copyPages.any (fun x => x.1 == cache * 2 ^ 20 + c.first / 16) then [{ entry := c.entry, kind := 3, key := cache * 2 ^ 20 + c.first / 16 }] else []
  let lo := c.first / P + (if inside then 1 else 0)
  let pages := ((List.range ((last + P - 1) / P - lo)).map (lo + ·)).filterMap (fun idx =>
    let key := v.entryKey cache (idx * P)
    let have_ := if ringTaken G C idx then v.chunkPages.any (fun x => x.1 == key) else decide ((v.mapAt key).page < evictedPage)
    if have_ then none else some ({ entry := c.entry, kind := 2, key } : Want))
  pages ++ copy

/-- Root page and map pages that the positions [first, last) of one entry need and that it does not have. -/
def State.mapWants (s : State) (n e first last : Nat) : List Want :=
  let v := (s.inst n).kv
  (List.range v.groups.length).flatMap (fun gi =>
    let G := v.group gi
    let P := pagePositions G
    let base := (e * 16 + gi) * 2 ^ 15
    let root : List Want := if (heldPairs G).isEmpty ∨ v.mapPages.any (fun x => x.1 == base + 2 ^ 14) then [] else [{ entry := e, kind := 0, key := gi }]
    let nums := ((heldPairs G).flatMap (fun lh => (List.range ((last - 1) / P + 1 - first / P)).map (fun i =>
      mapIndex G lh.1 lh.2 (pageSlot G ((first / P + i) * P)) / 4096))).eraseDups
    root ++ (nums.filter (fun k => !v.mapPages.any (fun x => x.1 == base + k))).map (fun k => ({ entry := e, kind := 1, key := base + k } : Want)))

/-- Ask for a page with WAIT = 1 unless it is asked for already. -/
def State.ask (s : State) (n : Nat) (w : Want) : State :=
  if w ∈ (s.inst n).kv.wants then s
  else
    let t := s.alloc (s.kvPool n) n w.entry (s.entry n w.entry).cls true dieK0
    if t.mem.answer = 0 then t.placeWant n w t.mem.answerPage
    else t.onKv n (fun v => { v with wants := v.wants ++ [w] })

/-- Pages of a matched prefix: depth ascending. -/
def State.prefixPages (s : State) (n e : Nat) : List (Nat × Nat) :=
  let q := (s.inst n).req
  let node := (s.entry n e).prefixNode
  ((q.upPath (q.node node).depth node).reverse).flatMap (fun i => (q.node i).pages)

/-- The pages of a matched prefix enter the maps with a reference each; a saturated page is copied (09 R238). -/
def State.takePrefix (s : State) (n e : Nat) : State :=
  (s.prefixPages n e).foldl (fun s x =>
    let key := e * 2 ^ 30 + x.1
    let m := (s.inst n).kv.mapAt key
    if m.page < evictedPage ∨ (s.inst n).kv.wants.any (fun w => w.kind == 4 && w.key == key) then s
    else
      let t := s.refPage x.2 n
      if t.mem.answer = 0 then t.onKv n (fun v => v.setMap key (fun m => { m with page := x.2, released := false }))
      else if t.mem.answer = 8 then t.ask n { entry := e, kind := 4, key, src := x.2 }
      else t) s

/-- Look-ahead of one candidate. -/
def State.lookAhead (s : State) (n : Nat) (c : Cand) : State :=
  let e := s.entry n c.entry
  let first := if e.state = 1 then 0 else c.first
  let s := (s.mapWants n c.entry first (c.first + c.count)).foldl (fun s w => s.ask n w) s
  let s := if e.state = 1 ∧ c.first = e.prefilled then s.takePrefix n c.entry else s
  let v := (s.inst n).kv
  ((List.range v.groups.length).flatMap (fun gi => (heldPairs (v.group gi)).flatMap (fun lh => s.cacheWants n c gi lh.1 lh.2))).foldl (fun s w => s.ask n w) s

/-- Candidates for the next step, their pages, and the map pages that decode rows need next. -/
def State.lookAheadAll (s : State) (n : Nat) (rows : List StepRow) : State :=
  let cs := takeChunks (s.inst n).bind.program.largestBound (s.prefillOrder n rows)
  let s := s.onRoster n (fun r => { r with cand := cs })
  let s := (rows.filter (fun r => !r.prefill)).foldl (fun (s : State) (r : StepRow) =>
    (s.mapWants n r.entry r.first (r.first + 2)).foldl (fun s w => s.ask n w) s) s
  cs.foldl (fun s c => s.lookAhead n c) s

/-- Phase 2 pins the pages of a prefix for the step that carries the first chunk (09 R238). -/
def State.pinPrefixes (s : State) (n : Nat) (rows : List StepRow) : State :=
  (rows.filter (fun r => r.prefill && (s.entry n r.entry).state == 1)).foldl (fun (s : State) (r : StepRow) =>
    ((s.prefixPages n r.entry).map (·.2)).eraseDups.foldl (fun s p => s.pinPage p n) s) s

/-! ## Swaps and owed pages at a build (07 R203, R206) -/

/-- Park notices of swap victims start their swap-outs. -/
def State.startSwapOuts (s : State) (n : Nat) : State :=
  (((s.inst n).roster.notices.filter (fun x => x.2 == 4)).map (·.1)).eraseDups.foldl (fun s e =>
    (s.swapPages n e).foldl (fun s p => if (s.page p).migrating then s else (s.startMove p .host false false false).getD s) s) s

/-- Pages of a sequence that lie in host memory. -/
def State.hostPages (s : State) (n e : Nat) : List Nat :=
  ((s.inst n).kv.map.filter (fun (x : Nat × MapEntry) => keyEntry x.1 == e && decide (x.2.page < evictedPage) && (s.page x.2.page).tier == .host)).map (·.2.page)

/-- A sequence marked for resume: its swapped pages move back (R206). -/
def State.startSwapIn (s : State) (n e : Nat) : State :=
  (s.hostPages n e).foldl (fun s p => if (s.page p).migrating then s else (s.startMove p .hbm false false false).getD s) s

/-- Entries whose swap-in is asked for: SWAP is clear while pages are out. -/
def State.swapIns (s : State) (n : Nat) : List Nat :=
  ((s.inst n).roster.entries.filter (fun (e : Nat × RosterEntry) => e.2.swappedOut && (e.2.state == 5 || (e.2.state == 4 && !e.2.parkMask.testBit 4)))).map (·.1)

/-! ## The build -/

/-- Virtual time of an instance that becomes ready (R229): at least the least of the others. -/
def State.joinTime (s : State) (n : Nat) : State :=
  let others := (s.insts.filter (fun (i : Nat × InstSt) => i.1 != n && i.2.roster.step.any (fun st => decide (st.nextLayer < st.layers)))).map (fun i => i.2.roster.vtime)
  match others with
  | [] => s
  | a :: r => s.onRoster n (fun q => { q with vtime := max q.vtime (r.foldl min a) })

/-- Build the step of the oldest waiting step start from the replica (R224 to R227). -/
def State.buildStep (s : State) (n : Nat) (prompts : List (Nat × Option (List Nat))) (masks : List (Nat × Option Bytes)) : State :=
  match (s.inst n).roster.backlog with
  | [] => s
  | T :: rest =>
    let s := s.bump (instIdx n 0x50) 1
    let step := s.ent (instIdx n 0x50) 1
    let p := (s.inst n).bind.program
    let entries := (s.inst n).roster.entries
    let tpl := chooseTemplate p (entries.any (fun (e : Nat × RosterEntry) => e.2.state == 3)) (!(s.placeable n).isEmpty) step (s.ent (instIdx n 0x50) 3)
    let rows := s.rowsFor n tpl
    let st : StepSt := { bell := T, number := step, template := tpl.getD 0xFFFF, rows, layers := (tpl.map (fun t => (p.layersOf t).length)).getD 0,
                         started := s.now, recessBase := s.pwr.recess, unlocked := s.bell.state != .locked, backlogLogged := decide (4 ≤ rest.length) }
    let s := s.onRoster n (fun r => { r with backlog := rest, step := some st })
    let s := if 4 ≤ rest.length then s.emit { fault 0x1804 { die := dieK0 } with inst := n, step } else s
    let s := s.onInst n (fun i => { i with sentinel := s.ent (instIdx n 0x20) 4, book := {} })
    let s := (s.onReq n (fun q => { q with lessons := q.lessons.map (fun l => (l.1, { l.2 with usable := true })) })).runWalks n
    let s := (s.phaseReads n step rows prompts masks).takeEarly n step
    let s := (s.pinPrefixes n rows).startSwapOuts n
    let s := (s.swapIns n).foldl (fun s e => s.startSwapIn n e) s
    let s := s.onRoster n (fun r => { r with notices := [] })
    let s := (s.askOwed n).lookAheadAll n rows
    let s := if s.ent (instIdx n 0x40) 1 = 1 then
        ((tpl.map p.layersOf).getD []).take (s.ent (instIdx n 0x40) 6) |>.foldl (fun s l => s.prefetchLayer n l) s
      else s
    s.joinTime n

/-- A resumed schedule fires again: the step it creates is E + 1, at whose end BELL is cleared (13 R382). -/
def State.resumeFires (s : State) (n : Nat) : State :=
  match (s.inst n).lock.leaveAt, (s.inst n).lock.resumeAt with
  | some E, some _ =>
    if E ≤ s.ent (instIdx n 0x50) 1 + (s.inst n).roster.backlog.length then
      s.onLock n (fun l => { l with leaveAt := none, resumeAt := none, readies := [], clearAt := some (E + 1) })
    else s
  | _, _ => s

/-- A STEP_START event of an index (R227). -/
def State.stepStart (s : State) (n : Nat) (prompts : List (Nat × Option (List Nat))) (masks : List (Nat × Option Bytes)) : State :=
  if (s.inst n).bind.state ≠ .serving ∨ s.suspended n then s
  else
    match s.bell.table.find? (fun (e : Nat × TtEntry) => e.2.kind == 1 && e.2.inst == n) with
    | none => s
    | some t =>
      let s := (s.resumeFires n).fireEntry t.1
      let s := s.onRoster n (fun r => { r with backlog := r.backlog ++ [t.2.time] })
      match (s.inst n).roster.step with
      | none => s.buildStep n prompts masks
      | some st =>
        if 4 ≤ (s.inst n).roster.backlog.length ∧ !st.backlogLogged then
          (s.onStep n (fun st => { st with backlogLogged := true })).emit { fault 0x1804 { die := dieK0 } with inst := n, step := st.number }
        else s

def execStepStart (inst : Nat) (prompts : List (Nat × Option (List Nat))) (masks : List (Nat × Option Bytes)) (s : State) :
    Host.Outcome State Fault Refusal := unitOf numInsts inst (s.stepStart inst prompts masks)

def execPromptReadFailed (inst entry : Nat) (s : State) : Host.Outcome State Fault Refusal :=
  if entry < numEntries then unitOf numInsts inst (s.promptFails inst entry) else .fault (.noSuchUnit entry)

end Sys2Proof.Machine
end

