-- ==== Sys2Proof/Machine/Rounds.lean ====
section
/-! DEFINITION. Layer dispatch, the step-end exchange, Roster commands at submission and dismissal (08_roster.md R215 to R222,
R228 to R232; 13_bell_timetable.md R379, R380; 16_faults_availability.md R439, R449, R452). -/

namespace Sys2Proof.Machine

/-! ## Layer dispatch (R229) -/

/-- Does an instance have an undispatched layer of a step that goes on? -/
def dispatchable (i : InstSt) : Bool :=
  i.bind.state == .serving && i.roster.fencePending.isNone &&
  i.roster.step.any (fun st => decide (st.nextLayer < st.layers) && st.phase == 0 && !st.void)

/-- The ready instance with the least virtual time, the lower index on a tie. -/
def State.nextInst (s : State) : Option Nat :=
  ((s.insts.filter (fun (i : Nat × InstSt) => dispatchable i.2)).foldl (fun (best : Option (Nat × Nat)) i =>
    match best with
    | some b => if i.2.roster.vtime < b.2 then some (i.1, i.2.roster.vtime) else best
    | none => some (i.1, i.2.roster.vtime)) none).map (·.1)

/-- A core still has work of model `n`. -/
def hasWork (n : Nat) (k : CoreSt) : Bool := k.kernel.any (fun r => r.inst == n) || k.next.any (fun r => r.inst == n)

/-- Cores that layers use: every good core of every working compute die (log entry 19). -/
def State.usedCores (s : State) : List Nat :=
  (List.range numCores).filter (fun c => s.dieWorks (coreDie c) && (s.spareMap (coreDie c) (coreTile c)).1.testBit (corePhys c) && !(s.core c).fenced)

/-- A switch clear on every core that model `n` uses. -/
def State.switchTo (s : State) (n : Nat) : State :=
  let e := (s.inst n).epoch
  let used := s.usedCores
  { s with cores := (List.range numCores).filterMap (fun c =>
      let k := s.core c
      let k := if c ∈ used ∧ k.idle then k.cleared n e else k
      if k = {} then none else some (c, k)) }

/-- Dispatch the next layer of the chosen instance; a change of instance waits until the last layer has ended. -/
def State.dispatchLayer (s : State) : State :=
  match s.nextInst with
  | none => s
  | some n =>
    let changed := s.lastInst != some n
    let busy := match s.lastInst with
      | some m => changed && (s.cores.any (fun (c : Nat × CoreSt) => hasWork m c.2) || s.tiles.any (fun t => t.2.inst == m))
      | none => false
    if busy then s
    else
      match (s.inst n).roster.step with
      | none => s
      | some st =>
        let s := if changed then s.switchTo n else s
        let ls := (s.inst n).bind.program.layersOf st.template
        let l := ls.getD st.nextLayer 0
        let D := s.ent (instIdx n 0x40) 6
        let s := s.dropPrefetch n l
        let s := if s.ent (instIdx n 0x40) 1 = 1 then (match ls[st.nextLayer + D]? with | some m => s.prefetchLayer n m | none => s) else s
        let s := s.onStep n (fun st => { st with nextLayer := st.nextLayer + 1 })
        let s := s.onRoster n (fun r => { r with vtime := r.vtime + Config.layerEstimate n l / max 1 (s.ent (instIdx n 0x50) 2) })
        { s with lastInst := some n }

def execLayerDispatch (s : State) : Host.Outcome State Fault Refusal := done s.dispatchLayer

/-! ## Kernel dispatch (R228) -/

/-- The math configuration entry of a kernel (05 R139, R140), with the factor T of 04 R110. -/
def kernelCfg (p : Program) (k : KernelRec) (sentinel : Nat) : Bytes :=
  let t (i : Nat) : Option TensorRec := p.tensors.find? (fun t => t.id == k.inputs.getD i 0xFFFFFFFF)
  let o := p.tensors.find? (fun t => t.id == k.outputs.getD 0 0xFFFFFFFF)
  let fmt (t : Option TensorRec) : Nat := (t.map (·.elemFmt)).getD 0
  let sc (t : Option TensorRec) : Nat := (t.map (·.scaleFmt)).getD 0
  let blk (t : Option TensorRec) : Nat := (t.map (·.block)).getD 0 % 4
  let ts (t : Option TensorRec) : Nat := (t.map (·.scale)).getD one32
  let factor := if k.kind = 1 ∨ k.kind = 2 ∨ k.kind = 3 then div32 (mul32 (ts (t 0)) (ts (t 1))) (ts o) else one32
  let sk := if k.sentinelK = 0 ∨ sentinel = 0xFF then 0 else if sentinel = 0 then k.sentinelK else sentinel
  let w0 := fmt (t 0) % 256 + fmt (t 1) % 256 * 2 ^ 8 + sc (t 0) % 256 * 2 ^ 16 + sc (t 1) % 256 * 2 ^ 24 + (if blk (t 0) = 0 then blk (t 1) else blk (t 0)) * 2 ^ 32 +
    k.accMode % 2 * 2 ^ 34 + k.run % 8 * 2 ^ 35 + k.promote % 2 * 2 ^ 38 + k.round % 2 * 2 ^ 39 + sk % 32 * 2 ^ 40 + k.outFmt % 256 * 2 ^ 45 +
    sc o % 256 * 2 ^ 53 + blk o * 2 ^ 61
  le 8 w0 ++ le 4 k.roundKey ++ le 4 factor ++ le 8 (k.id % 2 ^ 18)

/-- BATCH_ROWS of a step (R225). -/
def batchRows (st : StepSt) : Nat := (st.rows.map (·.count)).sum

/-- K0 sends a kernel's dispatch record to a tile once every core of the mask has accepted the one before it. Addresses and
the code entry come from the binder's plan, which is free. -/
def State.kernelDispatch (s : State) (n kernel die tile mask : Nat) : State :=
  match (s.inst n).roster.step with
  | none => s
  | some st =>
    let p := (s.inst n).bind.program
    match p.kernels[kernel]? with
    | none => s
    | some k =>
      let layer := (p.layersOf st.template).getD (st.nextLayer - 1) 0
      let mine := (p.kernelsOf st.template).any (fun x => x.id == kernel)
      let cores := (List.range 24).filterMap (fun l => if mask.testBit l then s.coreAt die tile l else none)
      let waiting := s.tiles.any (fun t => t.1 == die * 48 + tile) || cores.any (fun c => (s.core c).next.isSome)
      if (s.inst n).bind.state ≠ .serving ∨ s.lastInst ≠ some n ∨ st.nextLayer = 0 ∨ k.layer ≠ layer ∨ !mine ∨ waiting then s
      else
        let f (i : Nat) : Nat := Config.freeValue s.free i
        let g : List Word64 := [BitVec.ofNat 64 (f 0), BitVec.ofNat 64 k.id, BitVec.ofNat 64 layer, BitVec.ofNat 64 (f 3), BitVec.ofNat 64 st.bell,
                                BitVec.ofNat 64 st.number, BitVec.ofNat 64 (batchRows st), BitVec.ofNat 64 (f 7)]
        let rec_ : DispatchRec := { inst := n, epoch := (s.inst n).epoch, kernelId := k.id, layer, entry := f 8, mask, g, micro := decide (k.kind = 0x0F) }
        let cfg := kernelCfg p k (s.inst n).sentinel
        let s := cores.foldl (fun (s : State) (c : Nat) => s.onCore c (fun q => { q with mathCfg := sins q.mathCfg (k.id % 64) cfg })) s
        { s with tiles := s.tiles ++ [(die * 48 + tile, rec_)] }.fresh

def execKernelDispatch (inst kernel die tile mask : Nat) (s : State) : Host.Outcome State Fault Refusal :=
  if 16 ≤ die then .fault (.noSuchUnit die)
  else if 48 ≤ tile then .fault (.noSuchUnit tile)
  else unitOf numInsts inst (s.kernelDispatch inst kernel die tile mask)

/-! ## Round A (R218, R219) -/

/-- Every core and store engine of the instance is done, every home row is drawn (R28, 16 R452). -/
def State.workDone (s : State) (n : Nat) (st : StepSt) : Bool :=
  decide (st.nextLayer = st.layers) &&
  !s.cores.any (fun (c : Nat × CoreSt) => hasWork n c.2 || (c.2.instValid && decide (c.2.inst = n) && c.2.storeBusy)) &&
  !s.tiles.any (fun t => t.2.inst == n) &&
  st.rows.all (fun r => !r.draws || !s.isHome n (s.entry n r.entry) || st.drawn.any (fun d => d.entry == r.entry))

/-- The arrival audit of a step that is not voided (16 R451, R452). -/
def State.arrivalAudit (s : State) (n : Nat) : State :=
  let b := (s.inst n).book
  if b.issued + b.entered = b.applied + b.discarded + b.exited then s
  else (s.bump 0x2600 0xB).raise { fault 0x2003 { die := dieK0 } with inst := n }

/-- Records of an entry's ring: full after this step's post, or room again for one parked for RING. -/
def State.ringRecords (s : State) (n : Nat) (void : Bool) : List DigestRec :=
  ((s.inst n).roster.entries.filter (fun (e : Nat × RosterEntry) => e.2.state != 0 && e.2.state != 6 && s.isHome n e.2)).filterMap (fun e =>
    let held := if void then 0 else ((s.inst n).req.posted.filter (fun p => p.1 == e.1)).length
    let room := decide (held < ringFree (s.ring e.2.ring))
    let parked := e.2.parkMask.testBit 1
    if !room && !parked then some { kind := 0x03, entry := e.1, seqId := e.2.seqId }
    else if room && parked then some { kind := 0x04, entry := e.1, seqId := e.2.seqId }
    else none)

/-- The round A digest of this module. -/
def State.digestA (s : State) (n : Nat) (st : StepSt) : Digest :=
  let i := s.inst n
  let r := i.roster
  let fence := r.fencePending.any (fun d => s.covered n d && !i.bind.recomputing)
  let void := st.void || r.fencePending.isSome
  let tokens : List DigestRec := if void then [] else (st.drawn.filter (fun d => !d.failed && !r.faulted.any (fun f => f.1 == d.entry))).map (fun d =>
    { kind := 0x01, arg8 := if d.stop then 1 else 0, entry := d.entry, arg32 := d.token, seqId := (s.entry n d.entry).seqId })
  let ends : List DigestRec := r.faulted.map (fun f => { kind := 0x02, arg8 := if f.2 = 0x1704 then 6 else 5, entry := f.1, seqId := (s.entry n f.1).seqId })
  { round := 0, inst := n, rank := i.bind.place.rank, void, fence, dismiss := r.dismiss || (r.fencePending.isSome && !fence),
    step := st.number, bell := st.bell, crc := r.crc, fencedDie := r.fencePending.getD 0,
    records := tokens ++ ends ++ s.ringRecords n void ++ (r.cmds.filter (·.sent)).map (·.record) }

/-- Mark the commands that go into this digest, in order of arrival (R217). -/
def markSent (limit : Nat) (l : List RosterCmd) : List RosterCmd := (l.take limit).map (fun c => { c with sent := true }) ++ l.drop limit

/-- A round A digest of the step in progress names another step or Bell count (R222). -/
def State.mismatched (s : State) (n : Nat) : Bool :=
  match (s.inst n).roster.step with
  | some st => decide (st.phase = 1) && (s.ranks n).any (fun r =>
      ((s.inst n).roster.digestsA.find? (fun d => d.rank == r)).any (fun d => d.step != st.number || d.bell != st.bell))
  | none => false

/-- Members that do not serve the same steps: the instance is dismissed with PEER_LOST. -/
def State.startMismatch (s : State) (n m : Nat) : State := s.dismissAtOnce { fault 0x1805 { die := dieK0 } with inst := n, address := m } 8

/-- Check the digests held for the round. -/
def State.checkStart (s : State) (n : Nat) : State := if s.mismatched n then s.startMismatch n 0 else s

/-- Send a digest to every other member, and hold one's own. -/
def State.sendDigest (s : State) (n : Nat) (d : Digest) : State :=
  let s := s.tellPeers n (5 + d.round) d.rank d.step (digestBytes d)
  let s := s.onStep n (fun st => { st with sentAt := s.now })
  s.onRoster n (fun r => if d.round = 0 then { r with digestsA := r.digestsA ++ [d] } else { r with digestsB := r.digestsB ++ [d] })

/-- Phase 7 begins: the audit, then round A. -/
def State.roundASend (s : State) (n : Nat) : State :=
  match (s.inst n).roster.step with
  | none => s
  | some st =>
    if (s.inst n).bind.state ≠ .serving ∨ st.phase ≠ 0 ∨ !(st.void || (s.inst n).roster.fencePending.isSome || s.workDone n st) then s
    else
      let s := if st.void then s else s.arrivalAudit n
      let s := s.onRoster n (fun r => { r with cmds := markSent (s.ent (instIdx n 0x50) 8) r.cmds })
      let st := ((s.inst n).roster.step).getD st
      let d := s.digestA n st
      let s := s.onStep n (fun st => { st with phase := 1, void := d.void })
      (s.sendDigest n d).checkStart n

def execRoundASend (inst : Nat) (s : State) : Host.Outcome State Fault Refusal := unitOf numInsts inst (s.roundASend inst)

/-- A member's digest arrives: held for its round; an index that does not serve here is answered with NOT_SERVING (R222). -/
def State.takeDigest (s : State) (sender : Nat) (d : Digest) : State :=
  if (s.inst d.inst).bind.state ≠ .serving then s.sendPacket dieK0 (controlPacket sender 0x38 d.inst [])
  else
    let s := s.onRoster d.inst (fun r => if d.round = 0 then { r with digestsA := r.digestsA ++ [d] } else { r with digestsB := r.digestsB ++ [d] })
    s.checkStart d.inst

def execDigestReceive (sender : Nat) (digest : Digest) (s : State) : Host.Outcome State Fault Refusal :=
  if digest.round < 2 then unitOf numInsts digest.inst (s.takeDigest sender digest) else .fault (.noSuchUnit digest.round)

/-- NOT_SERVING from a member. -/
def State.peerNotServing (s : State) (n m : Nat) : State := if (s.inst n).bind.state = .serving then s.startMismatch n m else s

def execNotServing (inst sender : Nat) (s : State) : Host.Outcome State Fault Refusal := unitOf numInsts inst (s.peerNotServing inst sender)

/-- The first step's digest of some member is missing one period after this module's own. -/
def State.firstDigestTimeout (s : State) (n : Nat) : State :=
  match (s.inst n).roster.step with
  | some st =>
    if (s.inst n).bind.state = .serving ∧ st.phase = 1 ∧ st.number = 1 ∧ (roundOf (s.ranks n) (s.inst n).roster.digestsA).isNone then
      (s.reach (st.sentAt + s.ent (instIdx n 0x80) 1)).startMismatch n 0
    else s
  | none => s

def execFirstStepDigestTimeout (inst : Nat) (s : State) : Host.Outcome State Fault Refusal := unitOf numInsts inst (s.firstDigestTimeout inst)

/-! ## Dismissal (R232) -/

/-- Post the results that a step end holds. -/
def State.postResults (s : State) (n step : Nat) : State :=
  let l := (s.inst n).roster.results
  (l.foldl (fun s r => s.complete r.1 r.2 0 step) s).onRoster n (fun r => { r with results := [] })

/-- The instance enters `DISMISSING`: no step list is built, its step starts leave the Timetable, every entry is ended with a
final record. Commands that wait complete with NOT_SERVING (log entry 24). -/
def State.startDismissal (s : State) (n why : Nat) : State :=
  let bell := ((s.inst n).roster.step.map (·.bell)).getD s.now
  let step := s.stepOf n
  let s := (s.setBind n .dismissing).dropTimetable n
  let s := s.onRoster n (fun r => { r with dismiss := true, dismissReason := why, backlog := [], step := none, digestsA := [], digestsB := [] })
  let s := s.onReq n (fun q => { q with posted := [] })
  let s := (s.entriesInUse n).foldl (fun s e =>
    if (s.entry n e).state = 6 then s
    else ((s.onEntry n e (fun x => { x with state := 6, endReason := why })).finalRecord n e bell why)) s
  let s := s.postResults n step
  let waiting := (s.inst n).roster.cmds.filterMap (·.ref)
  let s := s.onRoster n (fun r => { r with cmds := [] })
  waiting.foldl (fun s r => s.complete r 0x0708 0 step) s

/-- The dismissal completes: cores released, the event posted, pages and rings returned, the index `FREE`. -/
def State.finishDismissal (s : State) (n : Nat) : State :=
  if (s.inst n).bind.state ≠ .dismissing then s
  else
    let r := (s.inst n).roster
    let step := s.stepOf n
    let s := s.startDismissal n (if r.dismissReason = 0 then 7 else r.dismissReason)
    let s := s.releaseLocal n
    let s := s.postEvent 2 (le 1 n ++ zeros 1 ++ le 2 r.dismissCause ++ zeros 4 ++ le 8 step)
    s.freeIndex n

def execDismissalComplete (inst : Nat) (s : State) : Host.Outcome State Fault Refusal := unitOf numInsts inst (s.finishDismissal inst)

/-! ## The commit of round A (R220) -/

/-- Row 3's counts of home tokens (09 R263). -/
def State.countTokens (s : State) (n : Nat) (st : StepSt) (ds : List Digest) : State :=
  let t := (recordsOf ds 0x01).map (fun r => r.2.entry)
  let mine := st.drawn.filter (fun d => !d.failed && decide (d.entry ∈ t))
  (s.bump (instIdx n 0x60) 0xA mine.length).bump (instIdx n 0x60) 0xB (mine.filter (·.truncated)).length

/-- Rows 1 to 7. -/
def State.applyRoundA (s : State) (n : Nat) (st : StepSt) (ds : List Digest) (commit : Bool) : State :=
  let bad := ds.any (fun d => d.crc != (s.inst n).roster.crc)
  let s := if bad then s.raiseDismiss { fault 0x1803 { die := dieK0 } with inst := n } 7 else s
  let ended := (recordsOf ds 0x02).map (fun r => r.2.entry)
  let s : State := if commit then
      let s := ((s.commitRows n st ds).requestEnds n ds).budgetRow n st ds
      let s := (s.commitTokens n st.bell ended).countTokens n st ds
      s.onRoster n (fun r => { r with committed := r.committed + 1 })
    else s.onReq n (fun q => { q with posted := [] })
  let s := (s.ringRows n ds).commandRows n st.number st.bell ds
  (s.applyWalks n st.number).lockstepRow n st.number

/-- Row 8: the die's fallback binding is adopted on the module that named it (R231). -/
def State.applyFence (s : State) (n : Nat) (ds : List Digest) : State :=
  let own := (s.inst n).bind.place.rank
  match ds.find? (fun d => d.rank == own && d.fence) with
  | some _ => s.adoptFallback n
  | none => s

/-- Copy pages of the chunks that this step carried and did not use are freed (07 R194). -/
def State.freeCopies (s : State) (n : Nat) (st : StepSt) : State :=
  let v := (s.inst n).kv
  let mine := v.copyPages.filter (fun (x : Nat × Nat) => st.rows.any (fun r => r.prefill && r.entry == cacheEntry (x.1 / 2 ^ 20) && r.first / 16 == x.1 % 2 ^ 20))
  let s := s.onKv n (fun v => { v with copyPages := v.copyPages.filter (fun (x : Nat × Nat) => !decide (x ∈ mine)) })
  mine.foldl (fun s x => s.freePage x.2 n (cacheEntry (x.1 / 2 ^ 20))) s

/-- PREFILL_DENIED of this module: candidates with a page that was not granted (R224). -/
def State.denials (s : State) (n : Nat) : List DigestRec :=
  let r := (s.inst n).roster
  (r.cand.zipIdx.filter (fun c => (s.inst n).kv.wants.any (fun w => w.entry == c.1.entry))).map (fun c =>
    { kind := 0x13, entry := c.1.entry, arg32 := c.2, seqId := c.1.seqId })

/-- READY of this module (R212, R214): owed pages granted, bit 3; swapped pages back, bit 4. -/
def State.readies (s : State) (n : Nat) : List DigestRec :=
  let r := (s.inst n).roster
  let owed := (r.pressParked.filter (fun e => !(s.owed n).any (fun o => cacheEntry o.1 == e))).map (fun e =>
    ({ kind := 0x12, arg8 := 3, entry := e, seqId := (s.entry n e).seqId } : DigestRec))
  let back := ((s.swapIns n).filter (fun e => (s.hostPages n e).isEmpty)).map (fun e =>
    ({ kind := 0x12, arg8 := 4, entry := e, seqId := (s.entry n e).seqId } : DigestRec))
  owed ++ back

/-- PRESSURE_PARK of this module: owed pages that the pass did not grant, and the victims of a swap (07 R203, R206). -/
def State.parks (s : State) (n : Nat) (victims : List Nat) : List DigestRec :=
  let owed := ((s.owed n).map (fun o => cacheEntry o.1)).eraseDups.filter (fun e => !decide (e ∈ (s.inst n).roster.pressParked))
  owed.map (fun e => ({ kind := 0x11, arg8 := 3, entry := e, seqId := (s.entry n e).seqId } : DigestRec)) ++
  victims.map (fun e => ({ kind := 0x11, arg8 := 4, entry := e, seqId := (s.entry n e).seqId } : DigestRec))

/-- Each sequence that action 4 parks is logged and counted (07 R208). -/
def State.logParks (s : State) (n : Nat) (l : List DigestRec) : State :=
  (l.filter (fun r => r.arg8 == 3)).foldl (fun s r =>
    let s := (s.bump (instIdx n 0x40) 0xC).onRoster n (fun q => { q with pressParked := q.pressParked ++ [r.entry] })
    s.raise { fault 0x1705 { die := dieK0, unit := 3, locA := r.entry } with inst := n, owner := r.entry, seqId := r.seqId,
                                                                              detail := ((s.owed n).filter (fun o => cacheEntry o.1 == r.entry)).length }) s

/-- The local step-end actions (R218, step 3), then round B. -/
def State.localEnd (s : State) (n : Nat) (st : StepSt) (commit : Bool) : State :=
  let s := (s.releaseEnded n st.bell).cacheStepEnd n commit
  let p := if commit then (s.resealPages n).pressure n else (s, [])
  let k := p.1.keeperStepEnd n commit
  let s := ((k.1.payAll n k.2).trimWants n).freeCopies n st
  let s := s.foldMasses n commit
  let s := if commit then s.applyWaitingSettings n else s
  let s := (s.foldTelemetry n st.bell commit).countStorm n
  let s := s.flushMerged n
  let parks := if commit then s.parks n p.2 else []
  let s := (s.logParks n parks).refreshOwed n
  let ready := s.readies n
  let s := s.onRoster n (fun r => { r with pressParked := r.pressParked.filter (fun e => !ready.any (fun x => x.arg8 == 3 && x.entry == e)) })
  let d : Digest := { round := 1, inst := n, rank := (s.inst n).bind.place.rank, step := st.number, bell := st.bell, records := parks ++ ready ++ s.denials n }
  s.sendDigest n d

/-- A round that completes more than 12 µs after this module's own send (13 R380). -/
def State.noteSlow (s : State) (n : Nat) : State :=
  s.onStep n (fun st => { st with slow := st.slow || decide (st.sentAt + 12 * ticksPerUs < s.now) })

/-- All round A digests are held: commit. -/
def State.roundACommit (s : State) (n : Nat) : State :=
  match (s.inst n).roster.step with
  | none => s
  | some st =>
    if st.phase ≠ 1 ∨ (s.inst n).bind.state ≠ .serving then s
    else match roundOf (s.ranks n) (s.inst n).roster.digestsA with
      | none => s
      | some ds =>
        let commit := !ds.any (·.void)
        let s := (s.onRoster n (fun r => { r with digestsA := dropRound (s.ranks n) r.digestsA })).noteSlow n
        let s := s.onStep n (fun st => { st with phase := if commit then 2 else 3 })
        let s := s.applyRoundA n st ds commit
        let fenced := ds.any (fun d => d.rank == (s.inst n).bind.place.rank && (d.fence || d.dismiss))
        let s := s.applyFence n ds
        let s := if fenced then s.onRoster n (fun r => { r with fencePending := none }) else s
        if ds.any (·.dismiss) then
          let r := (s.inst n).roster
          s.startDismissal n (if r.dismissReason = 0 then 7 else r.dismissReason)
        else (s.localEnd n st commit).renewLimit n

def execRoundACommit (inst : Nat) (s : State) : Host.Outcome State Fault Refusal := unitOf numInsts inst (s.roundACommit inst)

/-! ## Round B -/

/-- Rows 9 and 10: PRESSURE_PARK, READY. A swapped sequence is ready when every member reports its pages back. -/
def State.parkRows (s : State) (n : Nat) (ds : List Digest) (commit : Bool) : State :=
  let parks := if commit then recordsOf ds 0x11 else []
  let s := parks.foldl (fun s r =>
    let s := s.setPark n r.2.entry (if r.2.arg8 = 4 then 4 else 3)
    if r.2.arg8 = 4 then s.onEntry n r.2.entry (fun x => if x.state = 4 then { x with swappedOut := true } else x) else s) s
  let ready := recordsOf ds 0x12
  let s := (ready.filter (fun r => r.2.arg8 != 4)).foldl (fun s r => s.clearPark n r.2.entry r.2.arg8) s
  let all := (ready.filter (fun r => r.2.arg8 == 4)).map (fun r => r.2.entry)
  (all.eraseDups.filter (fun e => decide (all.count e = (s.ranks n).length))).foldl (fun s e =>
    s.onEntry n e (fun x =>
      if x.state = 5 then { x with swappedOut := false, state := runState x, resumed := true }
      else { x with swappedOut := false })) s

/-- Row 11: PREFILL_DENIED. -/
def State.denialRows (s : State) (n : Nat) (ds : List Digest) : State :=
  let l := recordsOf ds 0x13
  let s := s.bump (instIdx n 0x50) 9 l.length
  s.onRoster n (fun r => { r with cand := r.cand.zipIdx.map (fun c => if l.any (fun x => x.2.arg32 == c.2) then { c.1 with denied := true } else c.1) })

/-- Row 12: `ENDING` entries become `FREE`; their rings are released (19 R516). -/
def State.freeEnded (s : State) (n : Nat) : State :=
  (s.entriesInUse n).foldl (fun s e =>
    let en := s.entry n e
    if en.state = 6 then
      let s := s.onEntry n e (fun _ => {})
      let s := s.onRoster n (fun r => { r with pressParked := r.pressParked.filter (· != e), faulted := r.faulted.filter (fun f => f.1 != e) })
      if s.isHome n en then
        (s.onRing en.ring (fun r => if r.assigned = some (n * 65536 + e) then { r with assigned := none } else r)).onReq n (fun q => { q with lastBell := serase q.lastBell en.ring })
      else s
    else s) s

/-- The step record and the lateness bin (13 R379, R380). -/
def State.stepRecord (s : State) (n : Nat) (st : StepSt) (commit : Bool) : State :=
  let p := s.ent (instIdx n 0x80) 1
  let past := s.now - (st.bell + p)
  let L := min 0xFFFFFFFF (if commit then past else p + past)
  let delay := min 0xFFFFFFFF (st.started - st.bell)
  let recess := ((List.range 16).map (fun d => sget 0 s.pwr.recess d - sget 0 st.recessBase d)).foldl max 0
  let late := decide (p < Config.stepEstimate n s.free * ticksPerUs) && (s.inst n).bind.recomputing
  let reasons := maskOf (((List.range 7).zip [decide (0 < recess), !commit, st.slow, decide (0 < delay), st.unlocked, late, st.lateKv]).filterMap (fun x => if x.2 then some x.1 else none))
  let b := le 8 st.number ++ le 8 st.bell ++ le 4 L ++ le 4 delay ++ le 4 (min 0xFFFFFFFF recess) ++ le 2 reasons ++ zeros 2
  let bin := if L = 0 then 0 else if 20 * L ≤ p then 1 else if 4 * L ≤ p then 2 else if L ≤ p then 3 else 4
  let s := s.setEnt 0x2010 2 (min 0xFFFFFFFF recess)
  let s := s.onLock n (fun l => { l with lastRecord := b, histogram := l.histogram.modify bin (fun c => (c + 1) % 2 ^ 64) })
  let s := if 0 < L then s.bump (instIdx n 0x80) 5 else s
  let s := if commit then s else s.bump (instIdx n 0x80) 6
  s.setEnt (instIdx n 0x80) 7 (max (s.ent (instIdx n 0x80) 7) L)

/-- Copies of the last layers' prefetch are dropped with the step. -/
def State.endPrefetch (s : State) (n : Nat) : State := s.dropPrefetch n 1024

/-- All round B digests are held: rows 9 to 12, insertion, window releases, the final replica; then the next waiting step. -/
def State.roundBApply (s : State) (n : Nat) (prompts : List (Nat × Option (List Nat))) (masks : List (Nat × Option Bytes)) : State :=
  match (s.inst n).roster.step with
  | none => s
  | some st =>
    if st.phase < 2 ∨ (s.inst n).bind.state ≠ .serving then s
    else match roundOf (s.ranks n) (s.inst n).roster.digestsB with
      | none => s
      | some ds =>
        let commit := decide (st.phase = 2)
        let s := (s.onRoster n (fun r => { r with digestsB := dropRound (s.ranks n) r.digestsB })).noteSlow n
        let s := ((s.parkRows n ds commit).denialRows n ds).freeEnded n
        let s := (s.pruneLessons n).insertPrefixes n st.number st.rows
        let s := if commit then s.windowRelease n else s
        let s := s.endPrefetch n
        let s := s.stepRecord n (((s.inst n).roster.step).getD st) commit
        let s := s.onRoster n (fun r => { r with step := none })
        let s := (s.onRoster n (fun r => { r with crc := s.replicaCrc n })).onReq n (fun q => { q with budgetsFinal := q.budgets })
        (s.postResults n st.number).buildStep n prompts masks

def execRoundBApply (inst : Nat) (prompts : List (Nat × Option (List Nat))) (masks : List (Nat × Option Bytes)) (s : State) :
    Host.Outcome State Fault Refusal := unitOf numInsts inst (s.roundBApply inst prompts masks)

/-! ## Roster commands at submission (R215 to R217) -/

/-- A command waits for the next digest. -/
def State.queueCmd (s : State) (n : Nat) (r : DigestRec) (ref : Option CmdRef) : State :=
  s.onRoster n (fun q => { q with cmds := q.cmds ++ [{ record := r, ref }] })

/-- A command on a sequence at submission. -/
def State.submitCmd (s : State) (n kind arg8 seqId : Nat) (ref : CmdRef) : State :=
  if (s.inst n).bind.state ≠ .serving then s.complete ref 0x0708
  else s.queueCmd n { kind, arg8 := arg8 % 256, entry := if kind = 0x0A then 0xFFFF else (s.findSeq n seqId).getD 0xFFFF, seqId := if kind = 0x0A then 0 else seqId } (some ref)

def execRosterEnd (inst seqId : Nat) (ref : CmdRef) (s : State) : Host.Outcome State Fault Refusal := unitOf numInsts inst (s.submitCmd inst 0x05 0 seqId ref)
def execPark (inst seqId : Nat) (ref : CmdRef) (s : State) : Host.Outcome State Fault Refusal := unitOf numInsts inst (s.submitCmd inst 0x06 0 seqId ref)
def execResume (inst seqId : Nat) (ref : CmdRef) (s : State) : Host.Outcome State Fault Refusal := unitOf numInsts inst (s.submitCmd inst 0x07 0 seqId ref)
def execPriority (inst seqId value : Nat) (ref : CmdRef) (s : State) : Host.Outcome State Fault Refusal :=
  unitOf numInsts inst (s.submitCmd inst 0x08 value seqId ref)
def execInterleave (inst value : Nat) (ref : CmdRef) (s : State) : Host.Outcome State Fault Refusal :=
  unitOf numInsts inst (s.submitCmd inst 0x0A value 0 ref)

/-- Tokens of the prompt that the home module sends ahead: 64 × c (09 R237). -/
def matchTokens (a : AdmitArgs) (most : Nat) : Nat :=
  if scopeOf a.sampling = 0 then 0 else 64 * min ((a.promptLen - 1) / 64) (most / 64)

/-- ADMIT at submission: NOT_SERVING, BAD_RING, BAD_LESSON, HOST_READ_FAILED, then the ring is reserved and the data sent. -/
def State.admitSeq (s : State) (n : Nat) (a : AdmitArgs) (prompt bias : Option (List Nat)) (ref : CmdRef) : State :=
  let need := matchTokens a (s.ent (instIdx n 0x60) 2)
  let biases := field a.sampling 0x1E 2
  if (s.inst n).bind.state ≠ .serving then s.complete ref 0x0708
  else if 12288 ≤ a.ring ∨ (s.ring a.ring).assigned.isSome ∨ !(s.ring a.ring).enable ∨ (s.ring a.ring).kind ≠ 1 then s.complete ref 0x0703
  else if a.lesson ≠ 0xFFFF ∧ !(s.inst n).req.lessons.any (fun l => l.1 == a.lesson) then s.complete ref 0x0709
  else if (0 < need ∧ prompt.isNone) ∨ (0 < biases ∧ bias.isNone) then s.complete ref 0x0904
  else
    let tokens := ((prompt.getD []).take need).map (· % 2 ^ 32)
    let words := ((bias.getD []).take (2 * biases)).flatMap (le 4)
    let s := if need = 0 then s else s.tellPeers n 1 0 a.seqId (tokens.flatMap (le 4))
    let s := if biases = 0 then s else s.tellPeers n 2 0 a.seqId words
    let s := s.onReq n (fun q => { q with incoming := onIncoming q.incoming a.seqId (fun _ => { seqId := a.seqId, tokens, bias := words }) })
    let s := s.onRing a.ring (fun r => { r with assigned := some (n * 65536 + 0xFFFF) })
    let p : RosterEntry := {
      seqId := a.seqId, priority := a.priority % 256, cls := a.cls % 256, home := (s.inst n).bind.place.rank, ring := a.ring
      tenant := a.tenant, lesson := a.lesson, promptLen := a.promptLen, maxPositions := a.maxPositions, maxNew := a.maxNew, kvRoots := noRoots
      sampling := padTo 64 a.sampling, promptAddr := a.promptAddr, prefixNode := noNode }
    s.queueCmd n { kind := 0x09, seqId := a.seqId, proposed := some p } (some ref)

def execRosterAdmit (inst : Nat) (args : AdmitArgs) (prompt bias : Option (List Nat)) (ref : CmdRef) (s : State) : Host.Outcome State Fault Refusal :=
  unitOf numInsts inst (s.admitSeq inst args prompt bias ref)

end Sys2Proof.Machine
end

