-- ==== Sys2Proof/Machine/Binding.lean ====
section
/-! DEFINITION. Binding an index: the queue, the resources, the claim, BOUND, START, RELEASE, DISMISS and the timeouts
(02_syllabus.md R52 to R64, R68; 06_memory_tiers.md R164, R177; 13_bell_timetable.md R376, R378). -/

namespace Sys2Proof.Machine

/-! ## Resources (R58, R61, R62, R68) -/

/-- A shortfall: resource, scope, needed, available. -/
structure Shortfall where
  resource : Nat
  scope : Nat := 0xFFFF
  needed : Nat
  available : Nat
  deriving DecidableEq, Repr

/-- Working logical cores of a compute die: at most 24 per tile. -/
def State.dieCores (s : State) (d : Nat) : Nat :=
  if s.dieWorks d then ((List.range 48).map (fun t => min 24 (s.goodCores d t))).sum else 0

/-- Working cores of the module. -/
def State.allCores (s : State) : Nat := ((List.range 16).map s.dieCores).sum

/-- The feature bits that the firmware grants (R51). -/
def State.grantedSet (s : State) : Nat := if s.ent 0x2500 6 = 1 then 0xF else 0x1FFF

/-- Extents of this module's share of a tensor (19 R522). -/
def shareDims (p : Placement) (t : TensorRec) : List Nat :=
  if t.shardAxis = 0xFF then t.dims
  else
    let b := shardBounds p t
    (t.dims.zipIdx).map (fun e => if e.2 = t.shardAxis then b.getD (p.rank + 1) 0 - b.getD p.rank 0 else e.1)

/-- Bytes of this module's share of a tensor; a mixed-width one by its package's parts or by the greatest they can be (04 R115). -/
def State.shareBytes (s : State) (p : Placement) (t : TensorRec) : Nat :=
  let l := linesOf (shareDims p t) t.redAxis 0xFF 0
  if t.elemFmt = 0xFF then
    match s.package p.packageId with
    | some k => ((keptParts k.table p t).map (fun e => pageBytes * pagesOf e.2.plainLen)).sum + 8 * l.1
    | none => l.1 * (l.2 / blockSize t.block) * (blockSize t.block + 1) + 8 * l.1
  else
    match (if sourced t then s.package p.packageId else none) with
    | some k => ((keptParts k.table p t).map (fun e => pageBytes * pagesOf e.2.plainLen)).sum
    | none => canonLen t.elemFmt t.scaleFmt t.block l.1 l.2

/-- Whole pages of it. -/
def State.sharePages (s : State) (p : Placement) (t : TensorRec) : Nat := pagesOf (s.shareBytes p t)

/-- HBM bytes that bindings may use: capacity in service less the reserve and the other reservations (R53). -/
def State.hbmForBindings (s : State) (n : Nat) : Nat :=
  let frames := ((List.range 4).map (fun d => (s.book false d).total)).sum
  let others := ((s.insts.filter (fun (e : Nat × InstSt) => e.1 != n)).map (fun e => (s.pool (1 + e.1)).quota)).sum
  (frames - 49152 - others) * pageBytes

/-- Library bytes free (R58); 0 on -L0. -/
def State.libForBindings (s : State) : Nat := if s.library then poolFree (s.pool 66) * pageBytes else 0

/-- Caches of a layer group that the placement puts on this module (07 R185, R548). -/
def groupCaches (g : LayerGroup) : Nat := g.layerN * g.hgN

/-- The KV reserve in bytes (R46, R58): KV_BYTES is the larger of the declared figure and that of the widest layer; each cache counts
KV_BYTES / HEAD_GROUPS bytes per position, the whole rounded up once. -/
def kvReserve (prog : Program) (p : Placement) : Nat :=
  let gs := layerGroups prog p
  let kv16 := gs.foldl (fun m g => max m (groupBytes g * g.headGroups)) (prog.needs.kvBytes * 16)
  let total := gs.foldl (fun (q : Nat × Nat) g =>
    let pos := if g.variant = 1 then min p.minContext g.window else p.minContext
    (q.1 * max 1 g.headGroups + groupCaches g * pos * kv16 * q.2, q.2 * max 1 g.headGroups)) (0, 16)
  (p.minSeq * total.1 + total.2 - 1) / total.2

/-- The computed work buffer: staging slots and 6 KiB per sequence, the prefix tree by its node limit (07 R191; 09 R235, R245). -/
def workBuffer (prog : Program) (p : Placement) (nodes : Nat) : Nat :=
  let gs := layerGroups prog p
  p.maxSeq * ((gs.map (fun g => groupCaches g * roundUp 256 (64 + 64 * (g.lw + g.rw)))).sum + 6144) +
    nodes * (320 + 8 * (gs.map groupCaches).sum)

/-- The work buffer: the larger of the declared and the computed figure (R46). -/
def State.workBytes (s : State) (n : Nat) (prog : Program) (p : Placement) : Nat :=
  max prog.needs.workBytes (workBuffer prog p (s.ent (instIdx n 0x60) 1))

/-- The outcome of placing tensors in the tiers. -/
structure Placing where
  hbm : Nat
  lib : Nat
  tiers : List (Nat × Tier) := []
  copies : List Nat := []
  /-- Bytes asked of each tier, and whether one fell short. -/
  needH : Nat := 0
  needL : Nat := 0
  shortH : Bool := false
  shortL : Bool := false
  deriving DecidableEq, Repr

def Placing.inHbm (a : Placing) (t size : Nat) : Placing := { a with hbm := a.hbm - size, tiers := a.tiers ++ [(t, .hbm)], needH := a.needH + size }
def Placing.inLib (a : Placing) (t size : Nat) : Placing := { a with lib := a.lib - size, tiers := a.tiers ++ [(t, .library)], needL := a.needL + size }

/-- Place one weight or constant by its hint (R58). -/
def placeOne (lib0 : Bool) (a : Placing) (t : TensorRec) (size : Nat) : Placing :=
  if t.hint = 1 then (if size ≤ a.hbm then a.inHbm t.id size else { a with needH := a.needH + size, shortH := true })
  else if (t.hint = 3 ∨ t.hint = 4) ∧ !lib0 then
    if size ≤ a.lib then a.inLib t.id size
    else if size ≤ a.hbm then a.inHbm t.id size
    else { a with needL := a.needL + size, shortL := true }
  else if size ≤ a.hbm then a.inHbm t.id size
  else if size ≤ a.lib then a.inLib t.id size
  else { a with needH := a.needH + size, shortH := true }

/-- Where every tensor goes (R58). -/
def State.placing (s : State) (n : Nat) (prog : Program) (p : Placement) : Placing :=
  let size (t : TensorRec) : Nat := s.sharePages p t * pageBytes
  let sumOf (l : List Nat) : Nat := ((prog.tensors.filter (fun t => decide (t.cls ∈ l))).map size).sum
  let work := s.workBytes n prog p
  let reserve := work + kvReserve prog p + sumOf [1, 4, 5]
  let hbm := s.hbmForBindings n
  let lib := s.libForBindings
  let fixed := prog.tensors.filter (fun t => decide (t.cls ∈ [1, 4, 5]))
  let a : Placing := { hbm := hbm - reserve, lib, needH := reserve, shortH := decide (hbm < reserve), tiers := fixed.map (fun t => (t.id, Tier.hbm)) }
  let ws := prog.tensors.filter (fun t => decide (t.cls ∈ [0, 3, 6]))
  let byTouch (l : List TensorRec) : List TensorRec := sortBy (fun x y => decide (y.extra < x.extra) || (x.extra == y.extra && decide (x.id ≤ y.id))) l
  let a := (ws.filter (fun t => t.hint == 1)).foldl (fun a t => placeOne (lib == 0) a t (size t)) a
  let a := (byTouch (ws.filter (fun t => t.hint != 1))).foldl (fun a t => placeOne (lib == 0) a t (size t)) a
  (byTouch (ws.filter (fun t => t.hint == 4 && a.tiers.any (fun e => e.1 == t.id && e.2 == .library)))).foldl (fun a t =>
    if size t ≤ a.hbm then { a with hbm := a.hbm - size t, copies := a.copies ++ [t.id], needH := a.needH + size t } else a) a

/-- The proposed step period in µs (R61): the least multiple of 500 that is 1.05 times the estimate or more. -/
def proposedPeriod (est : Nat) : Nat := 500 * ((105 * est + 49999) / 50000)

/-- Compute dies whose loss a fallback binding covers (R62, R63). -/
def State.fallbacks (s : State) (minCores : Nat) : List Nat :=
  (List.range 16).filter (fun d => decide (0 < s.dieCores d) && decide (max 1 minCores ≤ s.allCores - s.dieCores d))

/-- Serving ways that index `n` could hold alone: two stay shared (06 R164). -/
def State.waysFree (s : State) (n : Nat) : List Nat :=
  let held := (s.mem.ways.filter (fun w => w.2 != n)).map (·.1)
  ((List.range 16).filter (fun w => (s.ent 0x2212 1).testBit w && !decide (w ∈ held))).reverse

/-- Every shortfall, in ascending resource and scope (R66 step 10, R68; log entry 28). -/
def State.shortfalls (s : State) (n : Nat) (prog : Program) (p : Placement) : List Shortfall :=
  let a := s.placing n prog p
  let cores := s.allCores
  let ways := s.ent (instIdx n 0x30) 1
  let est := proposedPeriod (Config.stepEstimate n s.free)
  let fb := s.fallbacks prog.needs.minCores
  let stored := Config.storedBindingBytes n s.free
  let used := ((s.insts.filter (fun (e : Nat × InstSt) => e.1 != n)).map (fun e => e.2.bind.storedBytes)).sum
  let one (bad : Bool) (x : Shortfall) : List Shortfall := if bad then [x] else []
  one a.shortH { resource := 1, needed := a.needH, available := s.hbmForBindings n } ++
  one a.shortL { resource := 2, needed := a.needL, available := s.libForBindings } ++
  one (decide (cores < prog.needs.minCores)) { resource := 4, needed := prog.needs.minCores, available := cores } ++
  one s.emptyEntry.isNone { resource := 8, needed := 1, available := 0 } ++
  one (decide ((s.waysFree n).length < ways + 2) && decide (0 < ways)) { resource := 9, needed := ways, available := (s.waysFree n).length - 2 } ++
  one (decide (p.maxPeriod < est)) { resource := 10, needed := est, available := p.maxPeriod } ++
  one (decide (1 < p.modules) && s.ent 0x2000 1 == 1) { resource := 11, needed := 0, available := 1 } ++
  (if p.fullFallback then ((List.range 16).filter (fun d => decide (0 < s.dieCores d) && !decide (d ∈ fb))).map (fun d =>
    { resource := 12, scope := d, needed := 1, available := 0 }) else []) ++
  one (decide (503316480 < used + stored)) { resource := 14, needed := stored, available := 503316480 - used }

/-- The report of R68. -/
def reportBytes (code rank : Nat) (id : Bytes) (l : List Shortfall) : Bytes :=
  le 2 code ++ le 2 (min 16 l.length + if 16 < l.length then 0x8000 else 0) ++ le 4 rank ++ padTo 16 id ++ zeros 8 ++
  (l.take 16).flatMap (fun x => le 2 x.resource ++ le 2 x.scope ++ zeros 4 ++ le 8 x.needed ++ le 8 x.available)

/-! ## BIND (R52) -/

/-- A BIND that is refused where it arrives, or queued. -/
def State.bindCommand (s : State) (n : Nat) (syllabus placement : Option Bytes) (reportAddr : Nat) (ref : CmdRef) : State :=
  if s.wakeStage ≠ 0x21 then s.complete ref 0x0F01
  else if (s.inst n).bind.state ≠ .free then s.complete ref 0x0502
  else if 4 ≤ s.binder.length then s.complete ref 0x0503
  else
    match syllabus, placement with
    | some _, some p =>
      if !placementForm p then s.complete ref 0x1002
      else
        let s : State := { s with binder := s.binder ++ [n] }
        s.onBind n (fun b => { b with state := .binding, job := some { syllabus, placement, reportAddr, ref }, restarted := false, claimed := false })
    | _, _ => s.complete ref 0x1003

def execBind (inst : Nat) (syllabus placement : Option Bytes) (reportAddr : Nat) (ref : CmdRef) (s : State) : Host.Outcome State Fault Refusal :=
  unitOf numInsts inst (s.bindCommand inst syllabus placement reportAddr ref)

/-- A binding is refused: report, completion, `FREE` (R55, R68). -/
def State.refuseBinding (s : State) (n code : Nat) (job : BindJob) (l : List Shortfall) : State :=
  let p := parsePlacement (job.placement.getD [])
  let s := if code = 0x0401 then s.hostPut job.reportAddr (reportBytes code p.rank (slice (job.syllabus.getD []) 0x30 16) l) else s
  s.endBinding n code

/-! ## The binder at work (R66, R177) -/

/-- Runs of the placed tensors, then of the work buffer, under `noTensor`: page numbers of the region in ascending order (11 R315;
log entry 29). -/
def State.runsFor (s : State) (n : Nat) (prog : Program) (p : Placement) (tiers : List (Nat × Tier)) : List (Nat × Nat × Nat) :=
  let r := (prog.tensors.filter (fun t => tiers.any (fun e => e.1 == t.id))).foldl (fun (acc : Nat × List (Nat × Nat × Nat)) t =>
    let k := s.sharePages p t
    (s.runEnd acc.1 k, acc.2 ++ [(t.id, s.runPage acc.1 0, k)])) (n * 2 ^ 26, [])
  r.2 ++ [(noTensor, s.runPage r.1 0, pagesOf (s.workBytes n prog p))]

/-- The claim of a binding on the growth pool (R177): what is free at once, the rest as pages return. -/
def State.claimPages (s : State) (n want : Nat) : State :=
  let q := (s.pool (1 + n)).quota
  let s := (s.onPool (1 + n) (fun p => { p with quota := 0 })).onPool 65 (fun p => { p with quota := p.quota + q })
  let got := min want (poolFree (s.pool 65))
  let s := (s.onPool 65 (fun p => { p with quota := p.quota - got })).onPool (1 + n) (fun p => { p with quota := p.quota + got })
  { s with mem := { s.mem with claim := if got = want then none else some { inst := n, want, got, since := s.now } } }

/-- The binder checks the binding at the head of its queue. -/
def State.runBinding (s : State) : State :=
  match s.binder.head? with
  | none => s
  | some n =>
    match (s.inst n).bind.job with
    | none => s
    | some job =>
      if (s.inst n).bind.claimed then s
      else
        let b := job.syllabus.getD []
        let p := parsePlacement (job.placement.getD [])
        let code := syllabusCode b s.grantedSet
        if code ≠ 0 then s.refuseBinding n code job []
        else
          let prog := parseProgram b s.grantedSet
          let c := firstBad [(s.placementCode prog p == 0, s.placementCode prog p), (s.packageOk prog p, 0x0501)]
          if c ≠ 0 then s.refuseBinding n c job []
          else
            let l := s.shortfalls n prog p
            if !l.isEmpty then s.fresh.refuseBinding n 0x0401 job l
            else
              let a := s.placing n prog p
              let want := pagesOf a.needH
              let est := proposedPeriod (Config.stepEstimate n s.free)
              let stored := Config.storedBindingBytes n s.free
              let s := s.onBind n (fun x => { x with
                program := prog, place := p, tiers := a.tiers, runs := s.runsFor n prog p a.tiers, hbmPages := want
                storedBytes := stored, claimed := true })
              let s := s.setEnt (instIdx n 0x10) 4 est
              (s.claimPages n want).fresh

def execBindingRun (s : State) : Host.Outcome State Fault Refusal := done s.runBinding

/-- The pages of a run come into being, in HBM. -/
def State.createPages (s : State) (n holder pool first k : Nat) : State :=
  (s.runPages first k).foldl (fun (s : State) (page : Nat) =>
    match s.takeFrame false (keeperOf page) with
    | some f => s.createPage page f pool n holder 0
    | none => s) s

/-- The pages of a placed tensor; those of pieces that go to the Library are staged at ingest. -/
def State.createRun (s : State) (n : Nat) (t : TensorRec) (tier : Tier) (first k : Nat) : State :=
  if tier = .library ∧ sourced t then s
  else s.createPages n (if sourced t then 0x3FF2 else 0x3FF0) (if tier = .library then 0 else 1 + n) first k

/-- A constant's bytes come from the constant data section; its pages are sealed, and demoted where it is placed in the Library. -/
def State.fillConstant (s : State) (prog : Program) (p : Placement) (t : TensorRec) (tier : Tier) (first k : Nat) : State :=
  if t.cls ≠ 3 then s
  else
    let b := slice prog.constants t.source (s.shareBytes p t)
    let pages := s.runPages first k
    let s := (pages.zipIdx).foldl (fun (s : State) (e : Nat × Nat) =>
      { s with mem := { s.mem with bytes := putBytes s.mem.bytes (e.1 * pageBytes) (slice b (pageBytes * e.2) pageBytes) } }) s
    let s := pages.foldl State.sealNow s
    if tier = .library then pages.foldl (fun (s : State) (page : Nat) => (s.startMove page .library false false false).getD s) s else s

/-- The exclusive ways of an index: the highest serving ways that no other index holds (06 R164). -/
def State.takeWays (s : State) (n : Nat) : State :=
  let w := s.ent (instIdx n 0x30) 1
  { s with mem := { s.mem with ways := s.mem.ways.filter (fun e => e.2 != n) ++ ((s.waysFree n).take w).map (fun x => (x, n)) } }

/-- Settings and reports of an index that becomes `BOUND`. -/
def State.boundEntries (s : State) (n : Nat) : State :=
  let b := (s.inst n).bind
  let s := ((s.setEnt (instIdx n 0x10) 2 b.program.version).setEnt (instIdx n 0x10) 3 b.program.features).setEnt (instIdx n 0x10) 6 0
  let s := s.setEnt (instIdx n 0x10) 5 (maskOf (s.fallbacks b.program.needs.minCores))
  let s := (s.setEnt (instIdx n 0x40) 1 b.place.policy).setEnt (instIdx n 0x50) 2 b.place.weight
  s.setBlob (instIdx n 0x70) 1 b.place.packageId

/-- The binding is done once its claim is met: pages, ways, Timetable entry, pieces; the report is posted, the timer starts. -/
def State.bindingDone (s : State) : State :=
  match s.binder.head? with
  | none => s
  | some n =>
    let b := (s.inst n).bind
    match b.job with
    | none => s
    | some job =>
      if !b.claimed ∨ (s.pool (1 + n)).quota < b.hbmPages then s
      else
        let s : State := { s with binder := s.binder.drop 1, mem := { s.mem with claim := none } }
        let s := b.runs.foldl (fun (s : State) (r : Nat × Nat × Nat) =>
          match b.program.tensors[r.1]? with
          | none => if r.1 = noTensor then s.createPages n 0x3FF0 (1 + n) r.2.1 r.2.2 else s
          | some t =>
            let tier := ((b.tiers.find? (fun e => e.1 == r.1)).map (·.2)).getD .hbm
            (s.createRun n t tier r.2.1 r.2.2).fillConstant b.program b.place t tier r.2.1 r.2.2) s
        let s := s.takeWays n
        let s := match s.emptyEntry with
          | some e => { s with bell := { s.bell with table := sset {} s.bell.table e { inst := n, reserved := true } } }
          | none => s
        let s := s.onKv n (fun v => { v with groups := layerGroups b.program b.place })
        let s := match s.package b.place.packageId with
          | some pk => s.onInst n (fun i => { i with pieces := s.keptPieces n pk.table })
          | none => s
        let s := s.boundEntries n
        let s := s.onBind n (fun x => { x with state := .bound, job := none, timer := some (s.now + s.ent (instIdx n 0x10) 7 * ticksPerSec) })
        let s := s.hostPut job.reportAddr (reportBytes 0 b.place.rank b.program.syllabusId [])
        let s := s.complete job.ref 0
        -- dies that hold a model while the debug lock is open are fenced (14_firmware.md R399)
        if s.fw.debugOpen then (List.range 16).foldl (fun s d => s.fenceDie d true) s else s

def execBindingDone (s : State) : Host.Outcome State Fault Refusal := done s.bindingDone

/-- A claim that 90 s have not met ends its binding with a shortfall of HBM (R177). -/
def State.claimTimeout (s : State) : State :=
  match s.mem.claim with
  | none => s
  | some c =>
    let s := s.reach (c.since + 90 * ticksPerSec)
    match (s.inst c.inst).bind.job with
    | none => s
    | some job => s.refuseBinding c.inst 0x0401 job [{ resource := 1, needed := c.want * pageBytes, available := c.got * pageBytes }]

def execBindingClaimTimeout (s : State) : Host.Outcome State Fault Refusal := done s.claimTimeout

/-! ## START, RELEASE, DISMISS, timeouts (R55 to R57, R64, R378) -/

/-- Every piece that the placement names here is `CHECKED` (R57). -/
def State.weightsComplete (s : State) (n : Nat) : Bool :=
  let i := s.inst n
  i.pieces.all (fun p => p.state == 2) &&
  ((i.bind.program.tensors.filter sourced).isEmpty || !i.pieces.isEmpty || (s.package i.bind.place.packageId).isSome)

/-- START. -/
def State.startInst (s : State) (n first period : Nat) : State × Nat :=
  let b := (s.inst n).bind
  if s.wakeStage ≠ 0x21 then (s, 0x0F01)
  else if b.state ≠ .bound then (s, 0x0502)
  else if !s.weightsComplete n then (s, 0x0505)
  else if period < 400 * s.ent (instIdx n 0x10) 4 then (s, 0x0506)
  else if 1 < b.place.modules ∧ !s.inLockstep then (s, 0x0D01)
  else if first < s.now + ticksPerMs then (s, 0x0D02)
  else
    let put (e : Nat × TtEntry) : Nat × TtEntry :=
      if e.2.inst = n ∧ e.2.reserved then (e.1, { kind := 1, inst := n, repeats := 0, time := first, period := period, arg := 0, reserved := true }) else e
    let s : State := { s with bell := { s.bell with table := s.bell.table.map put } }
    let s := s.onBind n (fun x => { x with state := .serving, timer := none })
    let s := s.setEnt (instIdx n 0x80) 1 period
    (s.onRoster n (fun r => { r with crc := s.replicaCrc n }), 0)

def execStart (inst first period : Nat) (ref : CmdRef) (s : State) : Host.Outcome State Fault Refusal :=
  let r := s.startInst inst first period
  unitOf numInsts inst (r.1.complete ref r.2)

/-- RELEASE (R55). -/
def State.releaseBinding (s : State) (n : Nat) : State × Nat :=
  match (s.inst n).bind.state with
  | .binding => (s.endBinding n 0x0601, 0)
  | .bound => (s.freeIndex n, 0)
  | _ => (s, 0x0502)

def execRelease (inst : Nat) (ref : CmdRef) (s : State) : Host.Outcome State Fault Refusal :=
  let r := s.releaseBinding inst
  unitOf numInsts inst (r.1.complete ref r.2)

/-- DISMISS (R55; 08_roster.md R232). -/
def State.dismissCommand (s : State) (n : Nat) : State × Nat :=
  match (s.inst n).bind.state with
  | .binding => (s.endBinding n 0x0601, 0)
  | .bound => (s.freeIndex n, 0)
  | .serving => (s.dismissInst n 7, 0)
  | _ => (s, 0x0502)

def execDismiss (inst : Nat) (ref : CmdRef) (s : State) : Host.Outcome State Fault Refusal :=
  let r := s.dismissCommand inst
  unitOf numInsts inst (r.1.complete ref r.2)

/-- The reservation timer of a `BOUND` index runs out (R55, R56). -/
def State.reservationTimeout (s : State) (n : Nat) : State :=
  match (s.inst n).bind.state, (s.inst n).bind.timer with
  | .bound, some t => ((s.reach t).freeIndex n).postEvent 3 (le 1 n)
  | _, _ => s

def execReservationTimeout (inst : Nat) (s : State) : Host.Outcome State Fault Refusal := unitOf numInsts inst (s.reservationTimeout inst)

/-- The fallback bindings are computed again (R64). -/
def State.recomputed (s : State) (n : Nat) : State :=
  let b := (s.inst n).bind
  if b.recomputing then
    (s.setEnt (instIdx n 0x10) 5 (maskOf (s.fallbacks b.program.needs.minCores))).onBind n (fun x => { x with recomputing := false })
  else s

def execFallbackRecomputeDone (inst : Nat) (s : State) : Host.Outcome State Fault Refusal := unitOf numInsts inst (s.recomputed inst)

end Sys2Proof.Machine
end

