-- ==== Sys2Proof/Machine/Journal.lean ====
section
/-! DEFINITION. The journal in MRAM (18_transcript.md R484 to R497, R499): records in two copies, anchors, compaction, the scan
that reads and repairs, wear (R500). -/

namespace Sys2Proof.Machine

/-- Bytes of a segment (R484). -/
def segmentLen : Nat := 0x30C000

/-- Compaction starts below this much free room (R493). -/
def compactRoom : Nat := 1310720

/-- The bytes of a record (R485); a pending record of a save image leaves SEQ and both CRCs zero (R494). -/
def jBytes (sealed : Bool) (r : JRec) : Bytes :=
  let h := le 4 0x52435254 ++ le 2 r.kind ++ le 2 r.flags ++ le 8 (if sealed then r.seq else 0) ++ le 8 r.key ++ le 4 r.body.length
  let h := h ++ le 4 (if sealed then crc32c h else 0)
  let b := padTo (roundUp 4 r.body.length) r.body
  padTo (jRecLen r.body.length) (h ++ b ++ le 4 (if sealed then crc32c (h ++ b) else 0))

/-- The 64 leading bytes of an anchor (R489). -/
def anchorBytes (a : Anchor) : Bytes :=
  let b := le 4 0x4E435254 ++ le 2 1 ++ le 2 a.segment ++ le 8 a.seq ++ le 8 a.firstSeq ++ le 4 a.ckptLen ++ le 4 a.ckptCrc ++ le 8 a.seqFloor ++ zeros 20
  b ++ le 4 (crc32c b)

/-- Put a record at its offset, over what starts in its room. -/
def putSlot (l : List JSlot) (x : JSlot) : List JSlot :=
  let l := l.filter (fun y => !(decide (x.off ≤ y.off) && decide (y.off < x.off + jRecLen x.record.body.length)))
  l.takeWhile (fun y => decide (y.off < x.off)) ++ [x] ++ l.dropWhile (fun y => decide (y.off < x.off))

/-- Change segment `g` of copy A, of copy B. -/
def State.onCopyA (s : State) (g : Nat) (f : List JSlot → List JSlot) : State := { s with tr := { s.tr with copyA := s.tr.copyA.modify g f } }
def State.onCopyB (s : State) (g : Nat) (f : List JSlot → List JSlot) : State := { s with tr := { s.tr with copyB := s.tr.copyB.modify g f } }

/-- Put a whole record in both copies. -/
def State.putBoth (s : State) (g : Nat) (x : JSlot) : State := (s.onCopyA g (putSlot · x)).onCopyB g (putSlot · x)

/-- The records of the current segment, in ascending SEQ. -/
def State.records (s : State) : List JRec := ((s.tr.copyA.getD s.tr.segment []).filter (·.whole)).map (·.record)

/-- The value of a fact: the record of the highest SEQ for its kind and key (R486). -/
def State.fact (s : State) (kind key : Nat) : Option JRec :=
  (s.records.filter (fun r => r.kind == kind && r.key == key)).foldl (fun (b : Option JRec) r =>
    if b.all (fun q => decide (q.seq ≤ r.seq)) then some r else b) none

/-! ## Writing (R490) -/

/-- Write a record under one SEQ: a failed read-back leaves torn bytes and the record goes to the next boundary past them, at
most three times. The second part says whether it is committed. -/
def State.writeAt (s : State) (r : JRec) : Nat → Nat → State × Bool
  | tries, bad =>
    let n := jRecLen r.body.length
    if segmentLen < s.tr.fill + n then (s, false)
    else
      let grow (s : State) : State := State.bump { s with tr := { s.tr with fill := s.tr.fill + n } } 0x2700 0xE n
      match bad with
      | 0 => (grow (s.putBoth s.tr.segment { off := s.tr.fill, record := r }), true)
      | bad + 1 =>
        let s := grow (s.onCopyA s.tr.segment (putSlot · { off := s.tr.fill, record := r, whole := false }))
        match tries with
        | 0 => (s, false)
        | tries + 1 => s.writeAt r tries bad

/-- Commit a record: the journal assigns its SEQ. -/
def State.commitRec (s : State) (q : JSub) (bad : Nat := 0) : State × Bool :=
  if !s.tr.up ∨ 4060 < q.body.length then (s, false)
  else
    let r : JRec := { kind := q.kind, flags := if q.replayed then 2 else 0, seq := s.tr.nextSeq, key := q.key, body := q.body }
    State.writeAt { s with tr := { s.tr with nextSeq := s.tr.nextSeq + 1 } } r 3 bad

/-- Store a value that a DICT record holds (R487). -/
def State.storeValue (s : State) (i sub typ : Nat) (v : Bytes) : State :=
  if typ = 7 ∨ typ = 8 then s.setBlob i sub v else s.setEnt i sub (unle v)

/-- The management key is in force: the table of sources is empty (17 R474). -/
def State.takeKey (s : State) (key : Bytes) : State :=
  State.setEnt { s with mgmt := { s.mgmt with key := some key, sources := [], dropped := 0 } } 0x1100 6 1

/-- Epochs of a block of owners as the Transcript holds them. -/
def State.ratchetFact (s : State) (block : Nat) : State :=
  let b := match s.fact 4 block with | some r => r.body | none => []
  { s with wt := { s.wt with ratchet := (List.range 512).foldl (fun m i => sset 0 m (512 * block + i) (field b (4 * i) 4)) s.wt.ratchet } }

/-- What a commit lets happen: a stored setting, the management key, keys that waited for their epoch. -/
def State.afterCommit (s : State) (q : JSub) : State :=
  match q.kind with
  | 2 => s.storeValue (field q.body 0 2) (field q.body 2 1) (field q.body 3 1) (q.body.drop 4)
  | 3 => s.takeKey q.body
  | 4 => s.ratchetCommitted q.key
  | _ => s

/-- What a failed submission leaves: the epochs of R310 stay as they are committed. -/
def State.afterFailure (s : State) (q : JSub) : State := if q.kind = 4 then s.ratchetFact q.key else s

/-- The body of the COUNTERS record (R487). -/
def State.countersBody (s : State) : Bytes :=
  le 4 s.incarnation ++ le 4 (s.ent 0x2010 6) ++ le64s s.flt.lifeByClass ++ le 8 (s.ent 0x2700 5) ++ le 4 (s.ent 0x2700 6) ++ zeros 4

def State.counters (s : State) : JSub := { kind := 6, key := 0, body := s.countersBody }

/-- The security minimum that the Transcript keeps (14_firmware.md R404). -/
def State.securityMin (s : State) : Nat :=
  let of (k : Nat) : Nat × Nat := match s.fact 1 k with | some r => (field r.body 0 4 + 1, field r.body 8 4) | none => (0, 0)
  if (of 0).1 < (of 1).1 then (of 1).2 else (of 0).2

/-- The body of a TERM record (R487). -/
def State.termBody (s : State) (term bank min_ : Nat) : Bytes :=
  le 4 term ++ le 1 bank ++ zeros 3 ++ le 4 min_ ++ zeros 4 ++ padTo 48 (sha384 ((s.fw.banks.getD bank {}).bytes.take 256))

/-! ## Compaction (R493) -/

/-- Does a checkpoint keep a record of this kind and body (R487)? -/
def keptInCheckpoint (r : JRec) : Bool :=
  match r.kind with
  | 4 => r.body.any (· != 0)
  | 9 => (words32 r.body).any (· != 0xFFFFFFFF)
  | _ => true

/-- The facts of a list of records that a checkpoint keeps, in ascending SEQ. -/
def checkpointOf (l : List JRec) : List JRec :=
  let facts := l.filter (fun r => keptInCheckpoint r && !l.any (fun q => q.kind == r.kind && q.key == r.key && decide (r.seq < q.seq)))
  let faults := facts.filter (fun r => r.kind == 5)
  let old := faults.take (faults.length - 2048)
  facts.filter (fun r => !(r.kind == 5 && old.any (fun q => q.seq == r.seq)))

/-- Records that one slice of 1 ms copies, at 10 µs each (log entry 32). -/
def sliceRecords : Nat := 100

/-- Append records to a segment from an offset on; the end is answered. -/
def State.copyRecords (s : State) (g : Nat) : Nat → List JRec → State × Nat
  | off, [] => (s, off)
  | off, r :: l => State.copyRecords ((s.putBoth g { off, record := r }).bump 0x2700 0xE (jRecLen r.body.length)) g (off + jRecLen r.body.length) l

/-- The valid anchor of the highest generation, and which of the two it is (R489). -/
def State.governing (s : State) : Option (Nat × Anchor) :=
  let of (i : Nat) : Option Anchor := (s.tr.anchors.getD i none).filter (·.whole)
  match of 0, of 1 with
  | some a, some b => if a.seq < b.seq then some (1, b) else some (0, a)
  | some a, none => some (0, a)
  | none, some b => some (1, b)
  | none, none => none

/-- The last slice: later records follow the checkpoint, the new anchor names the other segment, the queue goes on there. -/
def State.endCompaction (s : State) (c ckpt : Nat) : State :=
  let g := 1 - s.tr.segment
  let ck := ((s.tr.copyA.getD g []).map (·.record))
  let later := s.records.filter (fun r => decide (c < r.seq))
  let (s, fill) := s.copyRecords g ckpt later
  let i := match s.governing with | some (i, _) => 1 - i | none => 0
  let seq := match s.governing with | some (_, a) => a.seq + 1 | none => 1
  let first := match (ck ++ later).head? with | some r => r.seq | none => s.tr.nextSeq
  let a : Anchor := { segment := g, seq, firstSeq := first, ckptLen := ckpt, ckptCrc := crc32c (ck.flatMap (jBytes true)), seqFloor := s.tr.nextSeq }
  let s : State := { s with tr := { s.tr with anchors := s.tr.anchors.set i (some a), segment := g, fill, compact := none } }
  let s := s.bump 0x2700 5
  (s.submit s.counters).1

/-- One slice of compaction. -/
def State.compactionSlice (s : State) : State :=
  if !s.tr.up then s
  else
    match s.tr.compact with
    | none =>
      if segmentLen - s.tr.fill < compactRoom then
        let g := 1 - s.tr.segment
        let s := (s.onCopyA g (fun _ => [])).onCopyB g (fun _ => [])
        { s with tr := { s.tr with compact := some (s.tr.nextSeq - 1, checkpointOf s.records, 0) } }
      else s
    | some (c, [], off) => s.endCompaction c off
    | some (c, todo, off) =>
      let (s, off) := s.copyRecords (1 - s.tr.segment) off ((todo.take sliceRecords).map (fun r => { r with flags := setBit r.flags 0 true }))
      { s with tr := { s.tr with compact := some (c, todo.drop sliceRecords, off) } }

def execCompactionSlice (s : State) : Host.Outcome State Fault Refusal := done s.compactionSlice

/-! ## The scan that reads and repairs (R496, R499) -/

/-- The valid record of a copy at an offset (R486). -/
def validAt (l : List JSlot) (off last : Nat) : Option JRec :=
  (l.find? (fun x => x.off == off && x.whole && decide (1 ≤ x.record.kind) && decide (x.record.kind ≤ 12) && decide (last < x.record.seq))).map (·.record)

/-- What a scan found: records accepted at their offsets, copies repaired, records lost at their offsets, where it ended. -/
structure Scan where
  found : List JSlot := []
  repaired : Nat := 0
  lost : List Nat := []
  stop : Nat := 0
  last : Nat := 0
  deriving DecidableEq, Repr

/-- Scan the two copies of a segment. -/
def scanFrom (a b : List JSlot) : Nat → Nat → Nat → Scan → Scan
  | 0, off, last, r => { r with stop := off, last }
  | n + 1, off, last, r =>
    let take (x : JRec) (fixed : Nat) : Scan :=
      scanFrom a b n (off + jRecLen x.body.length) x.seq { r with found := r.found ++ [{ off, record := x }], repaired := r.repaired + fixed }
    match validAt a off last, validAt b off last with
    | some x, some y => if x = y then take x 0 else take (if x.seq < y.seq then y else x) 1
    | some x, none => take x 1
    | none, some y => take y 1
    | none, none =>
      let later := ((a ++ b).filter (fun x => decide (off < x.off) && (validAt a x.off last == some x.record || validAt b x.off last == some x.record))).map (·.off)
      match later with
      | [] => { r with stop := off, last }
      | o :: os => scanFrom a b n (os.foldl min o) last { r with lost := r.lost ++ [off] }

/-- Repeat a cause. -/
def State.emitTimes (s : State) (n : Nat) (r : FaultRecord) : State := (List.range n).foldl (fun s _ => s.emit r) s

/-- Rebuild a lost block of epochs from the keys in their slots (R499). -/
def State.rebuildRatchet (s : State) (block : Nat) : State :=
  let of (o : Nat) : Nat := (List.range 16).foldl (fun m k => match s.keySlot k with | some q => if q.owner = o then max m q.epoch else m | none => m) 0
  { s with wt := { s.wt with ratchet := (List.range 512).foldl (fun m i => sset 0 m (512 * block + i) (of (512 * block + i))) s.wt.ratchet } }

/-- A record lost in both copies (cause 0x2203). -/
def State.recordLost (s : State) (old : List JSlot) (r : Scan) (off : Nat) : State :=
  let s := s.bump 0x2700 6
  match old.find? (fun x => x.off == off) with
  | some x =>
    if x.record.kind = 4 ∧ !r.found.any (fun y => y.record.seq == x.record.seq) then
      (s.emit { fault 0x2203 { die := dieK0 } with detail := x.record.key }).rebuildRatchet x.record.key
    else s.emit (fault 0x2203 { die := dieK0 })
  | none => s.emit (fault 0x2203 { die := dieK0 })

/-- The two anchors are compared: an invalid one is rewritten from the governing one. -/
def State.repairAnchors (s : State) : State :=
  match s.governing with
  | none => s
  | some (i, a) =>
    if ((s.tr.anchors.getD (1 - i) none).filter (·.whole)).isNone then
      (State.emit { s with tr := { s.tr with anchors := s.tr.anchors.set (1 - i) (some a) } } (fault 0x2207 { die := dieK0 })).bump 0x2700 7
    else s

/-- Read the current segment and repair both copies; the scan is answered. -/
def State.repair (s : State) : State × Scan :=
  let g := s.tr.segment
  let a := s.tr.copyA.getD g []
  let b := s.tr.copyB.getD g []
  let first := match s.governing with | some (_, x) => x.firstSeq | none => 1
  let r := scanFrom a b (2 * (a.length + b.length) + 2) 0 (first - 1) {}
  let old := a ++ b
  let s := (s.onCopyA g (fun l => r.found ++ l.filter (fun x => decide (r.stop ≤ x.off)))).onCopyB g (fun l => r.found ++ l.filter (fun x => decide (r.stop ≤ x.off)))
  let s := (s.emitTimes r.repaired (fault 0x2201 { die := dieK0 })).bump 0x2700 7 r.repaired
  let s := r.lost.foldl (fun s off => s.recordLost old r off) s
  let s := if old.any (fun x => decide (r.stop ≤ x.off)) then s.emit (fault 0x2202 { die := dieK0 }) else s
  (s, r)

/-- The service compares anchors and copies and repairs them (R499). -/
def State.scrub (s : State) : State :=
  if !s.tr.up ∨ s.pwr.save.isSome then s
  else
    let (s, r) := s.repair
    let s := s.repairAnchors
    s.putBlob 0x2700 0xB (le 8 s.now ++ le 4 r.found.length ++ le 4 r.repaired ++ le 4 r.lost.length ++ zeros 4)

def execScrub (s : State) : Host.Outcome State Fault Refusal := done s.scrub

/-- Format the journal (R497). -/
def State.format (s : State) : State :=
  let s : State := { s with tr := { s.tr with anchors := [none, none], copyA := [[], []], copyB := [[], []], segment := 0, fill := 0, nextSeq := 1, compact := none, up := true },
                            flt := { s.flt with lifeByClass := [0, 0, 0, 0, 0, 0] } }
  let s := (((s.setEnt 0x2300 4 1).setEnt 0x2010 6 0).setEnt 0x2700 5 0).setEnt 0x2700 6 0
  let s := (s.commitRec s.counters).1
  { s with tr := { s.tr with anchors := [some { segment := 0, seq := 1, firstSeq := 1, ckptLen := 0, seqFloor := 2 }, none] } }

/-! ## Submissions -/

/-- A component submits a record: a known kind, at most 4,060 bytes. -/
def State.journalSubmit (s : State) (q : JSub) : State :=
  if q.kind = 0 ∨ 12 < q.kind ∨ 4060 < q.body.length ∨ 2 ^ 64 ≤ q.key then s
  else
    let t := s.submit q
    if t.2 then t.1 else if q.kind ∈ [5, 6, 7] then s.dropSubmission else s

def execJournalSubmit (kind key : Nat) (body : Bytes) (s : State) : Host.Outcome State Fault Refusal := done (s.journalSubmit { kind, key, body })

/-! ## Wear and aging (R500) -/

/-- The exact value of a non-negative FP64 code as a number and a power of two. -/
def mag64 (c : Nat) : Nat × Int :=
  let e : Nat := c / 2 ^ 52 % 2 ^ 11
  if e = 0 then (c % 2 ^ 52, -1074) else (c % 2 ^ 52 + 2 ^ 52, (e : Int) - 1075)

/-- The largest `m` with `m^160 ≤ x`, by bits. -/
def root160 (x : Nat) : Nat → Nat → Nat
  | 0, m => m
  | b + 1, m => if (m + 2 ^ b) ^ 160 ≤ x then root160 x b (m + 2 ^ b) else root160 x b m

/-- `2^((T − 85)/10)` for a temperature in 1/16 °C, as FP64: a significand of 53 bits and its exponent. -/
def wearGrowth (t : Int) : Nat × Int :=
  let k := t - 1360
  let r := (k % 160).toNat
  ((root160 (2 ^ (53 * 160 + r)) 54 0 + 1) / 2, (k - r) / 160 - 52)

/-- Sum of two non-negative binary numbers, rounded to FP64. -/
def addTo64 (c : Nat) (g : Nat × Int) : Nat :=
  let a := mag64 c
  let q := min a.2 g.2
  let n := a.1 * 2 ^ (a.2 - q).toNat + g.1 * 2 ^ (g.2 - q).toNat
  if n = 0 then 0 else magCode 52 1023 none (if 0 ≤ q then n * 2 ^ q.toNat else n) (if 0 ≤ q then 1 else 2 ^ (-q).toNat)

/-- Aging margin of a die in mV (R500). -/
def agingOf (heq : Nat) : Nat :=
  let a := mag64 heq
  min 40 (5 * (if 0 ≤ a.2 then a.1 * 2 ^ a.2.toNat / 8760 else a.1 / (8760 * 2 ^ (-a.2).toNat)))

/-- One more powered hour at a mean temperature. -/
def wearHour (t : Int) (w : WearSt) : WearSt :=
  let heq := addTo64 w.heq (wearGrowth t)
  { w with hours := w.hours + 1, heq, hot := if 95 * 16 < t then w.hot + 1 else w.hot, aging := agingOf heq }

/-- Rows retired of a stack: frames and channels that its M die has retired in it (log entry 33). -/
def State.retiredRows (s : State) (k : Nat) : Nat := (s.mem.retired.filter (fun r => !r.1 && r.2.2 / 32 == k)).length

/-- The WEAR record of a unit. -/
def State.wearRecord (s : State) (u : Nat) : JSub :=
  let w := sget ({} : WearSt) s.tr.wear u
  { kind := 7, key := u, body := le64s [w.hours, w.heq, w.hot, if u < 25 then w.aging else 0, if u < 16 then w.droop else 0, if u < 32 then 0 else s.retiredRows (u - 32)] }

/-- The units that wear: dies 0 to 24, stacks at 32 to 43. -/
def wearUnits : List Nat := List.range 25 ++ (List.range 12).map (· + 32)

/-- The margins and hours that the identity ranges show. -/
def State.showWear (s : State) : State :=
  (List.range 25).foldl (fun s d =>
    let w := sget ({} : WearSt) s.tr.wear d
    ((s.setEnt (0x3000 + d) 0xB w.aging).setEnt (0x3000 + d) 0xC (if d < 16 then w.droop else 0)).setEnt (0x3000 + d) 0xD w.hours) s

/-- Once per powered hour: the mean temperatures of dies and stacks, in 1/16 °C. -/
def State.wearUpdate (s : State) (temps : List Int) : State :=
  if !s.tr.up then s
  else
    let wear := (temps.take 37).zipIdx.foldl (fun (m : Sparse WearSt) e =>
      let u := if e.2 < 25 then e.2 else e.2 + 7
      supd {} m u (wearHour e.1)) s.tr.wear
    let s : State := { s with tr := { s.tr with wear } }
    wearUnits.foldl (fun s u => s.journalSubmit (s.wearRecord u)) s.showWear

end Sys2Proof.Machine
end

