-- ==== Sys2Proof/Machine/Power.lean ====
section
/-! DEFINITION. Power, droop and thermal control (12_power_thermal.md R333 to R364): the two loops, the sag band, droop, the
fused limits, the state save, thermal hold, the hold-up bank. -/

namespace Sys2Proof.Machine

/-- K0 has power: from the bus through the input switch, or from the bank during a save. -/
def State.powered (s : State) : Bool := s.pwr.switchClosed || s.pwr.save.isSome

/-- A cause of this chapter, at a regulator: dies 0 to 24, HBM sides 25 and 26, Library halves 27 and 28 (16 R436; log entry 34). -/
def powerFault (cause : Nat) (die : Nat := dieK0) (reg : Nat := dieK0) : FaultRecord := fault cause { die, unit := 0xC, locA := reg }

/-! ## What a loss of power leaves -/

/-- The staged bank after a wake (15_bringup_reset.md R431, 14_firmware.md R412): a change in progress is abandoned, a staging
in progress is lost. -/
def stagedAfter (k : Nat) : Nat := if 2 ≤ k then 2 else 0

/-- Only what the MRAM, the flash, the pins and the outside hold is left. -/
def State.powerOff (s : State) (kind : Nat) : State :=
  { dict := s.dict.filter (fun e => e.1 == ekey 0x2700 0xE)
    library := s.library
    fw := { banks := s.fw.banks, staged := stagedAfter s.fw.staged, revertible := s.fw.revertible }
    wake := { perst := s.wake.perst, kind }
    mgmt := { sent := s.mgmt.sent }
    fab := { sent := s.fab.sent, sentLinks := s.fab.sentLinks }
    tr := { anchors := s.tr.anchors, copyA := s.tr.copyA, copyB := s.tr.copyB, image := s.tr.image }
    host := { image := s.host.image, signals := s.host.signals }
    phys := s.phys
    free := s.free
    pending := s.pending }

/-- Every die but K0 loses its rail: what they hold is gone, every index is `FREE` (R353; 15 R431). -/
def State.dropDies (s : State) : State :=
  { s with dict := s.dict.filter (fun e => decide (e.1 < ekey 0x4000 0))
           cores := [], tiles := [], corridor := [], mem := {}, insts := [], binder := [], lastInst := none
           fab := { sent := s.fab.sent, sentLinks := s.fab.sentLinks }
           wt := { keys := s.wt.keys, ratchet := s.wt.ratchet }
           bell := { s.bell with table := s.bell.table.filter (fun e => !e.2.reserved && e.2.kind != 1) }
           host := { s.host with fns := smap {} (fun _ (f : FnSt) => { f with up := false }) s.host.fns, rings := smap {} (fun _ (r : Ring) => { r with assigned := none }) s.host.rings }
           pwr := { s.pwr with regsOff := (List.range 29).filter (· != dieK0) }
           wake := { s.wake with diesUp := 2 ^ dieK0, stacksUp := 0 } }

/-- The wake stage changes; from W5 on a notice says so (17 R475). -/
def State.setStage (s : State) (k : Nat) : State :=
  let s := s.setEnt 0x2550 1 k
  if k < 5 then s else s.notice 2 (le 1 k ++ le 1 (s.ent 0x2550 2) ++ le 4 (s.ent 0x2550 3) ++ le 4 s.wake.diesUp)

/-- Thermal hold: only K0 is powered, management service continues (R353; log entry 35). -/
def State.enterHold (s : State) (leak : Bool) : State :=
  let s := s.dropDies
  State.setStage { s with pwr := { s.pwr with save := none, thermalHold := true, leakHold := leak } } 0x20

/-- A cold wake begins: the input switch closes, W0 runs (15 R419). -/
def State.coldWake (s : State) (kind : Nat) : State :=
  let s := s.powerOff kind
  { s with pwr := { s.pwr with switchClosed := true, regsOff := (List.range 29).filter (· != dieK0) }, wake := { s.wake with running := true } }

/-! ## The state save (R355 to R358) -/

/-- Each X die sends one heartbeat with no die alive on every up port (R356; 15 R429). -/
def State.goodbye (s : State) : State :=
  (List.range numPorts).foldl (fun s p => if s.portUp p then s.sendLinks p [.heartbeat s.moduleIndex (unle Config.serialNumber) s.incarnation 0] else s) s

/-- The change of term in progress stops where it stands (14 R412). -/
def State.interruptTerm (s : State) : State := if s.fw.staged = 4 then s.emit (fault 0x1E09 { die := dieK0 }) else s

/-- Steps in flight commit nothing; dispatch, binding, migrations and the rest stop; every die but K0 and the save area's M die
loses its rail (R356, R358). -/
def State.stopForSave (s : State) : State :=
  let s := s.busy.foldl (fun s n => s.onStep n (fun st => { st with void := true })) s
  let off := (List.range 25).filter (fun d => d != dieK0 && d != s.flt.saveDie)
  { s with cores := [], tiles := [], corridor := [], binder := []
           mem := { s.mem with moves := [], queued := [], waitingWrites := [] }
           fab := { s.fab with ports := smap {} (fun _ (p : PortSt) => { p with state := 0 }) s.fab.ports }
           host := { s.host with fns := smap {} (fun _ (f : FnSt) => { f with up := false }) s.host.fns }
           pwr := { s.pwr with dutyP := 64, ballast := false, regsOff := off.foldl addOnce s.pwr.regsOff }
           wake := { s.wake with diesUp := s.wake.diesUp % 2 ^ 25 &&& (2 ^ dieK0 + 2 ^ s.flt.saveDie) } }

/-- A save is decided (R356); before W5 there is none, and the module is without power (15 R432). -/
def State.decideSave (s : State) (cause : Nat) (fromBank : Bool) (loc : FaultLoc := { die := dieK0, unit := 0xC, locA := dieK0 }) : State :=
  if !s.powered ∨ s.pwr.save.isSome then s
  else if s.wakeStage < 5 then s.powerOff 0
  else
    let s := (s.emit (fault cause loc)).interruptTerm
    let s := s.goodbye
    let s := s.postEvent 6 (le 2 cause ++ zeros 2 ++ le 4 (milli32 s.pwr.milliVolt))
    State.stopForSave { s with pwr := { s.pwr with save := some { cause, fromBank, bell := s.now } } }

/-- The input switch opens; a save in progress goes on from the bank. -/
def State.openSwitch (s : State) : State :=
  { s with pwr := { s.pwr with switchClosed := false, save := s.pwr.save.map (fun v => { v with fromBank := true }) } }

/-- Header of the save image (R357; log entry 36): cause, Bell count, term, incarnation, sizes, and its CRC. -/
def State.saveHeader (s : State) (v : SaveSt) (parts pending : Nat) : Bytes :=
  let b := padTo 4092 (le 2 v.cause ++ zeros 6 ++ le 8 v.bell ++ le 4 s.term ++ le 4 s.incarnation ++ le 4 4096 ++ le 4 parts ++ le 4 pending)
  b ++ le 4 (crc32c b)

/-- The power event record: 256 samples of voltage, current and effective cap (R357). -/
def State.powerRecord (s : State) : Bytes :=
  padTo 4096 (s.pwr.events.flatMap (fun e => le 4 (milli32 e.1) ++ le 4 (milli32 e.2.1) ++ le 4 (milli32 e.2.2) ++ zeros 4))

/-- The record of one index (R357). -/
def State.saveInst (s : State) (n : Nat) : Bytes :=
  let i := s.inst n
  padTo 64 (le 1 (bindCode i.bind.state) ++ zeros 7 ++ padTo 16 i.bind.program.syllabusId ++ le 8 (s.ent (instIdx n 0x50) 1) ++ le 8 (field i.lock.lastRecord 8 8))

/-- The parts between the power event record and the pending records: instances, fault records not journalled, the log, the
tail of the trace (R357). -/
def State.saveParts (s : State) : Bytes :=
  let faults := s.flt.merging ++ s.wake.held
  (List.range 64).flatMap s.saveInst ++ (faults.drop (faults.length - 4096)).flatMap faultBytes ++
  s.fw.log.flatMap logBytes ++ ((s.fw.trace.drop (s.fw.trace.length - 16384)).flatMap (fun b => b))

/-- A pending record as the image holds it (18 R494). -/
def pendingBytes (q : JSub) : Bytes := jBytes false { kind := q.kind, seq := 0, key := q.key, body := q.body }

/-- The bytes of an image. -/
def imageBytes (i : SaveImage) : Bytes := i.header ++ i.power ++ i.parts ++ i.pending.flatMap pendingBytes

/-- The image that a save writes: the wear of every unit is among its pending records (18 R500). -/
def State.saveImage (s : State) (v : SaveSt) (whole : Bool) : SaveImage :=
  let pending := s.tr.queue ++ wearUnits.map s.wearRecord
  let parts := s.saveParts
  { bell := v.bell, cause := v.cause, header := s.saveHeader v parts.length (pending.flatMap pendingBytes).length, power := s.powerRecord, parts, pending, whole }

/-- The record that marks a save as complete (18 R487, R494). -/
def saveMark (i : SaveImage) : JSub :=
  { kind := 12, key := 0, body := le 8 i.bell ++ le 4 (imageBytes i).length ++ le 4 (crc32c (imageBytes i)) }

/-- The save ends: image and marker are written, then K0 powers off or holds (R356). A save that was cut writes no marker. -/
def State.saveEnds (s : State) (written : Bool) : State :=
  match s.pwr.save with
  | none => s
  | some v =>
    let i := s.saveImage v written
    let s : State := { s with tr := { s.tr with image := some i } }
    let s := if written then (s.commitRec (saveMark i)).1 else s
    if v.fromBank then s.powerOff (if written then 1 else 0) else s.enterHold (decide (v.cause = 0x2402 ∨ s.phys.leak = 1))

def execSaveComplete (written : Bool) (s : State) : Host.Outcome State Fault Refusal := done (s.saveEnds written)

/-- The input has stayed below 40 V for 200 µs (R355). -/
def execSupplyLoss (s : State) : Host.Outcome State Fault Refusal :=
  done (if s.powered then s.decideSave 0x1C02 true else { s with wake := { s.wake with retryPending := false } })

/-- A fused disconnect: the input switch opens, the save runs from the bank (R351). -/
def State.disconnect (s : State) : State := (s.decideSave 0x1C04 true).openSwitch

def execOverVoltageDisconnect (s : State) : Host.Outcome State Fault Refusal := done s.disconnect

def execOverCurrentDisconnect (s : State) : Host.Outcome State Fault Refusal := done s.disconnect

/-- A logic die or a stack has reached its save threshold (R353). -/
def execThermalSave (s : State) : Host.Outcome State Fault Refusal := done (s.decideSave 0x1C06 false)

/-- With Auto wake, 60 s of every sensor below 70 °C end the hold with a cold wake (R353); a leak's hold stays (20 R543). -/
def State.holdExit (s : State) : State :=
  if s.pwr.thermalHold ∧ !s.pwr.leakHold ∧ s.ent 0x2020 3 = 1 then s.coldWake 2 else s

def execThermalHoldExit (s : State) : Host.Outcome State Fault Refusal := done s.holdExit

/-! ## The 1 µs loop (R338, R339, R344) -/

/-- The Recess target in mW. -/
def recessTarget (cap : Nat) : Nat := cap * 975 / 1000 - 5000

/-- The ramp governor: its ceiling in mW and its least current in mA, from the mean current of 100 µs and the slope in A/ms. -/
def governorCeiling (iAvg slope mv : Nat) : Nat := (iAvg + 50 * slope) * mv / 1000
def governorFloor (iAvg slope : Nat) : Nat := iAvg - 50 * slope

/-- The power duty after one loop. -/
def nextDuty (p cap d : Nat) : Nat :=
  let t := recessTarget cap
  if t < p then min 64 (d + (64 * (p - t) + 1087999) / 1088000)
  else if cap * 2 < (t - p) * 100 then d - 1
  else d

/-- One loop of the package power controller: input power of the last 1 µs in mW, mean current of 100 µs in mA, mean voltage
of 10 µs in mV. A save, a sag and an open switch are exempt from the governor's lower bound. -/
def State.loop1 (s : State) (p iAvg mv : Nat) : State :=
  if !s.powered then s
  else
    let slope := s.ent 0x2000 5
    let s : State := { s with pwr := { s.pwr with governor := governorCeiling iAvg slope mv } }
    let cap := s.capEff
    let exempt := s.pwr.save.isSome || !s.pwr.switchClosed || s.pwr.sag
    let low := decide (p * 1000 < governorFloor iAvg slope * mv) && !exempt
    let short := low && s.pwr.ballast
    let s := if short && !s.pwr.ballastShort then s.emit (powerFault 0x1C0A) else s
    let d := if s.pwr.save.isSome then 64 else nextDuty p cap s.pwr.dutyP
    { s with pwr := { s.pwr with dutyP := d, dutyLeast := min s.pwr.dutyLeast d, overLoop := s.pwr.overLoop && decide (recessTarget cap < p),
                                 ballast := low, ballastShort := short, milliWatt := p, milliAmp := iAvg, milliVolt := mv } }

def execPowerLoop1us (milliWatt milliAmpAvg milliVolt : Nat) (s : State) : Host.Outcome State Fault Refusal := done (s.loop1 milliWatt milliAmpAvg milliVolt)

/-! ## The 10 µs loop (R341 to R347, R352, R355) -/

/-- Recess duty of die `d` (R344). -/
def State.duty (s : State) (d : Nat) : Nat := max s.pwr.dutyP (sget 0 s.pwr.dutyT d)

/-- Is math issue suppressed in cycle `c` of a frame of 64 (R344)? -/
def bubble (duty c : Nat) : Bool := decide (c * duty % 64 < duty)

/-- Compute dies that work. -/
def State.computeUp (s : State) : List Nat := (List.range 16).filter s.dieWorks

/-- Temperature of a die, 1/16 °C; stack `k` stands at 25 + k. -/
def State.temp (s : State) (u : Nat) : Int := sget 0 s.pwr.temps u

/-- The control limit in 1/16 °C (R352). -/
def State.controlLimit (s : State) : Int := 16 * (s.ent 0x2020 1 : Nat)

/-- The package clock in MHz. -/
def State.clock (s : State) : Nat := s.ent 0x2000 0xD

/-- Steps by which the loop lowers the clock, "as many as needed": a free value of at least 1 (log entry 37). -/
def State.lowerSteps (s : State) : Nat := 1 + Config.freeValue s.free 0 % 15

/-- The clock after the loop (R341, R342). -/
def State.setClock (s : State) (x : PowerSample) : State :=
  let f := s.clock
  if s.ent 0x2000 1 = 0 then s.setEnt 0x2000 0xD (if 1500 < f then 1500 else min 1500 (f + 50))
  else
    let f := min f (s.ent 0x2000 4)
    let tc := s.controlLimit
    let hot (margin : Int) : Bool := s.computeUp.any (fun d => decide (tc - margin < s.temp d))
    if 0 < s.pwr.dutyLeast ∨ s.computeUp.any (fun d => decide (tc - 48 ≤ s.temp d)) then
      (if 1000 < f then s.fresh.setEnt 0x2000 0xD (max 1000 (f - 50 * s.lowerSteps)) else s.setEnt 0x2000 0xD f)
    else if s.pwr.dutyP = 0 ∧ x.predictedMilliWatt * 100 < recessTarget s.capEff * 97 ∧ !hot 80 ∧ f + 50 ≤ s.ent 0x2000 4 then s.setEnt 0x2000 0xD (f + 50)
    else s.setEnt 0x2000 0xD f

/-- A die's voltage table (17 R464). -/
def railMv (d mhz : Nat) : Nat := if d < 16 then Config.voltageTable.getD ((mhz - 1000) / 50) 0 else Config.voltageTable.getD 0 0

/-- Each working die's rail: its voltage plus margins, below the fused maximum (R343, R348, R351). -/
def State.setRails (s : State) : State :=
  let f := s.clock
  let mv (d : Nat) : Nat := min (if d < 16 then 900 else 950) (railMv d f + s.ent (0x3000 + d) 0xB + s.ent (0x3000 + d) 0xC)
  { s with pwr := { s.pwr with setpoints := (List.range 25).foldl (fun m d => sset 0 m d (if s.dieWorks d then mv d else 0)) s.pwr.setpoints } }

/-- Most throttle steps of memory and of links: 8 of 64 slots, 4 of 16 flits stay (R346). -/
def memFloor : Nat := 14
def linkFloor : Nat := 12

/-- Throttling of memory and links (R346): Priority order 0 gives up memory first, 1 links first. -/
def State.throttle (s : State) : State :=
  let p := s.pwr
  let linksFirst := decide (s.ent 0x2000 3 = 1)
  let t := recessTarget s.capEff
  let mem (k : Nat) : State := { s with pwr := { s.pwr with throttleMem := k } }
  let link (k : Nat) : State := { s with pwr := { s.pwr with throttleLink := k } }
  if p.overLoop ∧ s.computeUp.all (fun d => s.duty d == 64) then
    if linksFirst then
      (if p.throttleLink < linkFloor then link (p.throttleLink + 1) else if p.throttleMem < memFloor then mem (p.throttleMem + 1) else s)
    else (if p.throttleMem < memFloor then mem (p.throttleMem + 1) else if p.throttleLink < linkFloor then link (p.throttleLink + 1) else s)
  else if p.milliWatt + 40000 < t then
    if linksFirst then
      (if 0 < p.throttleMem then mem (p.throttleMem - 1) else if 0 < p.throttleLink then link (p.throttleLink - 1) else s)
    else (if 0 < p.throttleLink then link (p.throttleLink - 1) else if 0 < p.throttleMem then mem (p.throttleMem - 1) else s)
  else s

/-- 0x1C05, at most once a minute per die; a stack's against its M die (R352). -/
def State.hotDie (s : State) (d : Nat) : State := s.emitRarely (0x1C050000 + d) (60 * ticksPerSec) (powerFault 0x1C05 d d)

/-- Thermal control of one unit: a compute die's duty, a throttle step on an M or X die or a stack (R352). -/
def State.thermalUnit (s : State) (u : Nat) : State :=
  let t := s.temp u
  let tc := if u < 25 then s.controlLimit else s.controlLimit - 160
  if u < 16 then
    let d := sget 0 s.pwr.dutyT u
    if tc < t then State.hotDie { s with pwr := { s.pwr with dutyT := sset 0 s.pwr.dutyT u (min 64 (d + 4)) } } u
    else if t < tc - 32 then { s with pwr := { s.pwr with dutyT := sset 0 s.pwr.dutyT u (d - 1) } }
    else s
  else if u = dieK0 then (if tc < t then s.hotDie u else s)
  else if tc < t then State.hotDie { s with pwr := { s.pwr with unitThrottle := sset 0 s.pwr.unitThrottle u 1 } } (if u < 25 then u else 16 + (u - 25) / 3)
  else if t < tc - 32 then { s with pwr := { s.pwr with unitThrottle := serase s.pwr.unitThrottle u } }
  else s

/-- The voltage bands (R355). A sag stops a test of the bank (R359). Out of the band cap_sag rises at the governed slope. -/
def State.bands (s : State) (mv : Nat) : State :=
  let cap (c : Nat) (s : State) : State := { s with pwr := { s.pwr with capSag := c } }
  if mv < 44000 then
    let s := if s.pwr.sag then s
      else State.bump (State.emit { s with pwr := { s.pwr with sag := true, bankTest := false } } (powerFault 0x1C01)) 0x2010 4
    cap (1000000 + 250 * (mv - 40000)) s
  else
    let s := if s.pwr.sag then s else cap (min 2000000 (s.pwr.capSag + s.ent 0x2000 5 * 10 * mv / 1000)) s
    if 58000 < mv then s.emitRarely 0x1C03 ticksPerSec (powerFault 0x1C03) else s

/-- What the loop measured. -/
def State.measure (s : State) (x : PowerSample) : State :=
  let temps := (x.temps.take 37).zipIdx.foldl (fun (m : Sparse Int) e => sset 0 m e.2 e.1) s.pwr.temps
  let recess := (x.recess.take 16).zipIdx.foldl (fun (m : Sparse Nat) e => supd 0 m e.2 (· + e.1)) s.pwr.recess
  let events := s.pwr.events ++ [(x.milliVolt, x.milliAmp, s.capEff)]
  let s : State := { s with pwr := { s.pwr with
      milliVolt := x.milliVolt, milliAmp := x.milliAmp, milliWatt := x.milliWatt, milliWatt1ms := x.milliWatt1ms
      temps, recess, inlet := x.inlet, outlet := x.outlet, flow := x.flow
      events := events.drop (events.length - 256), energy := s.pwr.energy + x.milliWatt } }
  let s := (((s.setEnt 0x2000 0xB (milli32 x.milliVolt)).setEnt 0x2000 0xC (milli32 x.milliWatt1ms)).setEnt 0x2020 5 (milli32 x.inlet)).setEnt 0x2020 6 (milli32 x.outlet)
  let s := (s.setEnt 0x2020 7 (milli32 x.flow)).setEnt 0x2010 1 ((recess.map (·.2)).foldl max 0)
  let s := s.bump 0x2010 5 x.ballastMilliJoule
  let b := (List.range 37).flatMap (fun u => le 2 (ofInt 16 (s.temp u)))
  if s.blob 0x2020 4 = b then s else s.putBlob 0x2020 4 b

/-- One 10 µs loop. -/
def State.loop10 (s : State) (x : PowerSample) : State :=
  if !s.powered then s
  else
    let s := ((s.measure x).bands x.milliVolt).setClock x
    let s := (List.range 37).foldl (fun s u => s.thermalUnit u) s.setRails
    let s := s.throttle
    { s with pwr := { s.pwr with dutyLeast := s.pwr.dutyP, overLoop := decide (recessTarget s.capEff < s.pwr.milliWatt) } }

def execPowerLoop10us (sample : PowerSample) (s : State) : Host.Outcome State Fault Refusal := done (s.loop10 sample)

/-- V has stayed at 44.5 V or above for 1 ms: the sag band is left (R355). -/
def execSagExit (s : State) : Host.Outcome State Fault Refusal := done { s with pwr := { s.pwr with sag := false } }

/-! ## Droop (R349, R350) -/

/-- A detector of die `d` trips: the package clock stretches. -/
def State.droop (s : State) (d : Nat) : State :=
  if s.pwr.stretch.isSome then s else State.bump { s with pwr := { s.pwr with stretch := some d } } 0x2010 3

def execDroopDetect (die : Nat) (s : State) : Host.Outcome State Fault Refusal := unitOf 16 die (s.droop die)

/-- Set a die's droop margin; its wear record keeps it (18 R500). -/
def State.setDroop (s : State) (d mv : Nat) : State :=
  let s : State := { s with tr := { s.tr with wear := supd {} s.tr.wear d (fun w => { w with droop := mv }) } }
  (s.setEnt (0x3000 + d) 0xC mv).journalSubmit (s.wearRecord d)

/-- The stretch ends; the die has counted `cycles` stretched cycles in the last second: beyond 0.5 % its margin rises. -/
def State.droopEnds (s : State) (cycles : Nat) : State :=
  match s.pwr.stretch with
  | none => s
  | some d =>
    let s : State := { s with pwr := { s.pwr with stretch := none } }
    if s.clock * 1000000 < cycles * 200 then
      (s.setDroop d (min (Config.droopMarginMax d) (s.ent (0x3000 + d) 0xC + 5))).raise (powerFault 0x1C08 d d)
    else s

def execDroopRelease (cycles : Nat) (s : State) : Host.Outcome State Fault Refusal := done (s.droopEnds cycles)

def execDroopMarginFall (die : Nat) (s : State) : Host.Outcome State Fault Refusal := unitOf 16 die (s.setDroop die (s.ent (0x3000 + die) 0xC - 5))

/-! ## Fused limits (R351) -/

/-- A junction limit: the die's regulator is off and it is fenced; K0's trip switches off every regulator, without a save. -/
def State.junctionTrip (s : State) (d : Nat) : State :=
  if d = dieK0 then (s.emit { powerFault 0x1C07 with cls := 5 }).powerOff 0
  else
    let s := s.fenceFor 0x1C07 d false { die := d, unit := 0xC, locA := d }
    { s with pwr := { s.pwr with regsOff := addOnce s.pwr.regsOff d } }

def execJunctionTrip (die : Nat) (s : State) : Host.Outcome State Fault Refusal := unitOf numDies die (s.junctionTrip die)

/-- A stack's limit: its side of six stacks is without power, its M die is fenced. -/
def State.hbmTrip (s : State) (k : Nat) : State :=
  let side := k / 6
  let up := (List.range 6).foldl (fun m i => setBit m (6 * side + i) false) s.wake.stacksUp
  let s : State := { s with wake := { s.wake with stacksUp := up }, pwr := { s.pwr with regsOff := addOnce s.pwr.regsOff (25 + side) } }
  s.fenceFor 0x1C07 (16 + k / 3) false { die := 16 + k / 3, unit := 0xC, locA := 25 + side }

def execHbmTrip (stack : Nat) (s : State) : Host.Outcome State Fault Refusal := unitOf 12 stack (s.hbmTrip stack)

/-- The flow estimate has stayed below 1.4 L/min for 10 s (R354). -/
def execFlowLow (s : State) : Host.Outcome State Fault Refusal := done (s.emit (powerFault 0x1C0B))

/-! ## The hold-up bank (R359; 15 R426) -/

/-- A test is not started in the sag band. -/
def execBankTest (s : State) : Host.Outcome State Fault Refusal :=
  done (if s.pwr.sag ∨ s.pwr.save.isSome then s else { s with pwr := { s.pwr with bankTest := true } })

/-- The test finishes with the usable energy from 56 V to 20 V. -/
def State.bankTested (s : State) (mj : Nat) : State :=
  if !s.pwr.bankTest then s
  else
    let s : State := { s with pwr := { s.pwr with bankTest := false } }
    let s := s.setEnt 0x2030 1 (milli32 mj)
    if mj < 10000 then (s.setEnt 0x2030 3 0).emit (powerFault 0x1C09)
    else if s.flt.copying then s
    else s.setEnt 0x2030 3 1

def execBankTestDone (usableMilliJoule : Nat) (s : State) : Host.Outcome State Fault Refusal := done (s.bankTested usableMilliJoule)

def execBankChargeComplete (s : State) : Host.Outcome State Fault Refusal := done { s with pwr := { s.pwr with bankCharged := true } }

/-- The lowest stop code governs, then the other codes, the latest one (15 R424; log entry 38). -/
def wakeCode (codes : List Nat) : Nat :=
  let stops := codes.filter (fun c => decide (c ∈ [0x21, 0x32, 0x41, 0x45, 0x51, 0x52, 0x53]))
  match stops with
  | [] => codes.getLastD 0
  | c :: r => r.foldl min c

/-- A wake fault code is recorded. -/
def State.wakeFault (s : State) (code : Nat) : State :=
  let faults := addOnce s.wake.faults code
  State.setEnt { s with wake := { s.wake with faults } } 0x2550 2 (wakeCode faults)

/-- 2 s after W0 the bank is not charged (15 R426). -/
def State.bankLate (s : State) : State :=
  if s.pwr.bankCharged ∨ !s.powered then s
  else ((State.wakeFault { s with pwr := { s.pwr with bankTimedOut := true } } 0x61).setEnt 0x2030 3 0).emit (powerFault 0x1C09)

def execBankChargeTimeout (s : State) : Host.Outcome State Fault Refusal := done s.bankLate

/-! ## Silence and the scheduled cap (R348, R360) -/

/-- No management message for the silence time. -/
def State.silence (s : State) : State :=
  if s.ent 0x2000 7 = 0 ∨ s.pwr.silent then s
  else
    let s := s.reach (s.pwr.lastMgmt + s.ent 0x2000 8 * ticksPerSec)
    State.emit { s with pwr := { s.pwr with silent := true } } (powerFault 0x1C0C)

def execSilenceCap (s : State) : Host.Outcome State Fault Refusal := done s.silence

/-- The DICT record of a persisted value (18 R487). -/
def dictRecord (i sub typ : Nat) (v : Bytes) : JSub := { kind := 2, key := ekey i sub, body := le 2 i ++ le 1 sub ++ le 1 typ ++ v }

/-- A CAP_CHANGE event: the pending cap, if any, becomes the cap (R348; 13_bell_timetable.md R375). -/
def State.capChange (s : State) (k : Nat) : State :=
  let e := s.ttEntry k
  if e.kind ≠ 3 then s
  else
    let s := s.fireEntry k
    let p := s.ent 0x2000 6
    if p = 0 then s
    else ((s.setEnt 0x2000 2 p).setEnt 0x2000 6 0).journalSubmit (dictRecord 0x2000 2 2 (le 2 p))

def execCapChange (entry : Nat) (s : State) : Host.Outcome State Fault Refusal := unitOf 512 entry (s.capChange entry)

end Sys2Proof.Machine
end

