-- ==== Sys2Proof/Machine/Firmware.lean ====
section
/-! DEFINITION. The firmware complex (14_firmware.md R390 to R418): components, Proctor cores, log and trace, images, the change
of term, negotiation, the debug lock. -/

namespace Sys2Proof.Machine

/-- A Proctor core or a component in a fault record (16 R436). -/
def fwFault (cause core part : Nat) : FaultRecord := fault cause { die := dieK0, unit := 0xF, locA := core, locB := part }

/-- Home core of a component (R392). -/
def homeCore (part : Nat) : Nat :=
  match part with
  | 1 => 0 | 2 => 1 | 3 => 2 | 4 => 3 | 5 => 4 | 6 => 3 | _ => 5

/-- Region size of a component (R392), SRAM of the kernel (R390). -/
def regionSize (part : Nat) : Nat :=
  match part with
  | 1 | 2 => 262144
  | 3 | 4 | 6 | 7 => 393216
  | 5 | 8 => 524288
  | 0x10 => 262144
  | _ => 2 ^ 32

/-! ## Messages (R391) -/

/-- A running component takes a message at once; one that does not run keeps up to 32, then the sender is blocked. -/
def State.compMessage (s : State) (sender receiver : Nat) (msg : Bytes) : State :=
  let c := s.comp receiver
  if sender = 0 ∨ 8 < sender ∨ receiver = 0 ∨ 8 < receiver ∨ 256 < msg.length ∨ c.running then s
  else if c.inbox.length < 32 then s.onComp receiver (fun c => { c with inbox := c.inbox ++ [msg] })
  else { s with fw := { s.fw with blocked := s.fw.blocked ++ [(sender, receiver, msg)] } }

def execComponentMessage (sender receiver : Nat) (msg : Bytes) (s : State) : Host.Outcome State Fault Refusal := done (s.compMessage sender receiver msg)

/-- A blocked send fails after 100 µs; the kernel logs it. -/
def State.sendFails (s : State) (sender : Nat) : State :=
  match s.fw.blocked.find? (fun b => b.1 == sender) with
  | none => s
  | some b =>
    State.logWrite { s with fw := { s.fw with blocked := s.fw.blocked.filter (fun x => x.1 != sender) } } 0x10 1 0 [sender, b.2.1]

def execInboxSendTimeout (sender : Nat) (s : State) : Host.Outcome State Fault Refusal := done (s.sendFails sender)

/-! ## Combinations (R413, R414) -/

/-- The combination code of a set of parts. -/
def combination (l : List PartRow) : Nat := crc32c (l.flatMap (fun p => le 1 p.part ++ le 4 p.version))

/-- Entry `i` of an image's part table. -/
def partEntry (b : Bytes) (i : Nat) : Bytes := slice b (256 + 96 * i) 96

/-- The present parts of a bank's image (R403). -/
def presentRows (k : Bank) : List PartRow :=
  if k.factory then factoryParts
  else ((List.range (field k.bytes 6 2)).filter (fun i => (field (partEntry k.bytes i) 1 1).testBit 0)).map (fun i =>
    let e := partEntry k.bytes i
    { part := field e 0 1, version := field e 4 4, emitMin := field e 0x10 2, emitMax := field e 0x12 2, acceptMin := field e 0x14 2,
      acceptMax := field e 0x16 2, protoMin := field e 0x18 2, protoMax := field e 0x1A 2, length := field e 0xC 4 })

/-- Tested combinations of a bank's image. -/
def testedCodes (k : Bank) : List Nat :=
  if k.factory then [combination factoryParts]
  else
    let o := field k.bytes 0x14 4
    (List.range (min 256 (field k.bytes o 4))).map (fun i => field k.bytes (o + 4 + 4 * i) 4)

/-- The bank that is not active. -/
def State.otherBank (s : State) : Bank := s.fw.banks.getD (1 - s.fw.active) {}

/-- Judge the combination that runs: `0x2500:06`, and 0x1E06 once for an untested one. -/
def State.judge (s : State) : State :=
  let c := combination s.fw.parts
  let tested := testedCodes (if s.fw.staged = 4 then s.otherBank else s.fw.banks.getD s.fw.active {})
  if c ∈ tested then s.setEnt 0x2500 6 0
  else
    let listed := decide (c ≠ 0) && (words32 (s.blob 0x2500 7)).any (· == c)
    let s := s.setEnt 0x2500 6 (if listed then 2 else 1)
    if c ∈ s.fw.warned then s
    else State.emit { s with fw := { s.fw with warned := s.fw.warned ++ [c] } } { fwFault 0x1E06 0 1 with detail := if listed then 1 else 0, address := c }

/-! ## Rollback and commit (R410 to R412) -/

/-- A TERM event (19 R523), and the result that `0x2520:03` shows. -/
def State.termResult (s : State) (id code : Nat) : State := (s.setEnt 0x2520 3 code).postEvent 0xA (le 4 id ++ le 2 code)

/-- The change is over; the staged bank has the state given. -/
def State.closeTerm (s : State) (staged : Nat) : State :=
  let s : State := { s with fw := { s.fw with staged, termId := 0, todo := [], changed := [], loaded := false, late := none, back := false, backHeld := false },
                            tr := { s.tr with queue := s.tr.queue.filter (fun q => q.kind != 1) } }
  (s.setEnt 0x2520 1 0).setEnt 0x2520 2 0

/-- Every changed part is back: the staged bank is verified again. -/
def State.rolledBack (s : State) : State :=
  let id := s.fw.termId
  (((s.closeTerm 2).judge).emit (fwFault 0x1E04 0 1)).termResult id 0x1E04

/-- A change rolls back: what has changed is handed back, newest first. -/
def State.rollBack (s : State) : State :=
  if s.fw.staged < 3 ∨ s.fw.back then s
  else if s.fw.changed.isEmpty then s.rolledBack
  else { s with fw := { s.fw with back := true, todo := [], loaded := false, late := none }
                tr := { s.tr with queue := s.tr.queue.filter (fun q => q.kind != 1) } }

/-- The TERM record has committed: the change is complete (R411). -/
def State.termCommitted (s : State) (term bank : Nat) : State :=
  if s.fw.staged = 4 ∧ s.fw.termId = term ∧ s.fw.todo = [] ∧ !s.fw.back then
    let s := s.closeTerm 0
    let s : State := { s with fw := { s.fw with active := bank, revertible := true } }
    let s := ((s.setEnt 0x1000 4 term).setBlob 0x2500 4 []).judge
    (s.emit (fwFault 0x1E05 0 1)).termResult term 0
  else s

/-- The security version of a bank's image. -/
def bankSecurity (k : Bank) : Nat := if k.factory then Config.fusedSecurityMin else field k.bytes 0x10 4

/-- After the last point the coordinator commits the term in one record. -/
def State.commitTerm (s : State) : State :=
  let q : JSub := { kind := 1, key := s.fw.termId % 2, body := s.termBody s.fw.termId (1 - s.fw.active) (max s.securityMin (bankSecurity s.otherBank)) }
  let t := s.submit q
  if t.2 then t.1 else s.rollBack

/-! ## Restarts (R396 to R398) -/

/-- Restarts of a component in the last 600 s. -/
def State.recentRestarts (s : State) (part : Nat) : Nat :=
  ((s.comp part).restarts.filter (fun t => decide (s.now < t + 600 * ticksPerSec + 1))).length

/-- What a restart of a component costs (R397). -/
def State.restartCost (s : State) (part : Nat) : State :=
  match part with
  | 1 => (if s.fw.staged = 1 then { s with fw := { s.fw with staged := 0, stageNext := 0 } } else s).rollBack
  | 5 =>
    let s := (s.instsWith (fun (i : InstSt) => i.bind.state == BindState.binding)).foldl (fun (s : State) n => s.endBinding n 0x0601) s
    (s.instsWith (fun (i : InstSt) => i.bind.recomputing)).foldl (fun (s : State) n => s.setEnt (instIdx n 0x10) 5 0) s
  | 7 => { s with host := { s.host with fns := smap {} (fun _ (f : FnSt) => { f with session := false, spdm := 0, spdmVersion := 0x10, keyGen := 0 }) s.host.fns } }
  | _ => s

/-- The kernel stops a component and starts it again. -/
def State.restartNow (s : State) (part : Nat) : State :=
  let s := s.onComp part (fun c => { c with running := false, restarting := true, delayed := false, total := (c.total + 1) % 65536,
                                            restarts := s.now :: c.restarts.filter (fun t => decide (s.now < t + 600 * ticksPerSec + 1)) })
  let s := s.emit (fwFault 0x1E01 (s.comp part).home part)
  let s := s.restartCost part
  let n := s.recentRestarts part
  let s := if 3 ≤ n then
      (State.emit (s.onComp part (fun c => { c with unstable := true })) (fwFault 0x1E02 (s.comp part).home part)).postEvent 4 (le 1 part ++ le 1 0 ++ le 2 n)
    else s
  let mine := s.fw.changed.any (fun p => p.part == part)
  let early := match (s.comp part).handedAt with | some t => decide (s.now < t + 10 * ticksPerSec) | none => false
  if mine && (early || decide (3 ≤ n)) then s.rollBack else s

/-- A component fails: it restarts, at once or, where it is unstable, a second later. -/
def State.compFails (s : State) (part : Nat) : State :=
  let c := s.comp part
  if part = 0 ∨ 8 < part ∨ !c.running then s
  else if c.unstable then s.onComp part (fun c => { c with running := false, delayed := true })
  else s.restartNow part

def execWatchdogMiss (part : Nat) (s : State) : Host.Outcome State Fault Refusal := done (s.compFails part)

/-- An access outside a component's grants (R395). -/
def State.domainViolation (s : State) (part : Nat) : State :=
  if part = 0 ∨ 8 < part ∨ !(s.comp part).running then s else (s.emit (fwFault 0x1E07 (s.comp part).home part)).compFails part

def execDomainViolation (part : Nat) (s : State) : Host.Outcome State Fault Refusal := done (s.domainViolation part)

def execDelayedRestart (part : Nat) (s : State) : Host.Outcome State Fault Refusal := done (if (s.comp part).delayed then s.restartNow part else s)

/-- A restart is done: the component drains its inbox, senders that were blocked on it go on, held log records are mirrored. -/
def State.restartDone (s : State) (part : Nat) : State :=
  if !(s.comp part).restarting then s
  else
    let s := s.onComp part (fun c => { c with running := true, restarting := false, inbox := [] })
    let held := if part = 8 then s.fw.logHeld else []
    let s : State := { s with fw := { s.fw with blocked := s.fw.blocked.filter (fun b => b.2.1 != part), logHeld := if part = 8 then [] else s.fw.logHeld } }
    held.foldl (fun s r => s.logMirror r) s

def execComponentRestartDone (part : Nat) (s : State) : Host.Outcome State Fault Refusal := done (s.restartDone part)

/-! ## Proctor cores (R394) -/

/-- Cores that work, `0x2500:08`. -/
def State.proctors (s : State) : List Nat := (List.range 6).filter (fun c => (s.ent 0x2500 8).testBit c)

/-- Components on a core. -/
def State.compsOn (s : State) (core : Nat) : List Nat := (List.range 9).filter (fun p => decide (1 ≤ p) && (s.comp p).home == core)

/-- The working core with the fewest components, ties to the lower. -/
def State.freestCore (s : State) : Option Nat :=
  s.proctors.foldl (fun (b : Option Nat) c =>
    match b with
    | none => some c
    | some x => if (s.compsOn c).length < (s.compsOn x).length then some c else some x) none

/-- A Proctor core is out of service; its components move. The last one's loss is the loss of K0 (R439; log entry 39). -/
def State.proctorLost (s : State) (core : Nat) : State :=
  if core ∈ s.proctors then
    let s := s.setEnt 0x2500 8 (setBit (s.ent 0x2500 8) core false)
    if s.proctors.isEmpty then (s.emit { fwFault 0x1E03 core 0 with cls := 5 }).powerOff 0
    else
      let s := (s.emit (fwFault 0x1E03 core 0)).postEvent 5 (le 1 core ++ le 1 (s.ent 0x2500 8))
      (s.compsOn core).foldl (fun s p => match s.freestCore with | some c => s.onComp p (fun x => { x with home := c }) | none => s) s
  else s

def execProctorCoreLost (core : Nat) (s : State) : Host.Outcome State Fault Refusal := unitOf 6 core (s.proctorLost core)

/-- With one or two working cores the cause is logged again each hour; it names the lowest core out of service (R394). -/
def State.proctorsFew (s : State) : State :=
  if s.proctors.length < 3 then s.emit (fwFault 0x1E03 (((List.range 6).find? (fun c => !decide (c ∈ s.proctors))).getD 0) 0) else s

/-- The powered hour of the wear record is the hour of that repetition (log entry 77). -/
def State.poweredHour (s : State) (temps : List Int) : State := if s.tr.up then (s.wearUpdate temps).proctorsFew else s

def execWearUpdate (temps : List Int) (s : State) : Host.Outcome State Fault Refusal := done (s.poweredHour temps)

/-! ## Log and trace (R400, R402) -/

def execLogRecord (part level code : Nat) (args : List Nat) (s : State) : Host.Outcome State Fault Refusal := done (s.logWrite part level code args)

/-- An enabled trace point emits a record, or drops it: above the rate, or where the ring has no room. -/
def State.tracePoint (s : State) (point core data : Nat) : State :=
  if 4096 ≤ point ∨ !(field (s.blob 0x2540 1) (point / 8) 1).testBit (point % 8) then s
  else
    let ms := s.now / ticksPerMs
    let n := if s.fw.traceMs = ms then s.fw.traceNow else 0
    let k := s.ent 0x2540 2
    let s : State := { s with fw := { s.fw with traceMs := ms, traceNow := n + 1 } }
    if s.ent 0x2540 3 ≤ n ∨ !s.ringRoom k 6 then
      (State.ringDrop { s with fw := { s.fw with traceGap := true } } k 6).bump 0x2540 4
    else
      let b := le 8 (s.now % 2 ^ 48 + point * 2 ^ 48 + core % 8 * 2 ^ 60 + (if s.fw.traceGap then 2 ^ 63 else 0)) ++ le 8 data
      let tail := s.fw.trace ++ [b]
      State.produce { s with fw := { s.fw with traceGap := false, trace := tail.drop (tail.length - 16384) } } k b

def execTracePoint (point core data : Nat) (s : State) : Host.Outcome State Fault Refusal := done (s.tracePoint point core data)

/-! ## Images (R403, R404, R421, R422) -/

/-- The bytes that the signature covers: header to 0x9F, part table, tested list. -/
def signedBytes (b : Bytes) : Bytes :=
  let o := field b 0x14 4
  b.take 0xA0 ++ slice b 256 (96 * field b 6 2) ++ slice b o (4 + 4 * field b o 4)

/-- Layout of an image: header, family and stepping, key, part table. -/
def imageForm (b : Bytes) : Bool :=
  let n := field b 6 2
  field b 0 4 == 0x4D494C42 && field b 4 2 == 1 && decide (1 ≤ n) && decide (n ≤ 11) && field b 8 4 == b.length && decide (b.length ≤ 67108864) &&
  field b 0xC 2 == 0x0B25 && field b 0xE 1 == 0x11 && decide (field b 0xF 1 ≤ 3) && Config.fusedKeys.testBit (field b 0xF 1) &&
  (slice b 0x28 120).all (· == 0) && decide (field b (field b 0x14 4) 4 ≤ 256) && decide (field b 0x14 4 + 4 + 4 * field b (field b 0x14 4) 4 ≤ b.length) &&
  (List.range n).all (fun i =>
    let e := partEntry b i
    let p := field e 0 1
    ((decide (1 ≤ p) && decide (p ≤ 8)) || decide (p ∈ [0x10, 0x11, 0x12])) && field e 2 2 == 0 && field e 0x1C 4 == 0 && (slice e 0x50 16).all (· == 0) &&
    decide (field e 8 4 + field e 0xC 4 ≤ b.length) && (decide (p ∈ [0x11, 0x12]) || decide (field e 0xC 4 ≤ 524288)) &&
    (i == 0 || decide (field (partEntry b (i - 1)) 0 1 < p)))

/-- The signature holds, and every present part has its digest. -/
def imageSealed (b : Bytes) : Bool :=
  Config.signatureHolds (field b 0xF 1) (signedBytes b) (slice b 0xA0 96) &&
  (List.range (field b 6 2)).all (fun i =>
    let e := partEntry b i
    !(field e 1 1).testBit 0 || decide (sha384 (slice b (field e 8 4) (field e 0xC 4)) = slice e 0x20 48))

/-- Result code of the check of a whole image against a security minimum (R404). -/
def imageCode (b : Bytes) (min_ : Nat) : Nat :=
  if !imageForm b ∨ !imageSealed b then 0x0E01
  else if field b 0x10 4 < max Config.fusedSecurityMin min_ then 0x0E02
  else 0

/-- Put a bank. -/
def State.setBank (s : State) (i : Nat) (k : Bank) : State := { s with fw := { s.fw with banks := s.fw.banks.set i k } }

/-- Pairs of part and version, as `0x2500:02` and `:04` show them. -/
def partPairs (l : List PartRow) : Bytes := l.flatMap (fun p => le 1 p.part ++ le 4 p.version)

/-- TERM_STAGE: a chunk goes to the bank that is not active; after the last one the image is checked. -/
def State.termStage (s : State) (off : Nat) (chunk : Bytes) (last : Bool) : State × Nat :=
  if 3 ≤ s.fw.staged ∨ s.pwr.save.isSome then (s, 0x0E04)
  else if 1048576 < chunk.length ∨ (off ≠ 0 ∧ (s.fw.staged ≠ 1 ∨ off ≠ s.fw.stageNext)) then (s, 0x1002)
  else
    let i := 1 - s.fw.active
    let b := (if off = 0 then [] else (s.fw.banks.getD i {}).bytes) ++ chunk
    let s := if off = 0 then State.putBlob { s with fw := { s.fw with revertible := false } } 0x2500 4 [] else s
    let fails (s : State) (code : Nat) : State × Nat := ({ (s.setBank i {}) with fw := { (s.setBank i {}).fw with staged := 0, stageNext := 0 } }, code)
    if 67108864 < b.length then fails s 0x0E01
    else
      let s := s.setBank i { bytes := b }
      if !last then ({ s with fw := { s.fw with staged := 1, stageNext := b.length } }, 0)
      else
        let c := imageCode b s.securityMin
        if c ≠ 0 then fails s c
        else (State.putBlob { s with fw := { s.fw with staged := 2, stageNext := 0 } } 0x2500 4 (partPairs (presentRows { bytes := b })), 0)

def execTermStage (offset : Nat) (chunk : Bytes) (last : Bool) (ref : CmdRef) (s : State) : Host.Outcome State Fault Refusal :=
  let r := s.termStage offset chunk last
  done (r.1.complete ref r.2)

/-! ## Preparation (R405, R406) -/

/-- Order in which parts hand over. -/
def handOrder : List Nat := [8, 7, 4, 3, 2, 6, 5, 0x11, 0x12, 0x10, 1]

/-- A common record version of a writer and a reader. -/
def common (w r : PartRow) : Bool := decide (max w.emitMin r.acceptMin ≤ min w.emitMax r.acceptMax)

/-- The running row of a part. -/
def State.running (s : State) (part : Nat) : PartRow := (s.fw.parts.find? (fun p => p.part == part)).getD { part, version := 0 }

/-- The set of parts after one is replaced. -/
def replacePart (l : List PartRow) (p : PartRow) : List PartRow := mapIf (fun (q : PartRow) => q.part == p.part) (fun _ => p) l

/-- Host features of the baseline set (R415). -/
def baselineHost : List Nat := [0, 1, 2, 6, 9, 10, 11]

/-- The set of parts once every present part has changed. -/
def State.resulting (s : State) (rows : List PartRow) : List PartRow := rows.foldl replacePart s.fw.parts

/-- Would the resulting combination, untested and not overridden, run in the baseline set while a host feature outside it is
granted (R405, R413, R414; log entry 40)? -/
def State.withdraws (s : State) (rows : List PartRow) : Bool :=
  let c := combination (s.resulting rows)
  !decide (c ∈ testedCodes s.otherBank) && !(decide (c ≠ 0) && (words32 (s.blob 0x2500 7)).any (· == c)) &&
  (List.range 64).any (fun k => s.fw.granted.testBit k && !decide (k ∈ baselineHost))

/-- The first check of R405 that fails; `protocols` are the CONTROL protocol versions in use with members, with their modules. -/
def State.prepareCode (s : State) (rows : List PartRow) (protocols : List (Nat × Nat)) : Nat :=
  if rows.any (fun p => !common (s.running p.part) p || !common p (s.running p.part)) then 0x0E03
  else if rows.any (fun p => decide (p.part ∈ [3, 6]) && protocols.any (fun v => decide (v.2 < p.protoMin) || decide (p.protoMax < v.2))) then 0x0E05
  else if s.withdraws rows then 0x0E05
  else if rows.any (fun p => decide (regionSize p.part < p.length)) then 0x0E01
  else 0

/-- The image of the other bank is prepared as a change of term. -/
def State.prepare (s : State) (rows : List PartRow) : State :=
  let todo := handOrder.filter (fun p => rows.any (fun r => r.part == p))
  let s : State := { s with fw := { s.fw with staged := 3, termId := s.term + 1, todo, changed := [], loaded := false, late := none, back := false, backHeld := false } }
  ((s.setEnt 0x2520 1 (s.term + 1)).setEnt 0x2520 2 (todo.headD 0)).setEnt 0x2520 4 0

/-- Combination codes after each point. -/
def State.combinations (s : State) (rows : List PartRow) : List Nat :=
  ((handOrder.filterMap (fun p => rows.find? (fun r => r.part == p))).foldl (fun (a : List PartRow × List Nat) r =>
    let l := replacePart a.1 r
    (l, a.2 ++ [combination l])) (s.fw.parts, [])).2

/-- TERM_PREPARE: code, identifier, number of parts. -/
def State.termPrepare (s : State) (addr : Nat) (protocols : List (Nat × Nat)) : State × Nat × Nat × Nat :=
  let rows := presentRows s.otherBank
  if 3 ≤ s.fw.staged ∨ s.pwr.save.isSome then (s, 0x0E04, 0, 0)
  else if s.fw.staged ≠ 2 then (s, 0x0E06, 0, 0)
  else
    let c := s.prepareCode rows protocols
    if c ≠ 0 then (s.setEnt 0x2520 3 c, c, 0, 0)
    else
      let codes := s.combinations rows
      let t := s.prepare rows
      (t.hostPut addr (codes.flatMap (le 4)), 0, t.fw.termId, codes.length)

def execTermPrepare (addr : Nat) (protocols : List (Nat × Nat)) (ref : CmdRef) (s : State) : Host.Outcome State Fault Refusal :=
  let r := s.termPrepare addr protocols
  done (r.1.complete ref r.2.1 r.2.2.1 r.2.2.2)

/-! ## Handover (R407 to R409) -/

/-- The longest freeze of the change, in µs. -/
def State.noteFreeze (s : State) (us : Nat) : State := s.setEnt 0x2520 4 (max (s.ent 0x2520 4) us)

/-- A part runs in its new version: a successor has its point now; a binding in progress starts again under a new binder. -/
def State.partRuns (s : State) (p : PartRow) : State :=
  let s : State := { s with fw := { s.fw with parts := replacePart s.fw.parts p } }
  let s := s.onComp p.part (fun c => { c with handedAt := some s.now })
  let s := if p.part = 5 then
      (s.instsWith (fun (i : InstSt) => i.bind.state == BindState.binding)).foldl (fun (s : State) n => s.onBind n (fun b => { b with claimed := false })) s
    else s
  s.judge

/-- The next part hands over, or rejects the record and the change rolls back. -/
def State.handOver (s : State) (accepted : Bool) (us : Nat) : State :=
  match s.fw.todo with
  | [] => s
  | p :: rest =>
    let s := s.noteFreeze us
    let s : State := { s with fw := { s.fw with staged := 4 } }
    if !accepted then s.rollBack
    else
      match (presentRows s.otherBank).find? (fun r => r.part == p) with
      | none => s
      | some row =>
        let old := s.running p
        let s : State := { s with fw := { s.fw with changed := old :: s.fw.changed, todo := rest, loaded := false } }
        let s := (s.partRuns row).setEnt 0x2520 2 (rest.headD 0)
        if rest = [] then s.commitTerm else s

/-- A HANDOVER event: one with another identifier, or with nothing prepared, is ignored and logged; one before the successor is
loaded waits for it. -/
def State.handoverPoint (s : State) (k : Nat) (accepted : Bool) (us : Nat) : State :=
  let e := s.ttEntry k
  if e.kind ≠ 5 then s
  else
    let s := s.fireEntry k
    if s.fw.staged < 3 ∨ s.fw.back ∨ s.fw.todo = [] ∨ e.arg ≠ s.fw.termId ∨ s.pwr.save.isSome then s.logWrite 1 1 0x0E06 [e.arg]
    else if s.fw.loaded then s.handOver accepted us
    else { s with fw := { s.fw with late := some (accepted, us) } }

def execHandover (entry : Nat) (accepted : Bool) (freeze : Nat) (s : State) : Host.Outcome State Fault Refusal :=
  unitOf 512 entry (s.handoverPoint entry accepted freeze)

/-- The next part is in the successor area and its digest is checked; a bad digest rolls the change back (log entry 40). -/
def State.successorLoaded (s : State) (ok : Bool) : State :=
  if s.fw.staged < 3 ∨ s.fw.todo = [] ∨ s.fw.back ∨ s.fw.loaded ∨ s.pwr.save.isSome then s
  else if !ok then s.rollBack
  else
    let late := s.fw.late
    let s : State := { s with fw := { s.fw with loaded := true, late := none } }
    match late with
    | some (a, us) => (s.logWrite 1 1 s.fw.termId [s.fw.todo.headD 0]).handOver a us
    | none => s

def execSuccessorLoadDone (digestOk : Bool) (s : State) : Host.Outcome State Fault Refusal := done (s.successorLoaded digestOk)

/-- The last changed part goes back to its predecessor, or rejects. -/
def State.handBackOne (s : State) (accepted : Bool) (us : Nat) : State :=
  match s.fw.changed with
  | [] => s
  | p :: rest =>
    let s := s.noteFreeze us
    if accepted then
      let s := State.partRuns { s with fw := { s.fw with changed := rest, backHeld := false } } p
      if rest = [] then s.rolledBack else s
    else State.emit { s with fw := { s.fw with backHeld := true } } (fwFault 0x1E02 (s.comp p.part).home p.part)

def execHandBack (accepted : Bool) (freeze : Nat) (s : State) : Host.Outcome State Fault Refusal :=
  done (if s.fw.back ∧ !s.fw.backHeld ∧ s.pwr.save.isNone then s.handBackOne accepted freeze else s)

def execHandBackRetry (accepted : Bool) (freeze : Nat) (s : State) : Host.Outcome State Fault Refusal :=
  done (if s.fw.back ∧ s.fw.backHeld ∧ s.pwr.save.isNone then s.handBackOne accepted freeze else s)

/-- TERM_ABORT. -/
def State.termAbort (s : State) (ref : CmdRef) : State :=
  if 3 ≤ s.fw.staged ∧ s.pwr.save.isNone then s.rollBack.complete ref 0 else s.complete ref 0x0E06

def execTermAbort (ref : CmdRef) (s : State) : Host.Outcome State Fault Refusal := done (s.termAbort ref)

/-- TERM_REVERT: the previous image is prepared. -/
def State.termRevert (s : State) : State × Nat :=
  if 3 ≤ s.fw.staged ∨ s.pwr.save.isSome then (s, 0x0E04)
  else if !s.fw.revertible then (s, 0x0E06)
  else
    let rows := presentRows s.otherBank
    let c := s.prepareCode rows []
    if c ≠ 0 then (s.setEnt 0x2520 3 c, c) else (s.prepare rows, 0)

def execTermRevert (ref : CmdRef) (s : State) : Host.Outcome State Fault Refusal :=
  let r := s.termRevert
  done (r.1.complete ref r.2)

/-! ## Negotiation (R415) -/

/-- Host features that the module grants of those asked for. -/
def State.grantable (s : State) (fn : Nat) : Nat :=
  maskOf ((List.range 12).filter (fun k =>
    !(k == 9 && !s.library) && !(k == 8 && !(s.fn fn).session) && (decide (s.ent 0x2500 6 ≠ 1) || decide (k ∈ baselineHost))))

/-- NEGOTIATE. -/
def State.negotiate (s : State) (major minor features : Nat) (ref : CmdRef) : State :=
  if major ≠ 1 then s.complete ref 0x0E07
  else
    let fn := if ref.secured then ref.fn else (s.ring ref.sq).link
    let g := maskOf ((List.range 64).filter (fun k => features.testBit k && (s.grantable fn).testBit k))
    let s : State := { s with fw := { s.fw with granted := g, negotiated := true, hostMinor := min minor Config.hostMinor, grantFn := fn } }
    s.complete ref 0 g (0x100 + Config.hostMinor)

def execNegotiate (major minor features : Nat) (ref : CmdRef) (s : State) : Host.Outcome State Fault Refusal := done (s.negotiate major minor features ref)

/-! ## The debug lock (R399) -/

/-- DEBUG_UNLOCK: every compute die that holds a model is fenced (log entry 41). -/
def State.debugUnlock (s : State) (token : Bytes) (ref : CmdRef) : State :=
  if !ref.secured then s.complete ref 0x1004
  else if !Config.tokenHolds token then s.complete ref 0x1002
  else
    let s : State := { s with fw := { s.fw with debugOpen := true } }
    let s := if s.busy = [] then s else (List.range 16).foldl (fun s d => s.fenceDie d true) s
    s.complete ref 0

def execDebugUnlock (token : Bytes) (ref : CmdRef) (s : State) : Host.Outcome State Fault Refusal := done (s.debugUnlock token ref)

/-- DEBUG_LOCK. -/
def State.debugLock (s : State) (ref : CmdRef) : State := State.complete { s with fw := { s.fw with debugOpen := false } } ref 0

def execDebugLock (ref : CmdRef) (s : State) : Host.Outcome State Fault Refusal := done (s.debugLock ref)

end Sys2Proof.Machine
end

