-- ==== Sys2Proof/Machine/Tolgil.lean ====
section
/-! DEFINITION. Tolgil packets at their target and at their requester (10_tolgil_fabric.md R265 to R276, R297, R300), host
bridges (R267), collective engines (R286 to R288; 09_requests.md R247). -/

namespace Sys2Proof.Machine

/-! ## Answers -/

/-- Send the answer of a request back to the X die that sent it; one that this module sent itself is delivered here. -/
def State.answer (s : State) (q : Packet) (opcode status : Nat) (beats : List Beat) : State :=
  let owner := match beats.find? (fun b => b.poison.isSome) with | some b => b.poison.getD 0x3FFF | none => 0x3FFF
  let mask := maskOf (((List.range beats.length).zip beats).filterMap (fun x => if x.2.poison.isSome then some x.1 else none))
  let r : Packet := { opcode, vc := 1, beats := beats.length, inst := q.inst, epoch := q.epoch, node := q.src, tag := q.tag, status,
                      src := q.node, data := beats.flatMap (·.bytes), poisonMask := mask, poisonOwner := owner }
  if nodeModule q.src = s.moduleIndex then s.takeAnswer r else s.sendPacket (nodeDie q.node) r

/-- Answer a request that is not performed: its beats come back poisoned. A STORE is acknowledged when it asked for it. -/
def State.refuse (s : State) (q : Packet) (status : Nat) : State :=
  if q.opcode = 2 then (if q.ack then s.answer q 0x31 status [] else s)
  else s.fresh.answer q 0x30 status (poisonBeats s.free q.beats)

/-- A model index that does not serve here is answered with NOT_SERVING to the sender's K0 (08 R222). -/
def State.checkServing (s : State) (q : Packet) : State :=
  if q.priv ∨ nodeModule q.src = s.moduleIndex ∨ (s.inst q.inst).bind.state = .serving then s
  else s.sendPacket dieK0 (controlPacket (nodeModule q.src) 0x38 q.inst [])

/-- Raise a cause against the requester's model, at the die named (R303). -/
def State.chargePacket (s : State) (q : Packet) (cause : Nat) (loc : FaultLoc) : State :=
  s.raise { fault cause loc with inst := if q.inst < numInsts then q.inst else 0xFF, address := tolgilAddr q.node q.offset }

/-! ## Forwarding (R278, R284) -/

/-- A packet for another module takes its second hop on a live direct port; without one it is answered NO_ROUTE, and a
posted STORE is reported as lost. -/
def State.forward (s : State) (q : Packet) : State :=
  let live := s.livePorts (s.hopModule (nodeModule q.node))
  let h := streamHash s.moduleIndex (nodeDie q.src) q.node q.vc
  match (if q.hop = 0 then live[h % live.length]? else none) with
  | some p => s.portSend p { q with hop := 1 }
  | none =>
    if q.opcode = 0x30 ∨ q.opcode = 0x31 ∨ q.vc = 3 then s
    else if q.opcode = 2 ∧ !q.ack then s.sendPacket dieK0 (controlPacket (nodeModule q.src) 0x33 q.inst [])
    else s.refuse q 5

/-- Is the packet for this module? -/
def State.isOurs (s : State) (q : Packet) : Bool := decide (nodeModule q.node = s.moduleIndex)

/-! ## LOAD and STORE at their target (R266, R272, R275) -/

/-- A LOAD of the module range: pages of weights are not read for a host endpoint (11 R325). -/
def State.loadMemory (s : State) (q : Packet) (off : Nat) : State :=
  let cause := s.accessCause q.inst q.priv off
  let loc : FaultLoc := { die := nodeDie q.node, unit := 2 }
  if cause ≠ 0 then (s.refuse q 3).chargePacket q cause loc
  else if q.priv ∧ 120 ≤ nodeModule q.src ∧ (s.page (offPage off)).holder = 0x3FF2 then
    (s.refuse q 1).raise { fault 0x1B08 loc with address := offPage off }
  else
    let b := s.readBeats (off / 64 * 64) 0x3FFF q.beats
    (s.afterRead b).answer q 0x30 (if b.any (fun x => x.poison.isSome) then 1 else 0) b

/-- A LOAD of a slate: the bytes, or the bytes poisoned; the read of an `EMPTY` slot is repeated and has no answer yet. -/
def State.loadSlate (s : State) (q : Packet) (c off : Nat) : State :=
  if 0x30000 ≤ off then
    s.answer q 0x30 0 (((List.range q.beats).map (fun i => (⟨(List.range 16).flatMap (fun j => le 4 (s.ctlWord c (off % 0x1000 / 64 * 64 + 64 * i + 4 * j))), none⟩ : Beat))))
  else
    let sl := (s.core c).slot (off / 256)
    if s.coreFenced c then (s.refuse q 2).chargePacket q 0x2005 (coreLoc c)
    else if sl.tag = .empty then s
    else
      let s := s.poisonRead c (off / 256)
      let b := (List.range q.beats).map (fun i => (⟨getBytes (s.core c).slate (off / 64 * 64 + 64 * i) 64, if sl.tag = .poison then some sl.owner else none⟩ : Beat))
      s.answer q 0x30 (if sl.tag = .poison then 1 else 0) b

/-- Serve a LOAD. -/
def State.serveLoad (s : State) (q : Packet) : State :=
  if !s.isOurs q then s.forward q
  else
    let s := s.checkServing q
    match s.ownTarget (nodeDie q.node) q.offset q.priv with
    | .core c off => s.loadSlate q c off
    | .memory off => s.loadMemory q off
    | .service _ _ => s.fresh.answer q 0x30 0 ((poisonBeats s.free q.beats).map (fun b => { b with poison := none }))
    | .lost => (s.refuse q 2).chargePacket q 0x2005 { die := nodeDie q.node }
    | .none cause => (s.refuse q 3).chargePacket q cause { die := nodeDie q.node }
    | .remote _ _ => s

/-- The beats of a packet, each with its owner when it is poisoned. -/
def packetBeats (q : Packet) : List Beat :=
  (List.range q.beats).map (fun i => ⟨padTo 64 (slice q.data (64 * i) 64), if q.poisonMask.testBit i then some q.poisonOwner else none⟩)

/-- The acknowledgement of a STORE that asked for it. -/
def State.ackStorePacket (s : State) (q : Packet) (status : Nat) : State := if q.ack then s.answer q 0x31 status [] else s

/-- Serve a STORE: it lands in a slate under the rules of R93, or in the module range under those of 06 R150 and R154. -/
def State.serveStore (s : State) (q : Packet) : State :=
  if !s.isOurs q then s.forward q
  else
    let s := s.checkServing q
    let s := if q.count then s.entered q.inst else s
    let drop (s : State) : State := if q.count then s.discarded q.inst else s
    match s.ownTarget (nodeDie q.node) q.offset q.priv with
    | .core c off =>
      let fenced := s.coreFenced c
      let s := s.land { core := c, offset := off, beats := packetBeats q, tagged := q.tagged, count := q.count, counter := q.counter,
                        inst := q.inst, epoch := q.epoch, owner := if q.poisonMask = 0 then 0x3FFF else q.poisonOwner }
      s.ackStorePacket q (if fenced then 2 else 0)
    | .memory off =>
      let cause := s.accessCause q.inst q.priv off
      let loc : FaultLoc := { die := nodeDie q.node, unit := 2 }
      if cause ≠ 0 then ((drop s).ackStorePacket q 3).chargePacket q cause loc
      else
        let w := s.writePaged q.priv (off / 64 * 64) (packetBeats q)
        if w.2 = 0 then w.1.ackStorePacket q 0
        else ((drop w.1).ackStorePacket q 3).chargePacket q w.2 loc
    | .service _ _ => s.ackStorePacket q 0
    | .lost => ((drop s).ackStorePacket q 2).chargePacket q 0x2005 { die := nodeDie q.node }
    | .none cause => ((drop s).ackStorePacket q 3).chargePacket q cause { die := nodeDie q.node }
    | .remote _ _ => s

def execLoad (pkt : Packet) (s : State) : Host.Outcome State Fault Refusal := done (s.serveLoad pkt)
def execStore (pkt : Packet) (s : State) : Host.Outcome State Fault Refusal := done (s.serveStore pkt)

/-! ## Atomics (R273, R274) -/

/-- The operations of R273; the number is the opcode. -/
def atomicResult (op old operand swap : Nat) : Nat :=
  match op with
  | 0x08 => (old + operand) % 2 ^ 32
  | 0x09 => (old + operand) % 2 ^ 64
  | 0x0A => add32 old operand
  | 0x10 => if toInt 32 operand < toInt 32 old then operand else old
  | 0x11 => min old operand
  | 0x12 => if toInt 64 operand < toInt 64 old then operand else old
  | 0x13 => min old operand
  | 0x14 => minNumber32 old operand
  | 0x18 => if toInt 32 old < toInt 32 operand then operand else old
  | 0x19 => max old operand
  | 0x1A => if toInt 64 old < toInt 64 operand then operand else old
  | 0x1B => max old operand
  | 0x1C => maxNumber32 old operand
  | _ => if old = operand then swap else old

/-- Width in bytes of an atomic. -/
def atomicWidth (op : Nat) : Nat :=
  if op = 0x22 then 16 else if op = 0x09 ∨ op = 0x12 ∨ op = 0x13 ∨ op = 0x1A ∨ op = 0x1B ∨ op = 0x21 then 8 else 4

/-- Replace `w` bytes of a beat at an offset within it. -/
def patchBeat (b : Bytes) (o w v : Nat) : Bytes := b.take o ++ le w v ++ b.drop (o + w)

/-- Bytes of the paged range as the writes that wait for their page's promotion will leave them (06 R154). -/
def State.coming (s : State) (off n : Nat) : Bytes :=
  getBytes ((s.mem.waitingWrites.filter (fun w => w.page == offPage off)).foldl (fun m w => putBytes m w.offset w.bytes) s.mem.bytes) off n

/-- An atomic on the paged range, by its home agent. -/
def State.atomicMemory (s : State) (q : Packet) (op off : Nat) : State :=
  let w := atomicWidth op
  let loc : FaultLoc := { die := nodeDie q.node, unit := 2 }
  let cause := s.accessCause q.inst q.priv off
  let o := off % 64
  let line := off - o
  if cause ≠ 0 then (s.refuse q 3).chargePacket q cause loc
  else
    let b := s.readBeat line 0x3FFF
    if b.poison.isSome then s.fresh.answer q 0x30 1 [⟨freeBeat s.free 0, b.poison⟩]
    else
      let cur := s.coming line 64
      let old := field cur o w
      let r := s.writePaged q.priv line [⟨patchBeat cur o w (atomicResult op old (field q.data 0 w) (field q.data 16 w)), none⟩]
      if r.2 = 0 then r.1.fresh.answer q 0x30 0 [⟨le w old ++ (freeBeat s.free 0).drop w, none⟩] else (r.1.refuse q 1).chargePacket q r.2 loc

/-- An add on a slate slot (R274): a remote write under R93, applied on `FULL` alone. -/
def State.atomicSlate (s : State) (q : Packet) (op c off : Nat) : State :=
  let k := s.core c
  let w := atomicWidth op
  if op ∉ [0x08, 0x09, 0x0A] then (s.refuse q 3).chargePacket q 0x1A02 (coreLoc c)
  else if s.coreFenced c then (s.refuse q 2).chargePacket q 0x2005 (coreLoc c)
  else if 0x30000 ≤ off then (s.refuse q 3).chargePacket q 0x1308 (coreLoc c)
  else if !k.instValid || k.inst != q.inst then (s.refuse q 3).chargePacket q 0x1306 (coreLoc c (off / 256))
  else if k.epoch ≠ q.epoch then (s.refuse q 3).onCore c (fun k => { k with staleCount := min (k.staleCount + 1) 0xFFFFFFFF })
  else if (k.slot (off / 256)).tag ≠ .full then (s.refuse q 1).chargePacket q 0x1A03 (coreLoc c (off / 256))
  else
    let old := unle (getBytes k.slate off w)
    let s := s.onCore c (fun k => k.putSlate off (le w (atomicResult op old (field q.data 0 w) 0)))
    s.fresh.answer q 0x30 0 [⟨le w old ++ (freeBeat s.free 0).drop w, none⟩]

/-- Serve an atomic of an opcode. -/
def State.serveAtomic (s : State) (op : Nat) (q : Packet) : State :=
  let loc : FaultLoc := { die := nodeDie q.node }
  if 120 ≤ nodeModule q.node then (s.refuse q 3).chargePacket q 0x1A02 loc
  else if !s.isOurs q then s.forward q
  else
    let s := s.checkServing q
    if q.offset % atomicWidth op ≠ 0 then (s.refuse q 3).chargePacket q 0x1A02 loc
    else
      match s.ownTarget (nodeDie q.node) q.offset q.priv with
      | .core c off => s.atomicSlate q op c off
      | .memory off => s.atomicMemory q op off
      | .lost => (s.refuse q 2).chargePacket q 0x2005 loc
      | .none cause => (s.refuse q 3).chargePacket q (if nodeDie q.node < 20 then cause else 0x1A02) loc
      | _ => (s.refuse q 3).chargePacket q 0x1A02 loc

def execAddI32 (pkt : Packet) (s : State) : Host.Outcome State Fault Refusal := done (s.serveAtomic 0x08 pkt)
def execAddI64 (pkt : Packet) (s : State) : Host.Outcome State Fault Refusal := done (s.serveAtomic 0x09 pkt)
def execAddF32 (pkt : Packet) (s : State) : Host.Outcome State Fault Refusal := done (s.serveAtomic 0x0A pkt)
def execMinS32 (pkt : Packet) (s : State) : Host.Outcome State Fault Refusal := done (s.serveAtomic 0x10 pkt)
def execMinU32 (pkt : Packet) (s : State) : Host.Outcome State Fault Refusal := done (s.serveAtomic 0x11 pkt)
def execMinS64 (pkt : Packet) (s : State) : Host.Outcome State Fault Refusal := done (s.serveAtomic 0x12 pkt)
def execMinU64 (pkt : Packet) (s : State) : Host.Outcome State Fault Refusal := done (s.serveAtomic 0x13 pkt)
def execMinF32 (pkt : Packet) (s : State) : Host.Outcome State Fault Refusal := done (s.serveAtomic 0x14 pkt)
def execMaxS32 (pkt : Packet) (s : State) : Host.Outcome State Fault Refusal := done (s.serveAtomic 0x18 pkt)
def execMaxU32 (pkt : Packet) (s : State) : Host.Outcome State Fault Refusal := done (s.serveAtomic 0x19 pkt)
def execMaxS64 (pkt : Packet) (s : State) : Host.Outcome State Fault Refusal := done (s.serveAtomic 0x1A pkt)
def execMaxU64 (pkt : Packet) (s : State) : Host.Outcome State Fault Refusal := done (s.serveAtomic 0x1B pkt)
def execMaxF32 (pkt : Packet) (s : State) : Host.Outcome State Fault Refusal := done (s.serveAtomic 0x1C pkt)
def execCas32 (pkt : Packet) (s : State) : Host.Outcome State Fault Refusal := done (s.serveAtomic 0x20 pkt)
def execCas64 (pkt : Packet) (s : State) : Host.Outcome State Fault Refusal := done (s.serveAtomic 0x21 pkt)
def execCas128 (pkt : Packet) (s : State) : Host.Outcome State Fault Refusal := done (s.serveAtomic 0x22 pkt)

/-! ## Answers and control packets -/

/-- A RESPONSE or COMPLETION: for a unit of this module, or carried on. -/
def State.serveAnswer (s : State) (q : Packet) : State :=
  if !s.isOurs q then s.forward q
  else if q.status = 5 then (s.takeAnswer q).reroute
  else s.takeAnswer q

def execResponse (pkt : Packet) (s : State) : Host.Outcome State Fault Refusal := done (s.serveAnswer pkt)
def execCompletion (pkt : Packet) (s : State) : Host.Outcome State Fault Refusal := done (s.serveAnswer pkt)

/-- A NOTICE at K0. -/
def State.serveNotice (s : State) (q : Packet) : State := if s.isOurs q then s.storeLost q.inst else s.forward q

def execNotice (pkt : Packet) (s : State) : Host.Outcome State Fault Refusal := done (s.serveNotice pkt)

/-- A RELEASE at K0: the model is released while that step is in progress (R300). -/
def State.serveRelease (s : State) (q : Packet) (step : Nat) : State :=
  if !s.isOurs q then s.forward q
  else if q.inst < numInsts ∧ (s.inst q.inst).roster.step.any (fun st => st.number == step) then s.releaseLocal q.inst
  else s

def execTolgilRelease (pkt : Packet) (step : Nat) (s : State) : Host.Outcome State Fault Refusal := done (s.serveRelease pkt step)

/-- A CONTROL message lands in K0's mailbox. -/
def State.serveControl (s : State) (q : Packet) : State :=
  if s.isOurs q then
    let h := s.hear q.inst q.data
    let w := if h.2 then h else s.hearWeights (nodeModule q.src) q.data
    let b := if w.2 then w else s.hearBell q.inst q.data
    if b.2 then b.1 else { s with fab := { s.fab with mailbox := s.fab.mailbox ++ [q] } }
  else s.forward q

def execControl (pkt : Packet) (s : State) : Host.Outcome State Fault Refusal := done (s.serveControl pkt)

/-! ## Host bridges (R267) -/

/-- A request to a host endpoint at its bridge module. -/
def State.bridge (s : State) (q : Packet) (answer : Option Bytes) : State :=
  if nodeModule q.node < 120 then s
  else if nodeDie q.node ≠ 0 ∨ s.hopModule (nodeModule q.node) = 0xFF then (s.refuse q 3).chargePacket q 0x1A01 { die := 20, unit := 11 }
  else if s.hopModule (nodeModule q.node) ≠ s.moduleIndex then s.forward q
  else if q.opcode = 2 then
    if s.hostLinks = 0 then s.ackStorePacket q 1
    else (s.hostPut q.offset (q.data.take (64 * q.beats))).ackStorePacket q 0
  else if q.opcode = 1 then
    match answer with
    | some b => if s.hostLinks = 0 then s.refuse q 1
      else s.answer q 0x30 0 ((List.range q.beats).map (fun i => (⟨padTo 64 (slice b (64 * i) 64), none⟩ : Beat)))
    | none => s.refuse q 1
  else (s.refuse q 3).chargePacket q 0x1A02 { die := 20, unit := 11 }

def execHostBridgeRequest (pkt : Packet) (answer : Option Bytes) (s : State) : Host.Outcome State Fault Refusal := done (s.bridge pkt answer)

/-! ## Collective engines (R286 to R288) -/

/-- Working X dies, ascending: each takes the granules whose index has its rank (16 R441). -/
def State.workingX (s : State) : List Nat := (List.range 4).map (20 + ·) |>.filter s.dieWorks

/-- Does the engine of an X die take granule `g`? -/
def State.takesGranule (s : State) (x g : Nat) : Bool :=
  let w := s.workingX
  match w.idxOf? x with
  | some r => g % w.length == r
  | none => false

/-- Module indices of a rank group, in rank order; group 0 without a list is the members of the placement. -/
def State.rankGroup (s : State) (n g : Nat) : List Nat :=
  let p := (s.inst n).bind.place
  match p.groups[g]? with
  | some l => if l.isEmpty then p.members else l
  | none => p.members

/-- Bytes of an element as it moves; formats of whole bytes only reach the engines. -/
def elemBytes (f : Nat) : Nat := fmtBits f / 8

/-- FP32 code of an element of IN_FMT. -/
def widen (f c : Nat) : Nat := rnd32 (decCode f false c).1

/-- The reduced element of several ranks' elements, ascending, converted once (R287). -/
def reduceElem (inF outF : Nat) (l : List Nat) : Nat :=
  match l.map (widen inF) with
  | [] => 0
  | a :: r => (convNum outF false none (dec32 (r.foldl add32 a))).1

/-- Write bytes of this engine's share of a destination, beat by beat; a poisoned beat carries its owner. -/
def State.putShare (s : State) (x off : Nat) (b : List Beat) : State :=
  ((List.range b.length).zip b).foldl (fun s p => if s.takesGranule x (p.1 / 4) then s.writeBeat (off + 64 * p.1) p.2 else s) s

/-- The counted increment at DONE (R286): on a core of this module, or sent. -/
def State.collectiveDone (s : State) (x : Nat) (d : Collective) : State :=
  let s := s.issued d.inst
  match s.target d.done true with
  | .core c _ =>
    let k := s.core c
    if k.instValid && k.inst == d.inst && k.epoch == d.epoch then (s.onCore c (fun k => k.increment d.counter)).applied d.inst
    else s.discarded d.inst
  | .remote node off =>
    (s.exited d.inst).sendPacket x { opcode := 2, vc := 2, beats := 1, priv := true, inst := d.inst, epoch := d.epoch, node, offset := off,
                                     counter := d.counter, count := true, data := freeBeat s.free 0 } |> State.fresh
  | _ => s.discarded d.inst

/-- Send this engine's share of a run of bytes to a rank's destination, CHUNK bytes a STORE. -/
def State.sendShare (s : State) (x : Nat) (d : Collective) (m off : Nat) (b : List Beat) : State :=
  ((List.range ((b.length + 3) / 4)).filter (s.takesGranule x)).foldl (fun s g =>
    let part := (b.drop (4 * g)).take 4
    let mask := maskOf (((List.range part.length).zip part).filterMap (fun p => if p.2.poison.isSome then some p.1 else none))
    s.sendPacket x { opcode := 2, vc := 2, beats := part.length, priv := true, inst := d.inst, epoch := d.epoch,
                     node := nodeOf m (nodeDie (d.dst / 2 ^ 52)), offset := off + 256 * g,
                     data := part.flatMap (·.bytes), poisonMask := mask, poisonOwner := mergePoison (part.filterMap (·.poison)) }) s

/-- Beats that merge poison: the owner of 03 R80 over the owners of the inputs. -/
def mergedBeat (bytes : Bytes) (owners : List (Option Nat)) : Beat :=
  let l := owners.filterMap id
  ⟨bytes, if l.isEmpty then none else some (match l.eraseDups with | [x] => x | _ => 0x3FFF)⟩

/-- Reduce-scatter on this rank: pieces of all ranks, ascending; a missing one leaves its outputs poisoned (R287, R288). -/
def State.reducePieces (s : State) (d : Collective) (rank ranks : Nat) (pieces : List (Nat × Option (List Beat))) : List Beat :=
  let w := elemBytes d.inFmt
  let src := d.src % 2 ^ 52 + rank * d.elements * w
  let n := (d.elements * w + 63) / 64
  let ownBeats := s.readBeats src 0x3FFF n
  let piece (r : Nat) : Option (List Beat) := if r = rank then some ownBeats else (pieces.find? (fun p => p.1 == r)).bind (·.2)
  let all := (List.range ranks).map piece
  let elems (b : List Beat) : List Nat :=
    let bytes := b.flatMap (·.bytes)
    (List.range d.elements).map (fun i => field bytes (w * i) w)
  let lists := all.filterMap (fun p => p.map elems)
  let bytes := ((List.range d.elements).map (fun i => reduceElem d.inFmt d.outFmt (lists.map (fun l => l.getD i 0)))).flatMap (le (elemBytes d.outFmt))
  let wo := elemBytes d.outFmt
  (toBeats bytes).zipIdx.map (fun p =>
    if all.any (·.isNone) then ⟨freeBeat s.free (2 ^ 60 + p.2), some 0x3FFF⟩
    else mergedBeat p.1.bytes ((all.filterMap id).flatMap (fun b => ((b.drop (p.2 * w / max 1 wo)).take (max 1 (w / max 1 wo))).map (·.poison))))

/-- Add slice results to the list of their row. -/
def addSlices (l : List (Nat × List SliceResult)) (p : Nat × List SliceResult) : List (Nat × List SliceResult) :=
  if l.any (fun e => e.1 == p.1) then mapIf (fun (e : Nat × List SliceResult) => e.1 == p.1) (fun e => (e.1, e.2 ++ p.2)) l else l ++ [p]

/-- One engine executes a posted descriptor. -/
def State.collective (s : State) (x : Nat) (d : Collective) (pieces : List (Nat × Option (List Beat))) (slices : List (Nat × List SliceResult)) : State :=
  let group := s.rankGroup d.inst d.group
  let rank := (group.idxOf? s.moduleIndex).getD 0
  let len := d.elements * elemBytes d.inFmt
  let src := d.src % 2 ^ 52
  let dst := d.dst % 2 ^ 52
  let beats (i : Nat) : List Beat := s.readBeats (src + i * len) 0x3FFF ((len + 63) / 64)
  let ranked := (List.range group.length).zip group
  let spread (s : State) (f : Nat → List Beat) : State :=
    (ranked.filter (fun p => p.1 != rank)).foldl (fun (s : State) (p : Nat × Nat) => s.sendShare x d p.2 (dst + rank * len) (f p.1)) s
  let s : State := match d.op with
    | 0 => (spread s beats).putShare x dst (s.reducePieces d rank group.length pieces)
    | 1 => (spread s (fun _ => beats 0)).putShare x (dst + rank * len) (beats 0)
    | 2 => (spread s beats).putShare x (dst + rank * len) (beats rank)
    | 3 => s.onStep d.inst (fun st => { st with slices := slices.foldl addSlices st.slices })
    | _ => s
  (if d.op = 3 then s else s.fresh).collectiveDone x d

def execCollectiveDescriptor (die : Nat) (desc : Collective) (pieces : List (Nat × Option (List Beat))) (slices : List (Nat × List SliceResult))
    (s : State) : Host.Outcome State Fault Refusal :=
  if 20 ≤ die ∧ die < 24 then (if desc.inst < numInsts then .next (s.collective die desc pieces slices) else .fault (.noSuchUnit desc.inst))
  else .fault (.noSuchUnit die)

end Sys2Proof.Machine
end

