-- ==== Sys2Proof/Machine/Links.lean ====
section
/-! DEFINITION. Tolgil ports, link entries, flits and the link supervisors (10_tolgil_fabric.md R277 to R300;
16_faults_availability.md R444). -/

namespace Sys2Proof.Machine

/-! ## Hall passes (R278, R280) -/

/-- Passes come back to the sender: those at the receiver first, then those counted in flight. -/
def returnPasses (vc pool n : Nat) (p : PortSt) : PortSt :=
  onPass p (2 * vc + pool) (fun b => { b with held := b.held + n, occupied := b.occupied - n, inFlight := b.inFlight - (n - b.occupied) })

/-- Packets that waited on a port go out while they can. -/
def State.pump (s : State) (p : Nat) : State := s.drainPort p (s.port p).waiting.length

/-- A HALL_PASS entry (R278). -/
def State.gotPasses (s : State) (p vc pool n : Nat) : State := (s.onPort p (returnPasses vc pool n)).pump p

def execHallPass (port vc pool passes : Nat) (s : State) : Host.Outcome State Fault Refusal :=
  unitOf numPorts port (s.gotPasses port vc pool passes)

/-- The sum of a book. -/
def bookSum (b : PassBook) : Nat := b.held + b.inFlight + b.occupied + b.returns

/-- The partner's counts differ from ours beyond the two in-flight terms, or one side is out of balance. -/
def booksClash (k : Nat) (own other : PassBook) : Bool :=
  decide (bookSum own ≠ initialGrant k) || decide (bookSum other ≠ initialGrant k) ||
  decide (own.inFlight + other.inFlight + other.returns + own.returns < max own.held other.held - min own.held other.held)

/-- An AUDIT entry (R280): on a difference cause 0x1A09 and a retrain that restores every pool; three in an hour hold the
port down (16 R444). -/
def State.auditEntry (s : State) (p vc pool : Nat) (b : PassBook) : State :=
  if !booksClash (2 * vc + pool) (passBook (s.port p) (2 * vc + pool)) b then s
  else
    let s := s.raise { fault 0x1A09 (portLoc p) with flags := 16 }
    let s := (s.onPort p (fun st => countPort 5 1 { st with narrowing := true, passes := [], retrains := (st.retrains + 1) % 65536 })).countError (unitKey (portLoc p)) 0x1A09
    if 3 ≤ s.errorsIn (unitKey (portLoc p)) 0x1A09 ticksPerHour && s.sparing then
      ((s.holdPort p).raise (fault 0x2006 (portLoc p))).spared (portLoc p)
    else s

def execAudit (port vc pool held inFlight occupied returns : Nat) (s : State) : Host.Outcome State Fault Refusal :=
  unitOf numPorts port (s.auditEntry port vc pool ⟨held, inFlight, occupied, returns⟩)

/-- The eight AUDIT entries of a port. -/
def auditEntries (p : PortSt) : List LinkEntry :=
  (List.range 8).map (fun k => let b := passBook p k; .audit (k / 2) (k % 2) b.held b.inFlight b.occupied b.returns)

def State.sendAudit (s : State) (p : Nat) : State := if (s.port p).state = 2 then s.sendLinks p (auditEntries (s.port p)) else s

def execHallPassAuditSend (port : Nat) (s : State) : Host.Outcome State Fault Refusal := unitOf numPorts port (s.sendAudit port)

/-! ## Heartbeats (R269, R295, R296) -/

/-- Dies that a partner's HEARTBEAT marks dead are lost; live ones of a lost node start their 100 ms. -/
def State.markDies (s : State) (m live : Nat) : State :=
  if 120 ≤ m ∨ s.route m = 0 then s
  else (List.range 25).foldl (fun s d =>
    if live.testBit d then
      (if s.nodeState (nodeOf m d) = .lost ∧ !s.fab.liveSince.any (fun e => e.1 == nodeOf m d) then
        { s with fab := { s.fab with liveSince := sins s.fab.liveSince (nodeOf m d) s.now } } else s)
    else
      let s := s.nodeLost (nodeOf m d)
      { s with fab := { s.fab with liveSince := serase s.fab.liveSince (nodeOf m d) } }) s

/-- A HEARTBEAT entry: this module's own index under another serial number holds the port down with 0x1A08. -/
def State.partnerBeat (s : State) (p index serial incarnation live : Nat) : State :=
  if index = s.moduleIndex ∧ index ≠ 0xFF ∧ serial ≠ unle Config.serialNumber then
    (s.holdPort p).raise { fault 0x1A08 (portLoc p) with detail := index }
  else
    let s := s.onPort p (fun st => { st with partner := some index, partnerSerial := serial, partnerIncarnation := incarnation, partnerLive := live, lastHeartbeat := s.now })
    s.markDies index live

def execHeartbeat (port index serial incarnation liveness : Nat) (s : State) : Host.Outcome State Fault Refusal :=
  unitOf numPorts port (s.partnerBeat port index serial incarnation liveness)

/-- Every heartbeat interval a trained port sends its HEARTBEAT. -/
def State.sendBeat (s : State) (p : Nat) : State :=
  if (s.port p).state = 2 ∨ (s.port p).state = 1 then s.sendLinks p [s.heartbeatEntry] else s

def execHeartbeatSend (port : Nat) (s : State) : Host.Outcome State Fault Refusal := unitOf numPorts port (s.sendBeat port)

/-- A WIDTH entry: the partner has retrained to these lanes. -/
def State.gotWidth (s : State) (p lanes : Nat) : State :=
  if (s.port p).state = 2 ∧ lanes ∈ [1, 2, 4] then s.onPort p (fun st => { st with lanes }) else s

def execWidth (port lanes : Nat) (s : State) : Host.Outcome State Fault Refusal := unitOf numPorts port (s.gotWidth port lanes)

/-! ## Ports going down and coming up (R294, R295) -/

def execPortLossOfTraining (port : Nat) (s : State) : Host.Outcome State Fault Refusal := unitOf numPorts port (s.portDown port)

def execPortSilenceTimeout (port : Nat) (s : State) : Host.Outcome State Fault Refusal := unitOf numPorts port (s.portDown port)

/-- A retrain attempt of a down port: it comes up with the partner it had before. -/
def State.retrain (s : State) (p : Nat) (trained : Bool) (index serial incarnation live : Nat) : State :=
  let st := s.port p
  if st.state ≠ 0 ∨ st.held ∨ !s.portEnabled p ∨ !trained ∨ s.widthFor p = 0 then s
  else if (match st.partner with | some i => decide (i ≠ index ∨ st.partnerSerial ≠ serial) | none => false) then s
  else
    let s := s.onPort p (fun st => { st with retrains := (st.retrains + 1) % 65536 })
    (s.portComesUp p (s.widthFor p)).partnerBeat p index serial incarnation live

def execPortRetrain (port : Nat) (trained : Bool) (index serial incarnation liveness : Nat) (s : State) : Host.Outcome State Fault Refusal :=
  unitOf numPorts port (s.retrain port trained index serial incarnation liveness)

/-- A port whose training was started finishes it and exchanges link entries. -/
def State.trainedFirst (s : State) (p index serial incarnation live : Nat) : State :=
  if (s.port p).state ≠ 1 ∨ s.widthFor p = 0 then s
  else (s.portComesUp p (s.widthFor p)).partnerBeat p index serial incarnation live

def execPortTrained (port : Nat) (index serial incarnation liveness : Nat) (s : State) : Host.Outcome State Fault Refusal :=
  unitOf numPorts port (s.trainedFirst port index serial incarnation liveness)

def execLaneFailure (port lane : Nat) (s : State) : Host.Outcome State Fault Refusal :=
  if lane < 4 then unitOf numPorts port (s.laneFails port lane) else .fault (.noSuchUnit lane)

/-- A narrowing retrain completes: the port resumes at its width, tells its partner, sends what waited. -/
def State.retrainEnds (s : State) (p lanes : Nat) : State :=
  if (s.port p).state = 2 ∧ (s.port p).narrowing ∧ lanes ∈ [1, 2, 4] then
    ((s.onPort p (fun st => { st with narrowing := false, lanes })).sendLinks p [.width lanes]).pump p
  else s

def execRetrainDone (port lanes : Nat) (s : State) : Host.Outcome State Fault Refusal := unitOf numPorts port (s.retrainEnds port lanes)

/-! ## Flits (R289 to R291) -/

/-- A packet of a flit, by its opcode; an unknown one is discarded with 0x1A02 logged (R272). -/
def State.onPacket (s : State) (p : Nat) (q : Packet) : State :=
  match q.opcode with
  | 0x00 => s
  | 0x01 => if 120 ≤ nodeModule q.node ∧ s.hopModule (nodeModule q.node) = s.moduleIndex then s else s.serveLoad q
  | 0x02 => if 120 ≤ nodeModule q.node ∧ s.hopModule (nodeModule q.node) = s.moduleIndex then s else s.serveStore q
  | 0x30 | 0x31 => s.serveAnswer q
  | 0x33 => s.serveNotice q
  | 0x34 => s.serveRelease q (field q.data 0 8)
  | 0x38 => s.serveControl q
  | op =>
    if op ∈ [0x08, 0x09, 0x0A, 0x10, 0x11, 0x12, 0x13, 0x14, 0x18, 0x19, 0x1A, 0x1B, 0x1C, 0x20, 0x21, 0x22] then s.serveAtomic op q
    else s.raise { fault 0x1A02 (portLoc p) with cls := 0, detail := op }

/-- A link entry of a flit. -/
def State.onLink (s : State) (p : Nat) (l : LinkEntry) : State :=
  match l with
  | .hallPass vc pool n => s.gotPasses p vc pool n
  | .heartbeat i ser inc live => s.partnerBeat p i ser inc live
  | .audit vc pool h i o r => s.auditEntry p vc pool ⟨h, i, o, r⟩
  | .width n => s.gotWidth p n

/-- Units of a flit move from in flight to the receiver when it is acknowledged. -/
def landed (q : Packet) (p : PortSt) : PortSt :=
  onPass p (2 * q.vc + q.hop) (fun b => { b with inFlight := b.inFlight - packetUnits q, occupied := b.occupied + min (packetUnits q) b.inFlight })

/-- Flits up to `a` have been received in order. -/
def ackedUpTo (a : Nat) (p : PortSt) : PortSt :=
  let isOld (f : Flit) : Bool := decide ((a + 4096 - f.seq) % 4096 < 2048)
  let p := (p.replay.filter isOld).foldl (fun p f => f.packets.foldl (fun p q => landed q p) p) p
  { p with replay := p.replay.filter (fun f => !isOld f), acked := a }

/-- The key of a lane's error counts. -/
def laneKey (p l : Nat) : Nat := 2 ^ 59 + 4 * p + l

/-- Codewords of a lane in 10 s. -/
def codewords10s : Nat := 390625000

/-- Error counts of a port's lanes: 16 uncorrectable codewords in 1 s, or more than 1 corrected in 10^e over 10 s (16 R444). -/
def State.laneErrors (s : State) (p : Nat) (corrected bad : List Nat) : State :=
  let s := s.onPort p (fun st => countPort 1 bad.length (countPort 0 corrected.length st))
  let s := corrected.foldl (fun s l => s.countError (laneKey p l) 0) s
  let s := bad.foldl (fun s l => s.countError (laneKey p l) 1) s
  (corrected ++ bad).eraseDups.foldl (fun s l =>
    let hit := decide (16 ≤ s.errorsIn (laneKey p l) 1 ticksPerSec) ||
      decide (codewords10s < s.errorsIn (laneKey p l) 0 (10 * ticksPerSec) * 10 ^ s.ent 0x2610 4)
    if hit && s.sparing && decide (l < 4) then (s.laneFails p l).spared (portLoc p (2 ^ l)) else s) s

/-- A bad flit, or one that comes after it: discarded, NAK sent; 64 bad ones in a row are a loss of training. -/
def State.badFlit (s : State) (p : Nat) : State :=
  let s := s.onPort p (fun st => countPort 3 1 { st with badRun := st.badRun + 1, nakPending := true })
  if 64 ≤ (s.port p).badRun then s.portDown p else s

/-- A flit received whole: what it acknowledges, a replay that it asks for, then its slots if it is the next in order. -/
def State.goodFlit (s : State) (p : Nat) (f : Flit) : State :=
  let s := if f.ackValid then s.onPort p (ackedUpTo f.ack) else s
  let s := if f.nak then s.onPort p (fun st => countPort 2 st.replay.length st) else s
  let s := s.pump p
  if f.seq ≠ (s.port p).rxSeq then s.onPort p (fun st => { st with nakPending := true })
  else
    let s := s.onPort p (fun st => { st with rxSeq := (st.rxSeq + 1) % 4096, badRun := 0, nakPending := false })
    if f.idle then s
    else
      let s := f.links.foldl (fun s l => s.onLink p l) s
      f.packets.foldl (fun s q =>
        let s := s.onPacket p q
        if (s.port p).state = 2 ∧ q.opcode ≠ 0 then s.sendLinks p [.hallPass q.vc q.hop (packetUnits q)] else s) s

/-- A flit arrives on a port that is up. -/
def State.receiveFlit (s : State) (p : Nat) (f : Option Flit) (corrected bad : List Nat) : State :=
  if (s.port p).state ≠ 2 then s
  else
    let s := s.laneErrors p corrected bad
    if (s.port p).state ≠ 2 then s
    else match f with
      | some f => if bad.isEmpty then s.goodFlit p f else s.badFlit p
      | none => s.badFlit p

def execFlitReceive (port : Nat) (flit : Option Flit) (corrected uncorrectable : List Nat) (s : State) : Host.Outcome State Fault Refusal :=
  unitOf numPorts port (s.receiveFlit port flit corrected uncorrectable)

/-! ## The supervisors (R296, R298) -/

/-- The supervisor timeout in force, in ticks: the old one while a raised one waits for LIMITs (R302). -/
def State.timeoutTicks (s : State) : Nat :=
  match s.fab.timeoutHold with
  | some h => (if h.2.any (fun n => (s.inst n).bind.state == .serving) then h.1 else s.ent 0x2300 2) * ticksPerUs
  | none => s.ent 0x2300 2 * ticksPerUs

/-- A request outstanding for T, or `SUSPECT` for T: the node is lost. -/
def State.supervise (s : State) (n : Nat) : State :=
  match s.fab.outstanding.find? (fun o => o.node == n) with
  | some o => (s.reach (o.since + s.timeoutTicks)).nodeLost n
  | none =>
    if s.nodeState n = .suspect then (s.reach (sget s.now s.fab.suspectSince n + s.timeoutTicks)).nodeLost n else s

def execSupervisorTimeout (node : Nat) (s : State) : Host.Outcome State Fault Refusal := unitOf 4096 node (s.supervise node)

/-- A lost node that has been reachable and live for 100 ms is `LIVE` again; the incarnation is recorded. -/
def State.liveAgain (s : State) (n incarnation : Nat) : State :=
  if s.nodeState n = .lost ∧ s.reachable (nodeModule n) ∧ s.route (nodeModule n) ≠ 0 then
    let since := sget s.now s.fab.liveSince n
    let s := (s.reach (since + 100 * ticksPerMs)).setNode n .live
    { s with fab := { s.fab with liveSince := serase s.fab.liveSince n, incarnations := sset 0 s.fab.incarnations (nodeModule n) incarnation } }
  else s

def execNodeLiveAgain (node incarnation : Nat) (s : State) : Host.Outcome State Fault Refusal :=
  unitOf 3840 node (if nodeModule node = s.moduleIndex then s else s.liveAgain node incarnation)

def execTagQuarantineEnd (die tag : Nat) (s : State) : Host.Outcome State Fault Refusal :=
  unitOf 4096 tag { s with fab := { s.fab with quarantined := s.fab.quarantined.filter (· != (die, tag)) } }

def execRouteChangeDrainEnd (die node vc : Nat) (s : State) : Host.Outcome State Fault Refusal := unitOf 25 die (s.endDrain die node vc)

def execViaNoRouteEnd (via dest : Nat) (s : State) : Host.Outcome State Fault Refusal :=
  unitOf 120 via (State.reroute { s with fab := { s.fab with badVias := s.fab.badVias.filter (· != (via, dest)) } })

end Sys2Proof.Machine
end

