-- ==== Sys2Proof/Machine/Limits.lean ====
section
/-! DEFINITION. What a written value of a dictionary entry has to satisfy: the range of its entry and the constraints that the
chapters state between entries (17_object_dictionary.md R456, R460, R478; the settings table of each chapter). -/

namespace Sys2Proof.Machine

/-- Sum of sub-indices 1 to 5 of an index with `n` in place of one. -/
def State.slotSum (s : State) (i sub n : Nat) : Nat :=
  ((List.range 5).map (fun k => if k + 1 = sub then n else s.ent i (k + 1))).sum

/-- A window descriptor (06_memory_tiers.md R159). -/
def windowOk (b : Bytes) : Bool :=
  let n := field b 2 1
  if field b 0 1 = 0 then true
  else
    field b 0 1 == 1 && decide (field b 1 1 < 64) && decide (1 ≤ n) && decide (n ≤ 64) && field b 3 5 == 0 &&
    field b 8 8 % (4096 * n) == 0 && decide (field b 8 8 ≤ 2 ^ 40) &&
    (List.range n).all (fun j => decide (16 ≤ field b (0x10 + 8 * j) 2 % 32) && decide (field b (0x10 + 8 * j) 2 % 32 ≤ 19) && field b (0x12 + 8 * j) 2 == 0)

/-- The constraints on the value `n`, or bytes `b`, of a module entry against the current values of others. -/
def State.moduleBounds (s : State) (i sub n : Nat) (b : Bytes) : Bool :=
  match i, sub with
  | 0x1100, 4 => n == 0 || s.mgmt.key.isSome
  | 0x2000, 4 => n % 50 == 0
  | 0x2000, 6 => n == 0 || decide (600 ≤ n)
  | 0x2000, 7 => n == 0 || decide (600 ≤ n)
  | 0x2020, 1 => decide (n + 2 ≤ s.ent 0x2020 2)
  | 0x2020, 2 => decide (s.ent 0x2020 1 + 2 ≤ n)
  | 0x2120, 1 => decide (unle b < 2 ^ 120)
  | 0x2210, k => decide (s.slotSum 0x2210 k n ≤ 64)
  | 0x2211, k => decide (s.slotSum 0x2211 k n ≤ 64)
  | 0x2240, 1 => n % 65536 == 0
  | 0x2240, 2 => n % 262144 == 0
  | 0x2260, _ => windowOk b
  | 0x2300, 1 => decide (n ≤ 119) || n == 0xFF
  | 0x2300, 2 => decide (8 * s.ent 0x2300 3 ≤ n)
  | 0x2300, 3 => decide (8 * n ≤ s.ent 0x2300 2)
  | 0x2310, _ => decide (n < 2 ^ 47) && decide (bits n 18 16 ≤ 4)
  | 0x2320, _ => decide (n ≤ 119) || n == 0xFF
  | 0x2330, _ => decide (bits n 3 2 ≤ 2)
  | 0x2400, 2 => decide (n ≤ 20) || n == 0xFF
  | 0x2400, 6 => n % 16 == 0
  | 0x2400, 0xC => n % 64 == 0
  | 0x2530, 4 => n != s.ent 0x2540 2
  | 0x2540, 2 => n != s.ent 0x2530 4
  | 0x2560, 1 => n != s.ent 0x2600 1
  | 0x2600, 1 => n != s.ent 0x2560 1
  | _, _ => true

/-- The constraints on the value of an entry of an instance range, by block and sub-index. -/
def instBounds (block sub n : Nat) : Bool :=
  match block, sub with
  | 0x20, 3 => n == 1
  | 0x20, 4 => decide (n ≤ 20) || n == 0xFF
  | 0x40, 4 => n % 16 == 0
  | 0x60, 2 => n % 64 == 0
  | _, _ => true

/-- Is index `i` in the range of an instance (R461)? -/
def isInst (i : Nat) : Bool := decide (0x4000 ≤ i) && decide (i < 0x8000)

/-- Instance whose range holds index `i`, and its block (R462). -/
def instOf (i : Nat) : Nat := (i - 0x4000) / 256
def instBlock (i : Nat) : Nat := i % 256

/-- Length, range and constraints of a value of entry `e` at index `i` (R456, R460). -/
def State.valueOk (s : State) (e : EntryDef) (i : Nat) (b : Bytes) : Bool :=
  b.length == e.len &&
  if e.typ = 7 ∨ e.typ = 8 then s.moduleBounds i e.sub 0 b
  else decide (e.lo ≤ unle b) && decide (unle b ≤ e.hi) &&
    (if isInst i then instBounds (instBlock i) e.sub (unle b) else s.moduleBounds i e.sub (unle b) b)

/-- Indices bound to more than one module that are not `FREE`. -/
def State.spanning (s : State) : Bool := s.busy.any (fun n => decide (1 < (s.inst n).bind.place.modules))

/-- The refusals that depend on what the module does at the time of the write. -/
def State.accepts (s : State) (i sub n : Nat) : Bool :=
  match i, sub with
  | 0x2000, 1 => n != 1 || !s.spanning
  | 0x2230, k => decide (n + ((List.range 4).map (fun c => if c + 1 = k then 0 else s.ent 0x2230 (c + 1))).sum ≤ (s.pool 65).quota)
  | 0x2240, _ => (s.pool 67).used == 0 && (s.pool 67).transit == 0
  | 0x2300, 1 => s.busy.isEmpty
  | _, _ => true

/-! ## Reverting at W5 (R460) -/

/-- Bytes of the value that an entry holds. -/
def State.heldBytes (s : State) (e : EntryDef) (i : Nat) : Bytes :=
  if e.typ = 7 ∨ e.typ = 8 then (let b := s.blob i e.sub; if b = [] then zeros e.len else b) else le e.len (s.ent i e.sub)

/-- Every `RWP` entry in ascending index and sub-index. -/
def persisted : List EntryDef := entriesBefore3000.filter (fun e => e.right == 2)

/-- An entry takes its default. -/
def State.toDefault (s : State) (e : EntryDef) (i : Nat) : State :=
  if e.typ = 7 ∨ e.typ = 8 then s.setBlob i e.sub [] else s.setEnt i e.sub e.dflt

/-- Check the persisted values in order; each failing one takes its default with 0x2102. The check repeats while one fails. -/
def State.revert (s : State) : Nat → State
  | 0 => s
  | k + 1 =>
    let r := persisted.foldl (fun (r : State × Bool) e =>
      if r.1.valueOk e e.idx (r.1.heldBytes e e.idx) then r
      else ((r.1.toDefault e e.idx).emit { fault 0x2102 { die := dieK0 } with detail := ekey e.idx e.sub }, true)) (s, false)
    if r.2 then r.1.revert k else r.1

end Sys2Proof.Machine
end

