-- ==== Sys2Proof/Machine/Tiers.lean ====
section
/-! DEFINITION. Lower-tier errors and the ends of moves (06_memory_tiers.md R165, R166, R171; 07_attention_kv.md R206;
11_weights.md R326). -/

namespace Sys2Proof.Machine

/-- The unit of a lower-tier read in a record. -/
def State.lowerLoc (s : State) (page granule : Nat) : FaultLoc :=
  let d := s.page page
  if d.tier = .library then { die := 16 + keeperOf page, unit := 6, locA := s.granuleChannel true d.frame granule }
  else { die := 16 + keeperOf page, unit := 4 }

/-- The read of a granule of a lower tier has failed (R165): a Library read only after its retry failed too. The data of a
sequence ends its sequence; shared data reads poisoned, or is served from its HBM copy; a weight page is restored. -/
def State.lowerFailed (s : State) (page granule owner : Nat) (retryFailed : Bool) : State :=
  let d := s.page page
  if d.state = .free ∨ d.tier = .hbm ∨ d.tier = .none ∨ (d.tier = .library ∧ !retryFailed) then s
  else
    let m := s.mem
    let r : FaultRecord := { fault 0x1604 (s.lowerLoc page granule) with inst := d.inst, address := page, detail := granule }
    let s : State := { s with mem := { m with failedGranules := addOnce m.failedGranules (page, granule),
                                              suspect := if d.tier = .library then addOnce m.suspect (true, d.frame) else m.suspect } }
    let s := s.bump 0x2250 2
    let key := 2 ^ 61 + d.frame
    let s := if d.tier = .library then s.countError key 0x1604 else s
    let s := if d.tier = .library ∧ 2 ≤ s.errorsIn key 0x1604 ticksPerDay ∧ s.sparing then
        { s with flt := { s.flt with toRetire := addOnce s.flt.toRetire (true, d.frame) } } else s
    if kvPage d then (s.bump (instIdx d.inst 0x30) 6).raise { r with owner := owner }
    else if d.hbmCopy then s.raise { r with cls := 1 }
    else
      let s := s.raise { r with cls := 3 }
      if d.holder = 0x3FF2 then s.requestRestore page else s

def execLowerTierReadFailed (page granule owner : Nat) (retryFailed : Bool) (s : State) : Host.Outcome State Fault Refusal :=
  unitOf (2 ^ 32) page (s.lowerFailed page granule owner retryFailed)

/-- A lower-tier read has passed its late limit (R165): only the data of a sequence is affected. -/
def State.lowerLate (s : State) (page granule owner : Nat) : State :=
  let d := s.page page
  if d.state = .free ∨ (d.tier ≠ .library ∧ d.tier ≠ .host) ∨ !kvPage d then s
  else
    let s : State := { s with mem := { s.mem with late := addOnce s.mem.late (page, granule, owner) } }
    ((s.bump 0x2250 2).bump (instIdx d.inst 0x30) 6).raise
      { fault 0x1603 (s.lowerLoc page granule) with inst := d.inst, owner := owner, address := page, detail := granule }

def execLowerTierLate (page granule owner : Nat) (s : State) : Host.Outcome State Fault Refusal :=
  unitOf (2 ^ 32) page (s.lowerLate page granule owner)

/-- A restored page has switched: its bytes are good, its old frame is suspect, and a clean page goes back to the Library (11 R326). -/
def State.restored (s : State) (old : PageDesc) (j : MoveJob) : State :=
  let m := s.mem
  let old_ := decide (old.tier = .library)
  let s : State := { s with
    mem := { m with bytes := putBytes (clearBytes m.bytes (j.page * pageBytes) pageBytes) (j.page * pageBytes) j.data
                    poison := m.poison.filter (fun e => e.1 / 1024 != j.page)
                    failedGranules := m.failedGranules.filter (fun e => e.1 != j.page)
                    suspect := addOnce m.suspect (old_, old.frame) }
    wt := { s.wt with restores := s.wt.restores.filter (fun r => r.page != j.page) }
    flt := if s.sparing then { s.flt with toRetire := addOnce s.flt.toRetire (old_, old.frame) } else s.flt }
  let s := (s.bump 0x2410 0xA).bump (instIdx old.inst 0x70) 8
  let s := s.raise { fault 0x1B06 { die := 16 + keeperOf j.page, unit := 4 } with inst := old.inst, address := j.page }
  if old_ && !old.poisoned then (s.startMove j.page .library false false false).getD s else s

/-- A move completes (R171). -/
def State.switchPage (s : State) (page : Nat) : State :=
  match s.mem.moves.find? (fun j => j.page == page) with
  | none => s
  | some j =>
    let old := s.page page
    let s := s.switchMove j
    if j.restore then s.restored old j else s

def execMigrationSwitch (page : Nat) (s : State) : Host.Outcome State Fault Refusal := unitOf (2 ^ 32) page (s.switchPage page)

/-- A move ends without a switch, with 0x160A (R171). A privileged write that waited for it is discarded with 0x1606 (R154;
log entry 27). -/
def State.moveFails (s : State) (page : Nat) : State :=
  match s.mem.moves.find? (fun j => j.page == page) with
  | none => s
  | some j =>
    let d := s.page page
    let s := (s.failMove j).raise { fault 0x160A { die := 16 + keeperOf page, unit := 4 } with inst := d.inst, address := page }
    if j.promote ∧ s.mem.waitingWrites.any (fun w => w.page == page) then
      let s : State := { s with mem := { s.mem with waitingWrites := s.mem.waitingWrites.filter (fun w => w.page != page) } }
      s.raise { fault 0x1606 { die := 16 + keeperOf page, unit := 4 } with cls := 0, inst := d.inst, address := page }
    else s

def execMigrationFailed (page : Nat) (s : State) : Host.Outcome State Fault Refusal := unitOf (2 ^ 32) page (s.moveFails page)

/-- A swapped page is back in HBM (07 R206). -/
def State.swapInDone (s : State) (page : Nat) : State := if (s.page page).tier = .host then s.switchPage page else s

def execSwapInPageDone (page : Nat) (s : State) : Host.Outcome State Fault Refusal := unitOf (2 ^ 32) page (s.swapInDone page)

/-- A host read failed during swap-in (07 R206): the sequence ends with 0x1704, the moves of its pages end. -/
def State.swapInFails (s : State) (page : Nat) : State :=
  let d := s.page page
  match s.mem.moves.find? (fun j => j.page == page && j.target == .hbm) with
  | none => s
  | some _ =>
    if d.tier ≠ .host then s
    else
      let mine := s.mem.moves.filter (fun j => (s.page j.page).tier == .host && (s.page j.page).inst == d.inst && (s.page j.page).holder == d.holder)
      let s := mine.foldl State.failMove s
      s.raise { fault 0x1704 { die := 16 + keeperOf page, unit := 4 } with inst := d.inst, owner := d.holder, address := page }

def execSwapInFailed (page : Nat) (s : State) : Host.Outcome State Fault Refusal := unitOf (2 ^ 32) page (s.swapInFails page)

end Sys2Proof.Machine
end

