-- ==== Sys2Proof/Machine/Wake.lean ====
section
/-! DEFINITION. Wake-up and reset (15_bringup_reset.md R419 to R434): the stages W0 to W11, ROM recovery, the module reset,
host link and core resets; the replay of a save image (18_transcript.md R494 to R497). -/

namespace Sys2Proof.Machine

/-! ## Stages -/

/-- A wake is in stage `k`. -/
def State.inStage (s : State) (k : Nat) : Bool := s.wake.running && decide (s.wakeStage = k)

/-- Cause 0x1F07 of each stop code (R434). -/
def State.stopCause (s : State) (code : Nat) : State := s.emit { fault 0x1F07 { die := dieK0 } with detail := code }

/-- The wake stops at a working set: `STATUS_N` carries the code (R420, R424). -/
def State.stopWake (s : State) (codes : List Nat) (stage : Nat) : State :=
  let s := codes.foldl (fun s c => (s.wakeFault c).stopCause c) s
  State.setStage { s with wake := { s.wake with running := false, pin := .coded (s.ent 0x2550 2) } } stage

/-- The input has stayed in range for 10 ms: the switch of a mated module closes (R419; 20_physical.md R533). -/
def State.inputInRange (s : State) : State := if s.phys.mated ∧ !s.powered then s.coldWake s.wake.kind else s

def execInputInRange (s : State) : Host.Outcome State Fault Refusal := done s.inputInRange

/-- W0: the converters and the standby rail are up, the charger has started. -/
def execWakeW0 (s : State) : Host.Outcome State Fault Refusal :=
  done (if s.inStage 0 then s.setStage 1 else s)

/-- W1: the ROM has passed its self-test. -/
def execWakeW1 (s : State) : Host.Outcome State Fault Refusal :=
  done (if s.inStage 1 then s.setStage 2 else s)

/-- W2: the PLLs lock, or the wake goes on with the fallback oscillator. -/
def State.wakeW2 (s : State) (ready : Bool) : State :=
  if ready then s.setStage 3
  else (State.emit (State.wakeFault { s with wake := { s.wake with fallbackClock := true } } 0x21) (fault 0x1F02 { die := dieK0 })).setStage 3

def execWakeW2 (ready : Bool) (s : State) : Host.Outcome State Fault Refusal := done (if s.inStage 2 then s.wakeW2 ready else s)

/-! ## W3 and W4: the term record and the image (R421, R422; 18 R495) -/

/-- What the ROM reads of the current segment, by a scan that writes nothing. -/
def State.romScan (s : State) : List JRec :=
  match s.governing with
  | none => []
  | some (_, a) =>
    let x := s.tr.copyA.getD a.segment []
    let y := s.tr.copyB.getD a.segment []
    (scanFrom x y (2 * (x.length + y.length) + 2) 0 (a.firstSeq - 1) {}).found.map (·.record)

/-- TERM records by their counters, the highest first. -/
def termRecords (l : List JRec) : List JRec :=
  sortBy (fun a b => decide (field b.body 0 4 ≤ field a.body 0 4)) ((l.filter (fun r => r.kind == 1)).foldl (fun (m : List JRec) r => r :: m.filter (fun q => field q.body 0 4 != field r.body 0 4)) [])

/-- The journal has never been written. -/
def State.freshJournal (s : State) : Bool := s.tr.anchors.all (·.isNone)

/-- W3: the last committed term; none in a journal that holds records is fault code 0x31. -/
def State.wakeW3 (s : State) : State :=
  match termRecords s.romScan with
  | r :: _ => (s.setEnt 0x1000 4 (field r.body 0 4)).setStage 4
  | [] => (if s.freshJournal then s else s.wakeFault 0x31).setStage 4

def execWakeW3 (s : State) : Host.Outcome State Fault Refusal := done (if s.inStage 3 then s.wakeW3 else s)

/-- The ROM and the kernel accept a bank under a security minimum (log entry 42). -/
def bankAccepted (k : Bank) (min_ : Nat) : Bool := k.factory || imageCode k.bytes min_ == 0

/-- The bank that R422 selects: the bank, and whether it is the previous term's. -/
def State.selectBank (s : State) : Option (Nat × Bool) :=
  let bank (i : Nat) : Bank := s.fw.banks.getD i {}
  match (if 0x31 ∈ s.wake.faults then [] else termRecords s.romScan) with
  | [] =>
    let m := if 0x31 ∈ s.wake.faults then s.securityMin else 0
    if bankAccepted (bank 0) m then some (0, false) else if bankAccepted (bank 1) m then some (1, false) else none
  | r :: older =>
    let b := field r.body 4 1
    let m := field r.body 8 4
    if bankAccepted (bank b) m then some (b, false)
    else
      match older with
      | p :: _ =>
        let o := 1 - b
        if sha384 ((bank o).bytes.take 256) = slice p.body 16 48 ∧ bankAccepted (bank o) m then some (o, true) else none
      | [] => none

/-- The parts that an image starts; parts that it does not carry come from the other bank. -/
def State.partsOf (s : State) (i : Nat) : List PartRow :=
  let mine := presentRows (s.fw.banks.getD i {})
  let other := (presentRows (s.fw.banks.getD (1 - i) {})).filter (fun p => !mine.any (fun q => q.part == p.part))
  sortBy (fun a b => decide (a.part ≤ b.part)) (mine ++ other)

/-- No bank is accepted: ROM recovery (R423). -/
def State.noImage (s : State) : State := (s.emit (fault 0x1F06 { die := dieK0 })).stopWake [0x41] 0x31

/-- W4: the image is selected and loaded. -/
def State.wakeW4 (s : State) : State :=
  match s.selectBank with
  | none => s.noImage
  | some (i, back) =>
    let s : State := { s with fw := { s.fw with active := i, parts := s.partsOf i } }
    let s := if back then (s.wakeFault 0x42).emit (fault 0x1F05 { die := dieK0 }) else s
    s.setStage 5

def execWakeW4 (s : State) : Host.Outcome State Fault Refusal := done (if s.inStage 4 then s.wakeW4 else s)

/-! ## W5: components, journal, persisted values (18 R494 to R497; 17 R460) -/

/-- The components that started run at their homes. -/
def State.startComps (s : State) (started : Nat) : State :=
  ((List.range 9).filter (fun p => decide (1 ≤ p))).foldl (fun s p => s.onComp p (fun c => { c with home := homeCore p, running := started.testBit p })) s

/-- Counts of the COUNTERS record; those of this wake are added. -/
def State.takeCounters (s : State) : State :=
  match s.fact 6 0 with
  | none => s
  | some r =>
    let b := r.body
    let life := (List.range 6).map (fun i => field b (8 + 8 * i) 8 + s.flt.lifeByClass.getD i 0)
    let s : State := { s with flt := { s.flt with lifeByClass := life } }
    (((s.setEnt 0x2300 4 (field b 0 4)).setEnt 0x2010 6 (field b 4 4)).bump 0x2700 5 (field b 0x38 8)).bump 0x2700 6 (field b 0x40 4)

/-- Keys of a kind that the journal holds. -/
def State.keysOf (s : State) (kind : Nat) : List Nat := ((s.records.filter (fun r => r.kind == kind)).map (·.key)).eraseDups

/-- A stored wear record. -/
def wearOf (b : Bytes) : WearSt := { hours := field b 0 8, heq := field b 8 8, hot := field b 0x10 8, aging := field b 0x18 8, droop := field b 0x20 8 }

/-- A die's spare map as the Transcript holds it (17 R465). -/
def spareOf (d : Nat) (b : Bytes) (m : Sparse (Nat × Nat)) : Sparse (Nat × Nat) :=
  (List.range 48).foldl (fun m t => sset (0x1FFFFFF, 0xFF) m (d * 48 + t) (field b (8 * t) 4, field b (8 * t + 4) 1)) m

/-- Load what the Transcript keeps: settings, key, epochs, wear, spare maps, failed lanes. -/
def State.loadFacts (s : State) : State :=
  let s := match s.fact 3 0 with | some r => s.takeKey r.body | none => s
  let s := (s.keysOf 2).foldl (fun s k => match s.fact 2 k with
    | some r => s.storeValue (field r.body 0 2) (field r.body 2 1) (field r.body 3 1) (r.body.drop 4) | none => s) s
  let s := (s.keysOf 4).foldl (fun s k => s.ratchetFact k) s
  let body (kind key : Nat) : Bytes := match s.fact kind key with | some r => r.body | none => []
  let wear := (s.keysOf 7).foldl (fun (m : Sparse WearSt) u => sset {} m u (wearOf (body 7 u))) s.tr.wear
  let spares := (s.keysOf 8).foldl (fun m d => spareOf d (body 8 d) m) s.flt.spares
  let lanes := match s.fact 11 0 with | some r => field r.body 0 8 | none => 0
  State.showWear { s with tr := { s.tr with wear }, flt := { s.flt with spares, failedLanes := lanes } }

/-- The settings that fail a check take their defaults (17 R460). -/
def State.revertSettings (s : State) : State := s.revert (persisted.length + 1)

/-- Is the save image complete (R494), and not replayed at an earlier wake (log entry 43)? -/
def State.imageComplete (s : State) (i : SaveImage) : Bool :=
  match s.fact 12 0 with
  | some m => i.whole && field m.body 0 8 == i.bell && field m.body 12 4 == crc32c (imageBytes i)
  | none => false

def State.imageFresh (s : State) : Bool :=
  match s.fact 12 0, s.fact 6 0 with
  | some m, some c => decide (c.seq < m.seq)
  | _, _ => true

/-- Commit everything that waits, in order; a change of term in progress is not committed. -/
def State.drainJournal (s : State) : State :=
  let q := s.tr.queue.filter (fun r => r.kind != 1)
  q.foldl (fun s r => let c := s.commitRec r; if c.2 then c.1.afterCommit r else c.1.afterFailure r) { s with tr := { s.tr with queue := [] } }

/-- Replay the save image (R494). -/
def State.replay (s : State) : State :=
  match s.tr.image with
  | none => s
  | some i =>
    if !s.imageComplete i then s.emit (fault 0x2204 { die := dieK0 })
    else if !s.imageFresh then s
    else
      let keep := i.pending.filter (fun r => decide (r.kind ∉ [1, 2, 3]))
      let s := keep.foldl (fun s r => (s.commitRec { r with replayed := true }).1) s
      (s.bump 0x2010 6).putBlob 0x2700 0xD (le 4 keep.length ++ le 4 (i.pending.length - keep.length) ++ le 1 1 ++ zeros 3)

/-- Read and repair the journal (R496); none where it cannot be used. -/
def State.openJournal (s : State) : Option State :=
  if s.freshJournal then some s.format
  else
    match s.governing with
    | none => none
    | some (_, a) =>
      let r := State.repair { s with tr := { s.tr with segment := a.segment } }
      let s := r.1.repairAnchors
      let s : State := { s with tr := { s.tr with fill := r.2.stop, nextSeq := max r.2.last (a.seqFloor - 1) + 1, up := true } }
      let s := s.takeCounters.replay.bump 0x2300 4
      some (s.commitRec s.counters).1

/-- Records held since before W5 are journalled and posted (R434). -/
def State.deliverHeld (s : State) : State :=
  let held := s.wake.held
  held.foldl (fun s r => s.deliver r) { s with wake := { s.wake with held := [] } }

/-- The term record of a first wake, or of a wake that fell back to the previous term's bank (R422; 18 R497). -/
def State.commitWakeTerm (s : State) : State :=
  let i := s.fw.active
  let min_ := max s.securityMin (bankSecurity (s.fw.banks.getD i {}))
  if 0x42 ∈ s.wake.faults then
    let t := s.term + 1
    ((s.setEnt 0x1000 4 t).commitRec { kind := 1, key := t % 2, body := s.termBody t i min_ }).1
  else if (s.keysOf 1).isEmpty ∧ 0x31 ∉ s.wake.faults then (s.commitRec { kind := 1, key := 0, body := s.termBody 0 i min_ }).1
  else s

/-- The journal of this wake is in use: what it keeps is loaded, held records go out. -/
def State.journalUp (s : State) : State := (s.loadFacts.revertSettings.commitWakeTerm.deliverHeld).judge

/-- Components of parts 1 to 8 that did not start. -/
def notStarted (started : Nat) : Bool := (List.range 9).any (fun p => decide (1 ≤ p) && !started.testBit p)

/-- W5: components start, the journal is read, management begins; a wet sensor leads to thermal hold (20 R543). -/
def State.wakeW5 (s : State) (started : Nat) : State :=
  let s := s.startComps started
  let j := s.openJournal
  let s := match j with
    | some t => t.journalUp
    | none => s.emit (fault 0x2205 { die := dieK0 })
  let codes := (if s.wake.fallbackClock then [0x21] else []) ++ (if j.isNone then [0x32] else []) ++ (if notStarted started then [0x45] else [])
  let s := if codes = [] then s.setStage 6 else s.stopWake codes 0x30
  if s.phys.leak = 1 then State.enterHold { s with wake := { s.wake with running := false } } true else s

def execWakeW5 (started : Nat) (s : State) : Host.Outcome State Fault Refusal := done (if s.inStage 5 then s.wakeW5 started else s)

/-! ## W6 to W10: dies and memory -/

/-- A die is fenced from wake, with its cause. -/
def State.fenceAtWake (s : State) (cause unit d : Nat) : State :=
  if d = dieK0 then s
  else
    let s := s.raise { fault cause { die := d, unit, locA := if unit = 0xC then d else 0 } with flags := 0 }
    let s : State := { s with wake := { s.wake with diesUp := setBit s.wake.diesUp d false }
                              pwr := { s.pwr with regsOff := addOnce s.pwr.regsOff d }
                              flt := { s.flt with fenced := setBit s.flt.fenced d true, routersLost := if d < 16 then setBit s.flt.routersLost d true else s.flt.routersLost } }
    s.touch 0x2600 5

/-- Dies of a mask. -/
def diesOf (m : Nat) : List Nat := (List.range 24).filter m.testBit

/-- W6: regulators. A failed HBM side (stacks 0 to 5, 6 to 11) or Library half (bits 12, 13) stays without power, with its cause. -/
def State.wakeW6 (s : State) (failedDies failedStacks : Nat) : State :=
  let sides := (List.range 2).filter (fun k => (List.range 6).any (fun i => failedStacks.testBit (6 * k + i)))
  let halves := (List.range 2).filter (fun k => failedStacks.testBit (12 + k))
  let off := sides.map (25 + ·) ++ (if s.library then halves.map (27 + ·) else [27, 28])
  let good := maskOf ((List.range 12).filter (fun k => !decide (k / 6 ∈ sides)))
  let s : State := { s with wake := { s.wake with diesUp := 2 ^ 25 - 1, stacksUp := good }, pwr := { s.pwr with regsOff := off } }
  let s := (off.filter (fun r => s.library || decide (r < 27))).foldl (fun s r => s.emit (powerFault 0x1F01 dieK0 r)) s
  ((diesOf failedDies).foldl (fun s d => s.fenceAtWake 0x1F01 0xC d) s).setStage 7

def execWakeW6 (failedDies failedStacks : Nat) (s : State) : Host.Outcome State Fault Refusal :=
  done (if s.inStage 6 then s.wakeW6 failedDies failedStacks else s)

/-- W7: self-tests; STATUS_N is released and the host links may train. -/
def State.wakeW7 (s : State) (failedDies : Nat) : State :=
  let s := ((diesOf failedDies).filter (fun d => s.wake.diesUp.testBit d)).foldl (fun s d => s.fenceAtWake 0x1F03 0 d) s
  State.setStage { s with wake := { s.wake with pin := .released } } 8

def execWakeW7 (failedDies : Nat) (s : State) : Host.Outcome State Fault Refusal := done (if s.inStage 7 then s.wakeW7 failedDies else s)

/-- Tolgil ports begin training at their widths, without their failed lanes (10 R294). -/
def State.startPorts (s : State) : State :=
  (List.range numPorts).foldl (fun (s : State) p =>
    let s := s.onPort p (fun _ => { failedMask := bits s.flt.failedLanes (4 * p + 3) (4 * p) })
    s.onPort p (fun st => { st with state := if !s.portEnabled p then 3 else if s.dieWorks (20 + p / 4) ∧ s.widthFor p ≠ 0 then 1 else 0 })) s

/-- W8: bridges train; one that does not is lost with its die's routers. -/
def State.wakeW8 (s : State) (untrained : Nat) : State :=
  let lost := ((List.range 16).filter untrained.testBit).foldl (fun m d => setBit m d true) s.flt.routersLost
  (State.startPorts { s with flt := { s.flt with routersLost := lost } }).setStage 9

def execWakeW8 (untrained : Nat) (s : State) : Host.Outcome State Fault Refusal := done (if s.inStage 8 then s.wakeW8 untrained else s)

/-- Retirements of the Transcript (06 R158; 18 R487). A listed frame is charged to its channel of granule 0. -/
def State.loadRetired (s : State) : State :=
  let b := match s.fact 10 0 with | some r => r.body | none => []
  let hbm := (List.range 384).filter (field b 0 48).testBit
  let lib := (List.range 48).filter (field b 48 8).testBit
  let s : State := { s with mem := { s.mem with retiredHbm := hbm, retiredLib := lib } }
  let listed := (s.keysOf 9).flatMap (fun k => ((match s.fact 9 k with | some r => words32 r.body | none => []).filter (· != 0xFFFFFFFF)).map (fun f => (decide (256 ≤ k), f)))
  { s with mem := { s.mem with retired := listed.map (fun e => (e.1, e.2, s.granuleChannel e.1 e.2 0)) } }

/-- A channel that does not train is retired with 0x1F04. -/
def State.untrained (s : State) (library : Bool) (ch : Nat) : State :=
  let m := s.mem
  if ch ∈ (if library then m.retiredLib else m.retiredHbm) then s
  else
    let m := if library then { m with retiredLib := m.retiredLib ++ [ch] } else { m with retiredHbm := m.retiredHbm ++ [ch] }
    State.raise { s with mem := m } (fault 0x1F04 { die := 16 + (if library then ch / 12 else ch / 96), unit := if library then 6 else 5, locA := ch })

/-- Frame books and pools of the memory that is in service (R427; 06 R174, R178). -/
def State.bookAll (s : State) : State :=
  let total (library : Bool) (d : Nat) : Nat :=
    if s.wake.diesUp.testBit (16 + d) then s.installed library d - s.retiredOn library d else 0
  let book (library : Bool) (d : Nat) : FrameBook := { free := total library d, total := total library d }
  let s : State := { s with mem := { s.mem with books := (List.range 4).map (book false) ++ (List.range 4).map (book true), pools := [] } }
  let sum (library : Bool) : Nat := ((List.range 4).map (total library)).sum
  (s.onPool 65 (fun p => { p with quota := sum false - 49152 })).onPool 66 (fun p => { p with quota := sum true })

/-- W9: retirements are applied, memory trains. -/
def State.wakeW9 (s : State) (hbm library : Nat) : State :=
  let s := s.loadRetired
  let before := (s.mem.retiredHbm, s.mem.retiredLib)
  let mine := (List.range 384).filter (fun c => hbm.testBit c && s.wake.stacksUp.testBit (c / 32) && s.wake.diesUp.testBit (16 + c / 96))
  let s := mine.foldl (fun s c => s.untrained false c) s
  let lib := (List.range 48).filter (fun c => library.testBit c && s.library && s.wake.diesUp.testBit (16 + c / 12) && !decide (27 + c / 24 ∈ s.pwr.regsOff))
  let s := lib.foldl (fun s c => s.untrained true c) s
  let up := maskOf ((List.range 12).filter (fun k => s.wake.stacksUp.testBit k && s.wake.diesUp.testBit (16 + k / 3) &&
    (List.range 32).any (fun i => !decide (32 * k + i ∈ s.mem.retiredHbm))))
  let s := State.bookAll { s with wake := { s.wake with stacksUp := up } }
  let s := if (s.mem.retiredHbm, s.mem.retiredLib) = before then s else s.submitOr { kind := 0x000A, key := 0, body := s.channelBits }
  (s.putBlob 0x2600 8 s.channelBits).setStage 10

def execWakeW9 (hbmUntrained libraryUntrained : Nat) (s : State) : Host.Outcome State Fault Refusal :=
  done (if s.inStage 9 then s.wakeW9 hbmUntrained libraryUntrained else s)

/-- Cores that the spare maps mark bad stay fenced. -/
def State.fenceBad (s : State) : State :=
  s.flt.spares.foldl (fun (s : State) (e : Nat × Nat × Nat) =>
    ((List.range 25).filter (fun p => !e.2.1.testBit p)).foldl (fun (s : State) p => s.onCore (e.1 / 48 * 1200 + e.1 % 48 * 25 + p) (fun k => { k with fenced := true })) s) s

/-- W10: every slate is scrubbed; a core that fails is replaced by its tile's spare. -/
def State.wakeW10 (s : State) (failed : List Nat) : State :=
  let s := State.fenceBad { s with cores := [] }
  ((failed.filter (fun c => decide (c < numCores) && s.dieWorks (coreDie c))).foldl (fun s c => s.spareCore c) s).setStage 11

def execWakeW10 (failedCores : List Nat) (s : State) : Host.Outcome State Fault Refusal := done (if s.inStage 10 then s.wakeW10 failedCores else s)

/-! ## W11: the readiness check (R424 to R427) -/

/-- An M die that works with a stack that works. -/
def State.memoryUp (s : State) : List Nat :=
  (List.range 4).filter (fun d => s.dieWorks (16 + d) && (List.range 3).any (fun i => s.wake.stacksUp.testBit (3 * d + i)))

/-- The stop codes of the serving set. -/
def State.servingCodes (s : State) : List Nat :=
  (if s.memoryUp = [] then [0x51] else []) ++ (if (List.range 4).any (fun x => s.dieWorks (20 + x)) then [] else [0x52]) ++
  (if (List.range 16).any s.dieWorks then [] else [0x53])

/-- A host link die works: X0, or X1 on an -L3 module. -/
def State.hostDie (s : State) : Bool := s.dieWorks 20 || (s.library && s.dieWorks 21)

/-- Something is absent. -/
def State.short (s : State) : Bool :=
  decide (s.wake.diesUp ≠ 2 ^ 25 - 1) || decide (s.wake.stacksUp ≠ 2 ^ 12 - 1) || !s.mem.retiredHbm.isEmpty || !s.mem.retiredLib.isEmpty

/-- The serving set is reached. -/
def State.ready (s : State) : State :=
  let s := if s.hostDie then s else s.wakeFault 0x54
  let s := if s.short then s.wakeFault 0x70 else s
  let s := s.setEnt 0x2550 3 ((s.now - s.wake.started) / ticksPerMs)
  State.setStage { s with wake := { s.wake with running := false }, flt := { s.flt with saveDie := 16 + s.memoryUp.headD 0, copying := false } } 0x21

/-- W11 ends once the bank is charged or its charge has timed out. -/
def State.wakeW11 (s : State) : State :=
  if s.servingCodes ≠ [] then s.stopWake s.servingCodes 0x30
  else if s.pwr.bankCharged ∨ s.pwr.bankTimedOut then s.ready
  else s

def execWakeW11 (s : State) : Host.Outcome State Fault Refusal := done (if s.inStage 11 then s.wakeW11 else s)

/-! ## Timeouts -/

/-- The action of a stage that passes its timeout. -/
def State.stageTimeout (s : State) : State :=
  match s.wakeStage with
  | 0 => let t := s.powerOff s.wake.kind; { t with wake := { t.wake with retryPending := true } }
  | 1 => { s with wake := { s.wake with running := false } }
  | 2 => s.wakeW2 false
  | 3 => (s.wakeFault 0x31).setStage 4
  | 4 => s.noImage
  | 5 => (s.emit (fault 0x2205 { die := dieK0 })).stopWake ((if s.wake.fallbackClock then [0x21] else []) ++ [0x32]) 0x30
  | 6 => s.wakeW6 (2 ^ 24 - 1) (2 ^ 14 - 1)
  | 7 => s.wakeW7 (2 ^ 24 - 1)
  | 8 => s.wakeW8 (2 ^ 16 - 1)
  | 9 => s.wakeW9 (2 ^ 384 - 1) (2 ^ 48 - 1)
  | 10 => s.wakeW10 (List.range numCores)
  | _ => s.bankLate

def execWakeStageTimeout (s : State) : Host.Outcome State Fault Refusal := done (if s.wake.running then s.stageTimeout else s)

/-- 5 s after a failure at W0 the wake is tried again, while the input stays in range. -/
def State.wakeAgain (s : State) : State := if s.wake.retryPending then s.coldWake s.wake.kind else s

def execWakeRetry (s : State) : Host.Outcome State Fault Refusal := done s.wakeAgain

/-! ## Module reset (R428, R429, R431) -/

/-- Entries that a module reset leaves alone: those of the power controller, the Bell unit and the key slots, and the bytes
written over the life of the journal. -/
def keptEntry (k : Nat) : Bool :=
  (decide (ekey 0x2000 0 ≤ k) && decide (k < ekey 0x2110 0) && decide (k ≠ ekey 0x2000 6) && !(decide (ekey 0x2010 1 ≤ k) && decide (k ≤ ekey 0x2010 5))) ||
  k == ekey 0x2410 5 || k == ekey 0x2700 0xE

/-- What a module reset leaves: wake resumes at W3. -/
def State.resetTo3 (s : State) (kind : Nat) : State :=
  { dict := s.dict.filter (fun e => keptEntry e.1)
    library := s.library
    fab := { sent := s.fab.sent, sentLinks := s.fab.sentLinks }
    wt := { keys := s.wt.keys }
    pwr := { s.pwr with thermalHold := false, leakHold := false, regsOff := (List.range 29).filter (· != dieK0) }
    bell := { s.bell with table := [], sweeps := [], ownSample := none, heldSamples := [] }
    fw := { banks := s.fw.banks, staged := stagedAfter s.fw.staged, revertible := s.fw.revertible }
    wake := { perst := s.wake.perst, kind, running := true, started := s.now, fallbackClock := s.wake.fallbackClock,
              faults := s.wake.faults.filter (· == 0x21) }
    mgmt := { sent := s.mgmt.sent }
    tr := { anchors := s.tr.anchors, copyA := s.tr.copyA, copyB := s.tr.copyB, image := s.tr.image }
    host := { image := s.host.image, signals := s.host.signals }
    phys := s.phys
    free := s.free
    pending := s.pending }

/-- A module reset: releases, goodbye, the journal's queue, then the reset. It is ignored during a save and while a leak's
sensor reads wet; a wake that is under way restarts at W3. -/
def State.moduleReset (s : State) (kind : Nat) : State :=
  if !s.powered ∨ s.pwr.save.isSome ∨ s.wakeStage < 3 ∨ (s.pwr.leakHold ∧ s.phys.leak = 1) then s
  else
    let s := s.busy.foldl (fun s n => s.releaseInst n) s
    let s := (s.interruptTerm.goodbye).drainJournal
    (s.resetTo3 kind).setStage 3

/-- Kind of a reset by its source (R433). -/
def resetKind : ResetSource → Nat
  | .perst => 3 | .command => 4 | .recovery => 5

/-- The leak sensor has read dry. -/
def State.leakReads (s : State) (dry : Bool) : State := if dry ∧ s.phys.leak = 1 then { s with phys := { s.phys with leak := 0 } } else s

def execModuleReset (source : ResetSource) (leakDry : Bool) (s : State) : Host.Outcome State Fault Refusal :=
  done ((s.leakReads leakDry).moduleReset (resetKind source))

/-! ## Host link resets (R428, R431; 19_host_interface.md R503, R529) -/

/-- Moves to or from host memory fail. -/
def State.hostMovesFail (s : State) : State :=
  ((s.mem.moves.filter (fun j => j.target == .host || (s.page j.page).tier == .host)).map (·.page)).foldl (fun s p => s.moveFails p) s

/-- A function's link is reset: MSI-X, mirror, aperture, session and IDE go, and the grant that was made on it; ring contexts
stay. -/
def State.linkReset (s : State) (f : Nat) : State :=
  let s := s.linkLost f
  let s := if s.hostLinks = 0 then s.hostMovesFail else s
  let s := s.onFn f (fun x => { x with
    msix := [], pendingBits := [], mirrorBusy := false, mirrorOverrun := false, respLen := 0, respReady := false, request := [], response := []
    apertureBase := 0, spdm := 0, spdmVersion := 0x10, session := false, keyGen := 0, ideKeys := none, ideSecure := false, vector := 0, vectorIrq := false })
  let s : State := { s with mgmt := { s.mgmt with queue := s.mgmt.queue.filter (fun q => q.path != .mirror f && q.path != .secured f) } }
  if s.fw.negotiated ∧ s.fw.grantFn = f then { s with fw := { s.fw with granted := 0, negotiated := false, grantFn := 0, hostMinor := 0 } } else s

def execFunctionLevelReset (fn : Nat) (s : State) : Host.Outcome State Fault Refusal := unitOf 2 fn (s.linkReset fn)

def execD3hot (fn : Nat) (s : State) : Host.Outcome State Fault Refusal := unitOf 2 fn (s.linkReset fn)

/-- PERST# asserts: both links, and by `0x2550:06` the module; one that begins before W7 has passed resets the links alone. -/
def State.perstOn (s : State) : State :=
  if s.wake.perst then s
  else
    let s : State := { s with wake := { s.wake with perst := true } }
    let s := (s.linkReset 0).linkReset 1
    if 8 ≤ s.wakeStage ∧ s.ent 0x2550 6 = 0 then s.moduleReset 3 else s

def execPerst (s : State) : Host.Outcome State Fault Refusal := done s.perstOn

def execPerstDeasserted (s : State) : Host.Outcome State Fault Refusal := done { s with wake := { s.wake with perst := false } }

/-! ## Core reset (R430, R432) -/

/-- A write to `0x2550:08`; none is the invalid-value answer. -/
def State.coreResetOp (s : State) (v : Nat) : Option State :=
  let d := bits v 4 0
  let t := bits v 10 5
  let p := bits v 15 11
  let c := coreNo d t p
  if 16 ≤ d ∨ 48 ≤ t ∨ 25 ≤ p ∨ 65536 ≤ v ∨ !(s.core c).fenced then none
  else some (s.onCore c (fun k => if k.release then { k with resetAfter := true } else hardReset k))

/-! ## ROM recovery (R423) -/

/-- The bank that failed the check of the named term record; A where there is none. -/
def State.badBank (s : State) : Nat := match termRecords s.romScan with | r :: _ => field r.body 4 1 | [] => 0

/-- A chunk of the recovery image: each is applied as it arrives, in order. Result code as of WRITE_PART (17 R472, R473). -/
def State.recoveryChunk (s : State) (off : Nat) (chunk : Bytes) (last : Bool) : State × Nat :=
  let i := s.badBank
  let old := if off = 0 then [] else (s.fw.banks.getD i {}).bytes
  if s.wakeStage ≠ 0x31 then (s, 0x0C09)
  else if off ≠ old.length then (s, 0x0C0C)
  else
    let b := old ++ chunk
    let s := s.setBank i { bytes := b }
    if !last then (s, 0)
    else if imageCode b s.securityMin = 0 then (s.moduleReset 5, 0)
    else (s, 0x0C03)

def execRecoveryImage (offset : Nat) (chunk : Bytes) (last : Bool) (s : State) : Host.Outcome State Fault Refusal :=
  done (s.recoveryChunk offset chunk last).1

end Sys2Proof.Machine
end

