-- ==== Sys2Proof/Machine/Dict.lean ====
section
/-! DEFINITION. The dictionary service (17_object_dictionary.md R455 to R465, R469, R472, R477, R478, R481): the value of every
entry at a read, writes with their checks and effects, the write commands, the commit of the journal's queue (18 R490). -/

namespace Sys2Proof.Machine

/-! ## The front of the journal queue (18 R490; 14 R411) -/

/-- Commit the front of the queue with a number of failed read-backs; a record that finds no room waits for compaction. -/
def State.commitFront (s : State) (bad : Nat) : State :=
  match s.tr.queue with
  | [] => s
  | q :: rest =>
    if !s.tr.up ∨ s.pwr.save.isSome ∨ segmentLen < s.tr.fill + jRecLen q.body.length then s
    else
      let c := State.commitRec { s with tr := { s.tr with queue := rest } } q bad
      if q.kind = 1 then (if c.2 then c.1.termCommitted (field q.body 0 4) (field q.body 4 1) else c.1.rollBack)
      else if c.2 then c.1.afterCommit q
      else c.1.afterFailure q

def execJournalWrite (badReads : Nat) (s : State) : Host.Outcome State Fault Refusal := done (s.commitFront badReads)

/-- Commit up to `n` records that wait. -/
def State.flush (s : State) : Nat → State
  | 0 => s
  | n + 1 => (s.commitFront 0).flush n

/-- Commit a record behind those that wait: false where there is no room on the queue or in the journal (R459). -/
def State.commitNow (s : State) (q : JSub) : State × Bool :=
  if 3145728 < queueBytes s.tr.queue + jRecLen q.body.length then (s, false)
  else
    let s := s.flush s.tr.queue.length
    if s.tr.queue.isEmpty then s.commitRec q else (s, false)

/-! ## Values at a read -/

/-- Bytes of a text. -/
def textBytes (t : List Nat) : Bytes := t.map (BitVec.ofNat 8)

/-- PRL-BX25-H768-L3 or -L0 (00_scope.md R3). -/
def State.partNumber (s : State) : Bytes :=
  textBytes [0x50, 0x52, 0x4C, 0x2D, 0x42, 0x58, 0x32, 0x35, 0x2D, 0x48, 0x37, 0x36, 0x38, 0x2D, 0x4C, if s.library then 0x33 else 0x30]

/-- The link-local address from the MAC address as a modified EUI-64 (R467). -/
def linkLocal : Bytes :=
  let m := Config.macAddress
  [0xFE#8, 0x80#8] ++ zeros 6 ++ [m.getD 0 0 ^^^ 2#8, m.getD 1 0, m.getD 2 0, 0xFF#8, 0xFE#8, m.getD 3 0, m.getD 4 0, m.getD 5 0]

/-- Two bits per node (10 R301). -/
def State.nodeBits (s : State) (n : Nat) : Nat :=
  if 120 ≤ nodeModule n ∨ 25 ≤ nodeDie n then 3
  else match s.nodeState n with | .live => 0 | .suspect => 1 | .lost => 2 | .unconfigured => 3

/-- Capacity in bytes of the frames in service (06 R180). -/
def State.capacity (s : State) (library : Bool) : Nat :=
  (((List.range 4).map (fun d => (s.book library d).total)).sum) * pageBytes

/-- Port status (10 R301). -/
def State.portStatus (s : State) (p : Nat) : Nat :=
  let t := s.port p
  t.state + 4 * t.lanes + 32 * t.failedMask + 65536 * t.retrains

/-- Component status (14 R418). -/
def State.compStatus (s : State) (part : Nat) : Nat :=
  let c := s.comp part
  c.home + 8 * bitOf c.running + 256 * (min 255 (s.recentRestarts part)) + 65536 * c.total

/-- Header and power event record of the last save; of an incomplete one the header (12 R362; 18 R494). -/
def State.lastSave (s : State) : Bytes :=
  match s.tr.image with
  | none => []
  | some i => if i.whole then i.header ++ i.power else i.header

/-- The dies that work, K0 among them. -/
def State.diesWorking (s : State) : Nat := maskOf ((List.range 25).filter (fun d => d == dieK0 || s.dieWorks d))

/-- Numbers that are computed when they are read; none for an entry that holds its value. -/
def State.moduleNumber (s : State) (i sub : Nat) : Option Nat :=
  match i, sub with
  | 0x1000, 2 => some (bitOf s.library)
  | 0x1000, 7 => some (0x100 + Config.dictMinor)
  | 0x1000, 8 => some (0x100 + Config.hostMinor)
  | 0x1000, 0xB => some Config.manufactureDate
  | 0x2000, 9 => some (s.capEff / 1000)
  | 0x2000, 0xA => some s.limitingTerm
  | 0x2020, 8 => some s.phys.leak
  | 0x2100, 1 => some (bellCode s.bell.state)
  | 0x2100, 3 => some s.bell.counter
  | 0x2100, 4 => some (if s.bell.state = .holdover ∨ (s.bell.state = .slewing ∧ s.bell.slewFrom = .holdover) then (s.bell.counter - s.bell.since) / ticksPerMs else 0)
  | 0x2100, 5 => some (ofInt 32 s.bell.offsetPs)
  | 0x2200, 1 => some (s.capacity false)
  | 0x2200, 2 => some (if s.library then s.capacity true else 0)
  | 0x2200, 4 => some (s.pool 65).quota
  | 0x2200, 5 => some (poolFree (s.pool 65))
  | 0x2331, p => some (s.portStatus (p - 1))
  | 0x2410, 4 => some s.staged
  | 0x2410, 6 => some s.wt.packages.length
  | 0x2500, 1 => some s.fw.active
  | 0x2500, 3 => some s.fw.staged
  | 0x2500, 5 => some (combination s.fw.parts)
  | 0x2500, 9 => some s.fw.granted
  | 0x2510, p => some (s.compStatus p)
  | 0x2550, 4 => some s.diesWorking
  | 0x2550, 5 => some s.wake.stacksUp
  | 0x2550, 9 => some s.wake.kind
  | 0x2600, 5 => some s.flt.fenced
  | 0x2600, 9 => some s.flt.failedLanes
  | 0x2700, 2 => some s.tr.nextSeq
  | 0x2700, 3 => some s.tr.segment
  | 0x2700, 4 => some s.tr.fill
  | 0x2700, 8 => some (queueBytes s.tr.queue)
  | _, _ => none

/-- BLOB and STR entries that are computed when they are read. -/
def State.moduleBytes (s : State) (i sub : Nat) : Option Bytes :=
  match i, sub with
  | 0x1000, 1 => some s.partNumber
  | 0x1000, 3 => some (textBytes [0x41, 0x31])
  | 0x1000, 5 => some Config.serialNumber
  | 0x1000, 6 => some Config.macAddress
  | 0x1000, 0xC => some Config.carrierRevision
  | 0x1100, 1 => some linkLocal
  | 0x1100, 0xE => some (le 16 s.mgmt.lastManager)
  | 0x2030, 4 => some s.lastSave
  | 0x2110, k => some (ttBytes (s.ttEntry k))
  | 0x2111, k => some (ttBytes (s.ttEntry (256 + k)))
  | 0x2300, 5 => some (le 16 (maskOf ((List.range 120).filter s.reachable)))
  | 0x2300, 7 => some ((List.range 1024).flatMap (fun k =>
      le 1 (s.nodeBits (4 * k) + 4 * s.nodeBits (4 * k + 1) + 16 * s.nodeBits (4 * k + 2) + 64 * s.nodeBits (4 * k + 3))))
  | 0x2340, p => some (le64s (s.port (p - 1)).counters)
  | 0x2500, 2 => some (partPairs s.fw.parts)
  | 0x2600, 2 => some (le64s s.flt.byClass)
  | 0x2600, 3 => some (match s.flt.last with | some r => faultBytes r | none => [])
  | 0x2600, 6 => some ((List.range 16).flatMap (fun d => le 2 ((List.range 48).filter (fun t => (s.spareMap d t).2 != 0xFF)).length))
  | 0x2600, 7 => some (le 4 (s.mem.retired.filter (fun r => !r.1)).length ++ le 4 (s.mem.retired.filter (fun r => r.1)).length)
  | 0x2600, 8 => some s.channelBits
  | _, _ => none

/-- Kind of a die (R464). -/
def dieKind (d : Nat) : Nat := if d < 16 then 0 else if d < 20 then 1 else if d < 24 then 2 else 3

/-- Numbers of a die's identity range (R464). -/
def State.dieNumber (s : State) (d sub : Nat) : Option Nat :=
  match sub with
  | 1 => some (dieKind d)
  | 4 => some Config.dieWafer
  | 5 => some (ofInt 32 Config.dieX)
  | 6 => some (ofInt 32 Config.dieY)
  | 7 => some Config.dieGrade
  | 0xA => some (if d = dieK0 ∨ s.dieWorks d then 0 else if s.wake.diesUp.testBit d then 1 else 2)
  | _ => none

/-- BLOB and STR entries of a die's identity range. -/
def State.dieBytes (s : State) (d sub : Nat) : Option Bytes :=
  match sub with
  | 2 => some (textBytes [0x41, 0x31])
  | 3 => some Config.lotCode
  | 8 => some (if d < 16 then Config.voltageTable.flatMap (le 2) else padTo 32 (le 2 (Config.voltageTable.headD 0)))
  | 9 => some (if d < 16 then s.spareBytes d else [])
  | _ => none

/-- Entries of an index in a state. -/
def State.entriesIn (s : State) (n : Nat) (p : Nat → Bool) : Nat := ((s.inst n).roster.entries.filter (fun e => p e.2.state)).length

/-- Bytes of the staging slots of an index (07 R191). -/
def State.stagingBytes (s : State) (n : Nat) : Nat :=
  let i := s.inst n
  ((i.kv.groups.map (fun g => g.layerN * g.hgN * roundUp 256 (64 + 64 * (g.lw + g.rw)))).sum) * i.bind.place.maxSeq

/-- Pieces of an index in a state. -/
def State.piecesIn (s : State) (n st : Nat) : List Nat := ((s.inst n).pieces.filter (fun p => p.state == st)).map (·.piece)

/-- Numbers of an instance range that are computed when they are read. A written value that waits reads as accepted (R478). -/
def State.instNumber (s : State) (n block sub : Nat) : Option Nat :=
  let i := s.inst n
  match block, sub with
  | 0x10, 1 => some (bindCode i.bind.state)
  | 0x30, 2 => some (s.pool (1 + n)).quota
  | 0x40, 8 => some (s.mem.pages.filter (fun e => e.2.inst == n && e.2.state != .free && e.2.tier == .library && kvPage e.2)).length
  | 0x40, 9 => some (i.roster.entries.filter (fun e => e.2.swappedOut)).length
  | 0x40, 0xD => some (s.stagingBytes n)
  | 0x40, k => (i.kv.waiting.find? (fun e => e.1 == k)).map (·.2)
  | 0x50, 3 => ((i.roster.cmds.filter (fun c => c.ref.isNone)).getLast?).map (fun c => c.record.arg8)
  | 0x50, 4 => some (s.entriesIn n (fun st => st != 0))
  | 0x50, 5 => some (s.entriesIn n (fun st => st == 3))
  | 0x50, 6 => some (s.entriesIn n (fun st => st == 4 || st == 5))
  | 0x50, 7 => some i.roster.backlog.length
  | 0x60, 3 => some (i.req.nodes.filter (fun e => e.2.kind != 0)).length
  | 0x60, 6 => some i.req.lessons.length
  | 0x70, 2 => some i.pieces.length
  | 0x70, 3 => some (s.piecesIn n 2).length
  | 0x70, 4 => some (s.piecesIn n 3).length
  | 0x70, 5 => some ((s.piecesIn n 3).foldl min 0xFFFFFFFF)
  | 0x70, 7 => some (s.mem.pages.filter (fun e => e.2.inst == n && e.2.reserve && e.2.state == .sealed)).length
  | 0x80, 2 => some (s.lockstepState n)
  | _, _ => none

/-- Mean of ρ, an FP64 quotient rounded to FP32 (05 R146). -/
def rhoMean (t : LayerTel) : Nat :=
  if t.rhoCount = 0 ∨ t.rhoSum = 0 then 0
  else
    let x := dec64 t.rhoSum
    let m := dec64 (if 0 ≤ x.2 then round64 (x.1 * 2 ^ x.2.toNat) t.rhoCount else round64 x.1 (t.rhoCount * 2 ^ (-x.2).toNat))
    if 0 ≤ m.2 then round32 false (m.1 * 2 ^ m.2.toNat) 1 else round32 false m.1 (2 ^ (-m.2).toNat)

/-- The 32 bytes of a layer record (05 R146). -/
def telBytes (t : LayerTel) : Bytes :=
  le 4 t.sampled ++ le 4 t.rhoMax ++ le 4 (rhoMean t) ++ le 4 t.codesDiffer ++ le 4 t.saturations ++ le 4 t.lostSpecials ++ le 4 t.invalidCodes ++ le 4 t.alignLosses

/-- Layers of the binding, ascending; of a free index those that still have a record. -/
def State.telLayers (s : State) (n : Nat) : List Nat :=
  let i := s.inst n
  if i.bind.program.kernels.isEmpty then i.tel.map (·.1)
  else sortBy (fun a b => decide (a ≤ b)) ((i.bind.program.kernels.map (·.layer)).eraseDups)

/-- BLOB entries of an instance range. -/
def State.instBytes (s : State) (n block sub : Nat) : Option Bytes :=
  let i := s.inst n
  match block, sub with
  | 0x20, 2 => some ((s.telLayers n).flatMap (fun l => telBytes (sget {} i.tel l)))
  | 0x60, 0xD => some (budgetBytes (sget {} i.req.budgetsFinal (s.ent (instIdx n 0x60) 0xC)))
  | 0x80, 3 => some i.lock.lastRecord
  | 0x80, 4 => some (le64s i.lock.histogram)
  | _, _ => none

/-- The value of an entry as a read returns it. -/
def State.value (s : State) (e : EntryDef) (i : Nat) : Bytes :=
  if e.typ = 7 ∨ e.typ = 8 then
    let b := if isInst i then s.instBytes (instOf i) (instBlock i) e.sub
      else if 0x3000 ≤ i ∧ i < 0x3019 then s.dieBytes (i - 0x3000) e.sub
      else s.moduleBytes i e.sub
    match b with
    | some b => b
    | none =>
      let h := s.blob i e.sub
      if h = [] ∧ (e.right ≠ 0 ∨ ekey i e.sub ∈ [ekey 0x2020 4, ekey 0x2700 0xB, ekey 0x2700 0xD]) then zeros e.len else h
  else
    let v := if isInst i then s.instNumber (instOf i) (instBlock i) e.sub
      else if 0x3000 ≤ i ∧ i < 0x3019 then s.dieNumber (i - 0x3000) e.sub
      else s.moduleNumber i e.sub
    le e.len (v.getD (s.ent i e.sub))

/-! ## Rights (R457, R461, R477) -/

/-- The mirror may write an entry. -/
def State.mirrorMay (s : State) (i sub : Nat) (secured : Bool) : Bool :=
  if i = 0x1100 then sub == 5 && secured
  else if i < 0x2000 then false
  else if i < 0x2100 then (i == 0x2000 && sub == 6) || decide (s.ent 0x1100 9 = 1)
  else if i < 0x2200 then i == 0x2110 || i == 0x2111
  else if i < 0x2300 then true
  else if i < 0x2400 then false
  else if i < 0x2700 then !(i == 0x2550 && sub == 0xA)
  else isInst i

/-- A path may write an entry that is writable at all. -/
def State.pathMay (s : State) (p : Path) (i sub : Nat) : Bool :=
  match p with
  | .bus _ => !(i == 0x1100 && sub == 5)
  | .mirror _ => s.mirrorMay i sub false
  | .secured _ => s.mirrorMay i sub true

/-- The entry exists on a path: the mirror lacks `0x2550:0A`. -/
def entryOn (p : Path) (i sub : Nat) : Option EntryDef :=
  match p with
  | .bus _ => entryDef i sub
  | _ => if i = 0x2550 ∧ sub = 0xA then none else entryDef i sub

/-- An `RWS` entry of an index may be written. -/
def State.rwsOpen (s : State) (n : Nat) : Bool :=
  (s.inst n).bind.state == .free || (s.inst n).bind.state == .binding || (s.inst n).bind.state == .bound

/-- The indices that an `RWS` write of bytes addresses, all open (R457). -/
def State.rwsMay (s : State) (i sub : Nat) (b : Bytes) : Bool :=
  if isInst i then s.rwsOpen (instOf i)
  else
    let owner (d : Bytes) : Bool := field d 0 1 != 1 || s.rwsOpen (field d 1 1)
    owner (s.blob i sub) && owner b

/-! ## Effects of a write -/

/-- Port control (10 R301): a port that is disabled goes down; one that is enabled trains; another width is a retrain. -/
def State.writePort (s : State) (p v : Nat) : State :=
  let was := s.portEnabled p
  let s := s.setEnt 0x2330 (p + 1) v
  if !v.testBit 0 then (s.portDown p).onPort p (fun t => { t with state := 3 })
  else if !was then s.onPort p (fun t => { t with state := if s.dieWorks (20 + p / 4) ∧ s.widthFor p ≠ 0 ∧ !t.held then 1 else 0 })
  else if (s.port p).state = 2 ∧ (s.port p).lanes ≠ s.widthFor p then s.onPort p (fun t => { t with narrowing := true, retrains := (t.retrains + 1) % 65536 })
  else s

/-- Nodes of a module whose route entry is cleared are not configured any more. -/
def State.writeRoute (s : State) (m v : Nat) : State :=
  let s := s.setEnt 0x2310 (m + 1) v
  let s := if v = 0 then { s with fab := { s.fab with nodes := s.fab.nodes.filter (fun e => nodeModule e.1 != m) } } else s
  s.reroute

/-- A new module index: ports that were held for the old one may come up (10 R269). -/
def State.writeModuleIndex (s : State) (v : Nat) : State :=
  let s := s.setEnt 0x2300 1 v
  State.reroute { s with fab := { s.fab with ports := smap {} (fun _ (p : PortSt) => { p with held := false }) s.fab.ports } }

/-- A new supervisor timeout: a raised one waits for the LIMITs of the serving indices (10 R302). -/
def State.writeTimeout (s : State) (v : Nat) : State :=
  let old := s.timeoutTicks / ticksPerUs
  let s := s.setEnt 0x2300 2 v
  if v ≤ old ∨ s.working = [] then { s with fab := { s.fab with timeoutHold := none } }
  else { s with fab := { s.fab with timeoutHold := some (old, s.working) } }

/-- A new Bell delay is slewed (13 R369). -/
def State.writeBellDelay (s : State) (v : Nat) : State :=
  let d : Int := ((v / psPerTick : Nat) : Int) - ((s.bellDelay : Nat) : Int)
  let s := s.setEnt 0x2100 2 v
  { s with bell := { s.bell with slew := s.bell.slew + d } }

/-- Apply an accepted value. -/
def State.applySetting (s : State) (e : EntryDef) (i : Nat) (b : Bytes) : State :=
  let n := unle b
  if isInst i then
    let k := instOf i
    let live := (s.inst k).bind.state == .serving
    if instBlock i = 0x40 ∧ live then s.onKv k (fun v => { v with waiting := sins v.waiting e.sub n })
    else if instBlock i = 0x50 ∧ e.sub = 3 ∧ live then s.queueCmd k { kind := 0x0A, arg8 := n } none
    else s.setEnt i e.sub n
  else
    match i, e.sub with
    | 0x2000, 3 => let s := s.setEnt i 3 n; { s with pwr := { s.pwr with throttleMem := 0, throttleLink := 0 } }
    | 0x2100, 2 => s.writeBellDelay n
    | 0x2240, 2 => (s.setEnt i 2 n).onPool 67 (fun p => { p with quota := n / pageBytes })
    | 0x2300, 1 => s.writeModuleIndex n
    | 0x2300, 2 => s.writeTimeout n
    | 0x2310, k => s.writeRoute (k - 1) n
    | 0x2320, k => (s.setEnt i k n).reroute
    | 0x2330, k => s.writePort (k - 1) n
    | _, _ => s.storeValue i e.sub e.typ b

/-! ## Writes (R459, R478) -/

/-- Cause 0x2103. -/
def State.notPersisted (s : State) (i sub : Nat) : State := s.emit { fault 0x2103 { die := dieK0 } with detail := ekey i sub }

/-- Write an entry that holds a value: result code. -/
def State.writeValue (s : State) (e : EntryDef) (i : Nat) (b : Bytes) : State × Nat :=
  if b.length ≠ e.len then (s, 0x0C02)
  else if e.right = 4 ∧ !s.rwsMay i e.sub b then (s, 0x0C06)
  else if i = 0x2110 ∨ i = 0x2111 then
    match s.writeTimetable (256 * (i - 0x2110) + e.sub) b with
    | some t => (t.touch i e.sub, 0)
    | none => (s, 0x0C03)
  else if !s.valueOk e i b ∨ !s.accepts i e.sub (unle b) then (s, 0x0C03)
  else if s.value e i = b then (s.touch i e.sub, 0)
  else if e.right = 2 then
    let c := s.commitNow (dictRecord i e.sub e.typ b)
    if c.2 then ((c.1.applySetting e i b).touch i e.sub, 0) else (c.1.notPersisted i e.sub, 0x0C0B)
  else ((s.applySetting e i b).touch i e.sub, 0)

/-- Default of an entry as bytes: of an instance range its serving default, where there is one (R458, R482). -/
def State.defaultOf (s : State) (e : EntryDef) (i : Nat) : Bytes :=
  if e.typ = 7 ∨ e.typ = 8 then zeros e.len
  else le e.len (if isInst i then (match servingDefaults.find? (fun d => d.1 == instBlock i && d.2.1 == e.sub) with
    | some d => s.ent 0x2400 d.2.2
    | none => e.dflt) else e.dflt)

/-- The entries of an index, at that index. -/
def entriesAt (i : Nat) : List EntryDef := (tableOf i).1.filter (fun e => e.idx == (tableOf i).2)

/-- Every index of the dictionary that may have a writable entry, ascending. -/
def writableIndices : List Nat :=
  (entriesBefore3000.map (·.idx)).eraseDups ++ (List.range 64).flatMap (fun n => [0x10, 0x20, 0x30, 0x40, 0x50, 0x60, 0x70, 0x80].map (instIdx n))

/-- Indices that a range base selects (R481). -/
def restoreRange (v : Nat) : List Nat :=
  if v = 0xFFFF then writableIndices.filter (fun i => !(decide (0x1100 ≤ i) && decide (i ≤ 0x11FF)) && !(decide (0x2300 ≤ i) && decide (i ≤ 0x23FF)))
  else writableIndices.filter (fun i => decide (v ≤ i) && decide (i ≤ v + 0xFF))

/-- Restore defaults one by one in ascending order; refused writes are counted (R479). -/
def State.restoreDefaults (s : State) (p : Path) (v : Nat) : State × Nat :=
  (restoreRange v).foldl (fun (r : State × Nat) i =>
    (entriesAt i).foldl (fun (r : State × Nat) e =>
      if e.right = 0 ∨ e.right = 3 then r
      else if !r.1.pathMay p i e.sub then (r.1, r.2 + 1)
      else
        let w := r.1.writeValue e i (r.1.defaultOf e i)
        (w.1, if w.2 = 0 then r.2 else r.2 + 1)) r) (s, 0)

/-- Reformat (18 R498): every persisted value returns to its default, the wake restarts at W3. -/
def State.reformat (s : State) : State :=
  let s := s.format
  let s : State := { s with dict := s.dict.filter (fun e => !persisted.any (fun d => ekey d.idx d.sub == e.1)), blobs := [], mgmt := { s.mgmt with key := none } }
  (s.resetTo3 s.wake.kind).setStage 3

/-- The management key (R474): committed, then in force. -/
def State.writeKey (s : State) (b : Bytes) : State × Nat :=
  if b.length ≠ 32 then (s, 0x0C02)
  else
    let c := s.commitNow { kind := 3, key := 0, body := b }
    if c.2 then ((c.1.takeKey b).touch 0x1100 5, 0) else (c.1.notPersisted 0x1100 5, 0x0C0B)

/-- A write to a `WO` entry is a command: result code and response value. -/
def State.writeCommand (s : State) (p : Path) (e : EntryDef) (i : Nat) (b : Bytes) : State × Nat × Bytes :=
  let n := unle b
  let one (t : Option State) : State × Nat × Bytes := match t with | some t => (t.touch i e.sub, 0, []) | none => (s, 0x0C03, [])
  if i = 0x1100 ∧ e.sub = 5 then (let r := s.writeKey b; (r.1, r.2, []))
  else if b.length ≠ e.len ∧ i * 256 + e.sub ≠ ekey 0x2550 0xA then (s, 0x0C02, [])
  else if i = 0x1100 then (let r := s.restoreDefaults p n; (r.1.touch i e.sub, 0, le 2 r.2))
  else if i = 0x2100 then one (if n = 1 then s.realign else none)
  else if i = 0x2550 ∧ e.sub = 7 then one (if n = 1 then some (s.moduleReset 4) else none)
  else if i = 0x2550 ∧ e.sub = 8 then one (s.coreResetOp n)
  else if i = 0x2550 then (s, 0x0C03, [])
  else if i = 0x2610 then one (if n = 1 then some { s with flt := { s.flt with windows := [] } } else none)
  else if i = 0x2700 then
    if n ≠ 1 ∨ s.wakeStage ≠ 0x30 ∨ 0x32 ∉ s.wake.faults then (s, 0x0C03, [])
    else if p ≠ .bus true then (s, 0x0C07, [])
    else one (some s.reformat)
  else one (if n = 1 then some (s.onInst (instOf i) (fun x => { x with tel := [] })) else none)

/-- A write over a path: result code and response value. -/
def State.dictWrite (s : State) (p : Path) (i sub : Nat) (b : Bytes) : State × Nat × Bytes :=
  if s.pwr.save.isSome then (s, 0x0C09, [])
  else
    match entryOn p i sub with
    | none => (s, 0x0C01, [])
    | some e =>
      if e.right = 0 then (s, 0x0C04, [])
      else if !s.pathMay p i sub then (s, 0x0C07, [])
      else if e.right = 3 then s.writeCommand p e i b
      else (let r := s.writeValue e i b; (r.1, r.2, []))

/-! ## Operations (R469, R472) -/

/-- Generation of an entry. -/
def State.generation (s : State) (i sub : Nat) : Nat := sget 0 s.mgmt.gens (ekey i sub)

/-- Smallest and largest values of a numeric entry. A read-only one has the range of its type. -/
def entryRange (e : EntryDef) : Nat × Nat :=
  if 5 ≤ e.typ then (0, 0) else if e.right = 0 then (0, 2 ^ (8 * e.len) - 1) else (e.lo, e.hi)

/-- What DESCRIBE answers: 32 bytes. -/
def State.describe (s : State) (e : EntryDef) (i : Nat) : Bytes :=
  let bar0 := if e.right = 0 then 0 else if s.mirrorMay i e.sub true then e.right else if e.right = 3 then 0xFF else 0
  let r := entryRange e
  le 1 e.typ ++ le 1 e.right ++ le 1 bar0 ++ le 1 0 ++ le 2 (min e.len 65535) ++ zeros 2 ++ le 8 r.1 ++ le 8 r.2 ++ le 8 (if 5 ≤ e.typ then 0 else e.dflt)

/-- Every entry as index and sub-index, ascending. -/
def allEntries : List (Nat × Nat) :=
  entriesBefore3000.map (fun e => (e.idx, e.sub)) ++
  (List.range 25).flatMap (fun d => entriesDie.map (fun e => (0x3000 + d, e.sub))) ++
  (List.range 64).flatMap (fun n => entriesInst.map (fun e => (e.idx + 0x100 * n, e.sub)))

/-- The next existing entry after a key. -/
def nextEntry (p : Path) (k : Nat) : Option (Nat × Nat) :=
  allEntries.find? (fun e => decide (k < ekey e.1 e.2) && (entryOn p e.1 e.2).isSome)

/-- Entries that the ROM reads in ROM recovery (R476; 15 R423). -/
def romReads (i sub : Nat) : Bool := (i == 0x1000 && decide (1 ≤ sub) && decide (sub ≤ 4)) || i == 0x2550

/-- READ. -/
def State.readOp (s : State) (e : EntryDef) (i : Nat) : Nat × Bytes :=
  if e.right = 3 then (0x0C05, [])
  else
    let v := s.value e i
    if e.typ = 8 ∧ 1024 < v.length then (0x0C0C, []) else (0, v)

/-- READ_PART of a BLOB. -/
def State.readPartOp (s : State) (e : EntryDef) (i off len : Nat) : Nat × Bytes :=
  if e.right = 3 then (0x0C05, [])
  else if e.typ ≠ 8 then (0x0C02, [])
  else
    let v := s.value e i
    if len = 0 ∨ 1024 < len ∨ v.length < off + len then (0x0C0C, []) else (0, slice v off len)

/-- WRITE_IF. -/
def State.writeIfOp (s : State) (p : Path) (e : EntryDef) (i : Nat) (b : Bytes) : State × Nat × Bytes :=
  if e.right = 3 then (s, 0x0C05, [])
  else if b.length ≠ 2 * e.len then (s, 0x0C02, [])
  else if s.value e i ≠ b.take e.len then (s, 0x0C0A, [])
  else s.dictWrite p i e.sub (b.drop e.len)

/-- The staging area of a source and entry. -/
def State.dropPart (s : State) (src k : Nat) : State := { s with mgmt := { s.mgmt with parts := s.mgmt.parts.filter (fun x => !(x.1 == src && x.2.1 == k)) } }

/-- WRITE_PART: parts are staged in order; the last one applies the whole value as one write. -/
def State.writePartOp (s : State) (p : Path) (src : Nat) (e : EntryDef) (i off : Nat) (last : Bool) (b : Bytes) : State × Nat × Bytes :=
  let k := ekey i e.sub
  let old := match s.mgmt.parts.find? (fun x => x.1 == src && x.2.1 == k) with | some x => x.2.2 | none => []
  if s.pwr.save.isSome then (s, 0x0C09, [])
  else if k = ekey 0x2550 0xA ∧ s.wakeStage = 0x31 then (let r := s.recoveryChunk off b last; (r.1, r.2, []))
  else if e.right = 0 then (s, 0x0C04, [])
  else if !s.pathMay p i e.sub then (s, 0x0C07, [])
  else if e.typ ≠ 8 then (s, 0x0C02, [])
  else if off ≠ old.length ∨ 65536 < off + b.length then (s.dropPart src k, 0x0C0C, [])
  else if last then (s.dropPart src k).dictWrite p i e.sub (old ++ b)
  else
    let s := s.dropPart src k
    ({ s with mgmt := { s.mgmt with parts := s.mgmt.parts ++ [(src, k, old ++ b)] } }, 0, [])

/-- What the ROM does not serve in ROM recovery. -/
def romRefuses (o : DictOp) : Bool := !((o.op == 1 && romReads o.index o.sub) || (o.op == 5 && o.index == 0x2550 && o.sub == 0xA))

/-- Run one operation: result code and value. Before W5 has ended nothing is served. -/
def State.dictOp (s : State) (p : Path) (src : Nat) (o : DictOp) : State × Nat × Bytes :=
  if !s.powered ∨ s.wakeStage < 6 ∨ (s.wakeStage = 0x31 ∧ romRefuses o) then (s, 0x0C09, [])
  else if o.op = 7 then
    match nextEntry p (ekey o.index o.sub) with
    | some e => (s, 0, le 2 e.1 ++ le 1 e.2 ++ zeros 1)
    | none => (s, 0x0C01, [])
  else
    match entryOn p o.index o.sub with
    | none => (s, 0x0C01, [])
    | some e =>
      match o.op with
      | 1 => let r := s.readOp e o.index; (s, r.1, r.2)
      | 2 => s.dictWrite p o.index o.sub o.value
      | 3 => s.writeIfOp p e o.index o.value
      | 4 => let r := s.readPartOp e o.index o.offset o.len; (s, r.1, r.2)
      | 5 => s.writePartOp p src e o.index o.offset o.last o.value
      | 6 => (s, 0, s.describe e o.index)
      | _ => (s, 0x0C02, [])

/-- Run one operation and answer it. -/
def State.answerOp (s : State) (p : Path) (src : Nat) (o : DictOp) : State × DictAnswer :=
  let r := s.dictOp p src o
  (r.1, { op := o.op, index := o.index, sub := o.sub, result := r.2.1, generation := r.1.generation o.index o.sub, value := r.2.2 })

/-! ## Writes with a row of their own -/

/-- A write by itself: its answer is kept. -/
def State.writeAlone (s : State) (p : Path) (i sub : Nat) (b : Bytes) : State :=
  let r := s.answerOp p 0 { op := 2, index := i, sub, len := b.length, value := b }
  { r.1 with mgmt := { r.1.mgmt with answer := some r.2 } }

def execTelemetryClear (inst value : Nat) (s : State) : Host.Outcome State Fault Refusal :=
  unitOf numInsts inst (s.writeAlone (.bus false) (instIdx inst 0x20) 3 (le 1 value))

def execFloorWrite (cls value : Nat) (path : Path) (s : State) : Host.Outcome State Fault Refusal :=
  unitOf 4 cls (s.writeAlone path 0x2230 (cls + 1) (le 4 value))

def execRouteEntryWrite (target value : Nat) (path : Path) (s : State) : Host.Outcome State Fault Refusal :=
  unitOf 120 target (s.writeAlone path 0x2310 (target + 1) (le 8 value))

def execModuleIndexWrite (value : Nat) (path : Path) (s : State) : Host.Outcome State Fault Refusal := done (s.writeAlone path 0x2300 1 (le 1 value))

def execPowerModeWrite (value : Nat) (path : Path) (s : State) : Host.Outcome State Fault Refusal := done (s.writeAlone path 0x2000 1 (le 1 value))

def execRealign (value : Nat) (path : Path) (s : State) : Host.Outcome State Fault Refusal := done (s.writeAlone path 0x2100 8 (le 1 value))

def execTimetableWrite (entry : Nat) (value : Bytes) (path : Path) (s : State) : Host.Outcome State Fault Refusal :=
  unitOf 512 entry (s.writeAlone path (0x2110 + entry / 256) (entry % 256) value)

def execCoreReset (value : Nat) (path : Path) (s : State) : Host.Outcome State Fault Refusal := done (s.writeAlone path 0x2550 8 (le 4 value))

def execClearWindows (value : Nat) (path : Path) (s : State) : Host.Outcome State Fault Refusal := done (s.writeAlone path 0x2610 7 (le 1 value))

def execRestoreDefaults (value : Nat) (path : Path) (s : State) : Host.Outcome State Fault Refusal := done (s.writeAlone path 0x1100 0xA (le 2 value))

def execReformat (value : Nat) (path : Path) (s : State) : Host.Outcome State Fault Refusal := done (s.writeAlone path 0x2700 0xC (le 1 value))

def execManagementKeyWrite (fn : Nat) (key : Bytes) (secured : Bool) (s : State) : Host.Outcome State Fault Refusal :=
  unitOf 2 fn (s.writeAlone (if secured then .secured fn else .mirror fn) 0x1100 5 key)

end Sys2Proof.Machine
end

