-- ==== Sys2Proof/Machine/Manage.lean ====
section
/-! DEFINITION. Management requests (17_object_dictionary.md R467 to R477): datagrams on the bus and in the mirror, their
validation, authentication, queue and responses; notices; neighbour protocols. -/

namespace Sys2Proof.Machine

/-! ## Datagrams (R468, R469) -/

/-- Bytes of a length padded to a multiple of 4. -/
def pad4 (b : Bytes) : Bytes := b ++ zeros (roundUp 4 b.length - b.length)

/-- Value bytes that follow an operation header: READ_PART's LEN asks for bytes and brings none (R469). -/
def opValueLen (op len : Nat) : Nat := if op = 4 then 0 else len

/-- The operations that fill a byte string; none where a length disagrees with its contents. -/
def parseOps : Nat → Bytes → Option (List DictOp)
  | 0, b => if b = [] then some [] else none
  | n + 1, b =>
    let len := opValueLen (field b 0 1) (field b 8 2)
    if b.length < 12 + roundUp 4 len then none
    else
      match parseOps n (b.drop (12 + roundUp 4 len)) with
      | none => none
      | some ops =>
        some ({ op := field b 0 1, sub := field b 1 1, index := field b 2 2, offset := field b 4 4, len := field b 8 2,
                last := (field b 10 1).testBit 0, value := slice b 12 len } :: ops)

/-- A request as R468 and R469 lay it out: REQ_ID, FLAGS, AUTH_SEQ, operations. -/
structure Request where
  reqId : Nat
  flags : Nat
  authSeq : Nat
  ops : List DictOp
  deriving DecidableEq, Repr

/-- Read a request; none where R468 drops it. -/
def parseRequest (b : Bytes) : Option Request :=
  let flags := field b 0xA 2
  let tag := if flags.testBit 0 then 16 else 0
  if b.length < 24 + tag ∨ 1452 < b.length ∨ field b 0 2 ≠ 0x4442 ∨ field b 2 1 ≠ 1 ∨ field b 3 1 ≠ 1 then none
  else
    let n := field b 8 2
    if n = 0 ∨ 64 < n then none
    else
      match parseOps n ((b.drop 24).take (b.length - 24 - tag)) with
      | none => none
      | some ops => some { reqId := field b 4 4, flags, authSeq := field b 0x10 8, ops }

/-- An operation's answer on the wire. -/
def answerBytes (a : DictAnswer) : Bytes :=
  le 1 a.op ++ le 1 a.sub ++ le 2 a.index ++ le 2 a.result ++ le 2 a.value.length ++ le 4 a.generation ++ pad4 a.value

/-! ## Authentication (R474) -/

/-- Entries that are read without a tag. -/
def openRead (o : DictOp) : Bool :=
  (o.op == 1 || o.op == 4) &&
  ((decide (0x1000 ≤ o.index) && decide (o.index < 0x1100)) || (o.index == 0x2300 && o.sub == 4) || (o.index == 0x2550 && (o.sub == 1 || o.sub == 2)))

/-- The least sequence number that a source has to exceed. -/
def State.lastSeq (s : State) (src : Nat) : Nat :=
  match s.mgmt.sources.find? (fun e => e.1 == src) with
  | some e => e.2
  | none => s.mgmt.dropped

/-- The tag of a request holds. -/
def State.tagHolds (s : State) (src : Nat) (b : Bytes) : Bool :=
  match s.mgmt.key with
  | none => false
  | some k =>
    (hmacSha256 k (b.take (b.length - 16))).take 16 == b.drop (b.length - 16) &&
    field b 0x14 4 == s.incarnation && decide (s.lastSeq src < field b 0x10 4)

/-- A request passes R474; the ROM ignores AUTH (R476). -/
def State.passesAuth (s : State) (src : Nat) (q : Request) (b : Bytes) : Bool :=
  decide (s.wakeStage = 0x31) ||
  (if q.flags.testBit 0 then s.tagHolds src b else decide (s.ent 0x1100 4 = 0) || q.ops.all openRead)

/-- Remember the sequence accepted of a source: 256 sources, the least recently used one is dropped. -/
def State.acceptSeq (s : State) (src seq : Nat) : State :=
  let l := (src, seq) :: s.mgmt.sources.filter (fun e => e.1 != src)
  { s with mgmt := { s.mgmt with sources := l.take 256, dropped := (l.drop 256).foldl (fun m (e : Nat × Nat) => max m e.2) s.mgmt.dropped } }

/-! ## Responses (R468, R470, R471) -/

/-- Put a datagram on the bus. -/
def State.sendDatagram (s : State) (dest port : Nat) (b : Bytes) : State :=
  { s with mgmt := { s.mgmt with sent := s.mgmt.sent ++ [⟨dest, port, b⟩] } }

/-- Send the response of a bus request and keep it among the last 64. -/
def State.respondBus (s : State) (src port reqId : Nat) (b : Bytes) : State :=
  let c := s.mgmt.cache ++ [{ source := src, port, reqId, bytes := b }]
  State.sendDatagram { s with mgmt := { s.mgmt with cache := c.drop (c.length - 64) } } src port b

/-- Write a mirror response: READY is set, then BUSY is cleared, and the vector is signalled (19 R507). -/
def State.respondMirror (s : State) (fn : Nat) (b : Bytes) : State :=
  let s := s.onFn fn (fun f => { f with response := b, respLen := b.length, respReady := true, mirrorBusy := false })
  if (s.fn fn).vectorIrq then s.signal fn (s.fn fn).vector else s

/-- The response of a request whose operations have all been answered. -/
def State.respond (s : State) (q : MgmtReq) : State :=
  let body := q.answers.flatMap answerBytes
  let s := s.bump 0x1100 0xB
  match q.path with
  | .bus _ =>
    let s : State := State.touch { s with mgmt := { s.mgmt with lastManager := q.source } } 0x1100 0xE
    s.respondBus q.source q.port q.reqId (s.tagged q.tagged (fun f => dgHeader 2 q.reqId q.answers.length f 0 q.seq ++ body))
  | .mirror fn => s.respondMirror fn (dgHeader 2 q.reqId q.answers.length 0 0 0 ++ body)
  | .secured fn => s.onFn fn (fun f => { f with answer := dgHeader 2 q.reqId q.answers.length 0 0 0 ++ body })

/-! ## Execution (R470) -/

/-- NOT_REACHED. -/
def notReached (o : DictOp) : DictAnswer := { op := o.op, index := o.index, sub := o.sub, result := 0x0C0D, generation := 0 }

/-- The response with this answer and a bare answer for every later operation fits in 1,452 bytes. -/
def answerFits (q : MgmtReq) (a : DictAnswer) : Bool :=
  decide (24 + (if q.tagged then 16 else 0) + ((q.answers ++ [a]).flatMap answerBytes).length + 12 * (q.ops.length - q.answers.length - 1) ≤ 1452)

/-- Answer the next operation of the request at the front, and the whole request after its last. -/
def State.serveFront (s : State) (q : MgmtReq) (o : DictOp) : State :=
  let r := s.answerOp q.path q.source o
  let fits := answerFits q r.2
  let s : State := if fits then r.1 else s
  let a := if fits then r.2 else notReached o
  let later := q.ops.drop (q.answers.length + 1)
  let skip := !fits || (q.stop && a.result != 0)
  let answers := q.answers ++ [a] ++ (if skip then later.map notReached else [])
  let s : State := { s with mgmt := { s.mgmt with answer := some a } }
  if answers.length < q.ops.length then
    { s with mgmt := { s.mgmt with queue := s.mgmt.queue.set 0 { q with answers } } }
  else State.respond { s with mgmt := { s.mgmt with queue := s.mgmt.queue.drop 1 } } { q with answers }

/-- An operation by itself. -/
def State.serveAlone (s : State) (p : Path) (src : Nat) (o : DictOp) : State :=
  let r := s.answerOp p src o
  { r.1 with mgmt := { r.1.mgmt with answer := some r.2 } }

/-- Run an operation: the next one of the request at the front of the queue, or one by itself, which never comes between
two operations of a request. The telemetry component serves it (14 R397). -/
def State.serve (s : State) (p : Path) (src : Nat) (o : DictOp) : State :=
  if (s.comp 8).restarting then s
  else
    match s.mgmt.queue with
    | [] => s.serveAlone p src o
    | q :: _ =>
      if q.path = p ∧ q.source = src ∧ q.ops[q.answers.length]? = some o then s.serveFront q o
      else if q.answers = [] then s.serveAlone p src o
      else s

def execRead (path : Path) (source : Nat) (op : DictOp) (s : State) : Host.Outcome State Fault Refusal := done (s.serve path source { op with op := 1 })

def execWrite (path : Path) (source : Nat) (op : DictOp) (s : State) : Host.Outcome State Fault Refusal := done (s.serve path source { op with op := 2 })

def execWriteIf (path : Path) (source : Nat) (op : DictOp) (s : State) : Host.Outcome State Fault Refusal := done (s.serve path source { op with op := 3 })

def execReadPart (path : Path) (source : Nat) (op : DictOp) (s : State) : Host.Outcome State Fault Refusal := done (s.serve path source { op with op := 4 })

def execWritePart (path : Path) (source : Nat) (op : DictOp) (s : State) : Host.Outcome State Fault Refusal := done (s.serve path source { op with op := 5 })

def execDescribe (path : Path) (source : Nat) (op : DictOp) (s : State) : Host.Outcome State Fault Refusal := done (s.serve path source { op with op := 6 })

def execNext (path : Path) (source : Nat) (op : DictOp) (s : State) : Host.Outcome State Fault Refusal := done (s.serve path source { op with op := 7 })

/-! ## Receipt -/

/-- Bus service runs: powered, past W1, no duplicate address, the telemetry component up (R467, R475; 14 R397). -/
def State.busUp (s : State) : Bool := s.powered && decide (2 ≤ s.wakeStage) && !s.mgmt.stopped && !(s.comp 8).restarting

/-- A management message is heard: the silence cap ends (R476; 12 R360). -/
def State.heard (s : State) : State := { s with pwr := { s.pwr with silent := false, lastMgmt := s.now } }

/-- A datagram that is refused before any operation runs. -/
def State.refuseBus (s : State) (src port reqId code : Nat) : State :=
  (s.bump 0x1100 0xC).respondBus src port reqId (dgHeader 2 reqId 0 0 code 0)

/-- A bus datagram (R468, R470, R471, R474). At the multicast address reads alone are answered (R467). -/
def State.datagram (s : State) (src port : Nat) (multicast : Bool) (b : Bytes) : State :=
  if !s.busUp then s
  else
    match parseRequest b with
    | none => s.bump 0x1100 0xC
    | some q =>
      let passes := s.passesAuth src q b
      match s.mgmt.cache.find? (fun c => c.source == src && c.port == port && c.reqId == q.reqId) with
      | some c => State.sendDatagram (if passes then s.heard else s) src port c.bytes
      | none =>
        if multicast && !q.ops.all (fun o => o.op == 1 || o.op == 4 || o.op == 6 || o.op == 7) then s
        else if !passes then
          (s.emitRarely (0x2101 * 2 ^ 128 + src) ticksPerSec (fault 0x2101 { die := dieK0 })).refuseBus src port q.reqId 0x0C08
        else
          let tag := q.flags.testBit 0 && decide (s.wakeStage ≠ 0x31)
          let s := s.heard
          let s := if tag then s.acceptSeq src (q.authSeq % 2 ^ 32) else s
          if 64 ≤ s.mgmt.queue.length then s.bump 0x1100 0xC
          else
            let r : MgmtReq := { path := .bus tag, source := src, port, reqId := q.reqId, stop := q.flags.testBit 1, tagged := tag, seq := q.authSeq, ops := q.ops, since := s.now / ticksPerUs }
            { s with mgmt := { s.mgmt with queue := s.mgmt.queue ++ [r] } }

def execManagementDatagram (source port : Nat) (multicast : Bool) (payload : Bytes) (s : State) : Host.Outcome State Fault Refusal :=
  done (s.datagram source port multicast payload)

/-- Place a mirror request: it comes before bus requests of the same microsecond that have not begun (R470). -/
def placeMirror (q : MgmtReq) : List MgmtReq → List MgmtReq
  | [] => [q]
  | a :: r =>
    if (match a.path with | .bus _ => true | _ => false) && a.since == q.since && a.answers.isEmpty then q :: a :: r else a :: placeMirror q r

/-- A mirror request of a function, in the mailbox or inside its session (R477). A refusal of the datagram answers at once. -/
def State.mirrorRequest (s : State) (p : Path) (fn : Nat) (b : Bytes) : State :=
  let refuse (s : State) (reqId code : Nat) : State :=
    let h := dgHeader 2 reqId 0 0 code 0
    match p with
    | .secured _ => s.onFn fn (fun f => { f with answer := h })
    | _ => s.respondMirror fn h
  if b.length = 0 ∨ 1452 < b.length then refuse s 0 0x0C02
  else
    match parseRequest b with
    | none => refuse (s.bump 0x1100 0xC) (field b 4 4) 0x0C02
    | some q =>
      if q.flags.testBit 0 ∨ q.authSeq ≠ 0 then refuse (s.bump 0x1100 0xC) q.reqId 0x0C02
      else if !s.fw.granted.testBit 1 then refuse s q.reqId 0x0C07
      else
        let r : MgmtReq := { path := p, source := fn, port := 0, reqId := q.reqId, stop := q.flags.testBit 1, tagged := false, seq := 0, ops := q.ops, since := s.now / ticksPerUs }
        { s with mgmt := { s.mgmt with queue := placeMirror r s.mgmt.queue } }

/-! ## Expiries and notices -/

def execPartStagingExpiry (source index sub : Nat) (s : State) : Host.Outcome State Fault Refusal := done (s.dropPart source (ekey index sub))

/-- Drop the cached responses of a source and REQ_ID (R471). -/
def State.dropCached (s : State) (src reqId : Nat) : State :=
  { s with mgmt := { s.mgmt with cache := s.mgmt.cache.filter (fun c => !(c.source == src && c.reqId == reqId)) } }

def execResponseCacheExpiry (source reqId : Nat) (s : State) : Host.Outcome State Fault Refusal := done (s.dropCached source reqId)

/-- Presence notice (R475). -/
def State.presence (s : State) : State :=
  if !s.powered ∨ s.wakeStage < 2 then s
  else s.notice 1 (le 1 s.moduleIndex ++ le 1 s.wakeStage ++ le 1 (s.ent 0x2550 2) ++ le 1 (s.ent 0x2500 6) ++ padTo 16 Config.serialNumber ++ le 4 s.incarnation)

def execPresenceNotice (s : State) : Host.Outcome State Fault Refusal := done s.presence

/-! ## Neighbour protocols (R467; the message forms are those of RFC 4861 and RFC 4443) -/

/-- Sum of the big-endian 16-bit words of a byte string. -/
def sum16 : Bytes → Nat
  | [] => 0
  | [a] => 256 * a.toNat
  | a :: b :: r => 256 * a.toNat + b.toNat + sum16 r

/-- ICMPv6 checksum over the pseudo-header and the message with its checksum field zero. -/
def icmpSum (dest msg : Bytes) : Nat :=
  let t := sum16 (linkLocal ++ dest ++ beBytes 4 msg.length ++ beBytes 4 58 ++ msg)
  let t := t % 65536 + t / 65536
  65535 - (t % 65536 + t / 65536)

/-- Send an ICMPv6 message of a type with a body. -/
def State.sendIcmp (s : State) (dest : Bytes) (typ : Nat) (body : Bytes) : State :=
  let head := le 1 typ ++ zeros 1
  s.sendDatagram (unle dest) 0 (head ++ beBytes 2 (icmpSum dest (head ++ zeros 2 ++ body)) ++ body)

/-- Neighbour advertisement: solicited, override, with the link-layer address. -/
def State.advertise (s : State) (source : Bytes) : State :=
  if !s.busUp then s else s.sendIcmp (padTo 16 source) 136 ([0x60#8] ++ zeros 3 ++ linkLocal ++ [2#8, 1#8] ++ Config.macAddress)

def execNeighbourDiscovery (source : Bytes) (s : State) : Host.Outcome State Fault Refusal := done (s.advertise source)

/-- Echo reply with the identifier, sequence and data of the request. -/
def State.echo (s : State) (source payload : Bytes) : State :=
  if !s.busUp then s else s.sendIcmp (padTo 16 source) 129 payload

def execIcmpv6Echo (source payload : Bytes) (s : State) : Host.Outcome State Fault Refusal := done (s.echo source payload)

/-- A duplicate address ends management service on the bus (R467). -/
def State.duplicate (s : State) : State :=
  if !s.powered ∨ s.mgmt.stopped then s
  else State.emit { s with mgmt := { s.mgmt with stopped := true } } (fault 0x2104 { die := dieK0 })

def execDuplicateAddress (s : State) : Host.Outcome State Fault Refusal := done s.duplicate

end Sys2Proof.Machine
end

