-- ==== Sys2Proof/Machine/Host.lean ====
section
/-! DEFINITION. BAR0 and BAR2 (19_host_interface.md R506 to R514): registers, the mirror mailbox, the MSI-X table, ring
contexts, doorbells, the aperture. -/

namespace Sys2Proof.Machine

/-- A cause of the host interface on the die of a link (R530). -/
def State.hostCause (s : State) (fn cause ring : Nat) : State := s.emit { fault cause { die := 20 + fn, unit := 0xB, locA := fn } with detail := ring }

/-- The module's ring is named by an enabled submission ring (R511). -/
def State.cqNamed (s : State) (k : Nat) : Bool := s.host.rings.any (fun (e : Nat × Ring) => e.2.enable && e.2.kind == 2 && e.2.cq == k)

/-! ## Doorbells (R512) -/

/-- A doorbell value is taken: it neither overfills the ring nor moves the index backward. -/
def doorbellOk (r : Ring) (v : Nat) : Bool :=
  if r.kind = 2 then decide ((v + 2 ^ 32 - r.cons) % 2 ^ 32 ≤ ringSize r) && decide (ringHeld r ≤ (v + 2 ^ 32 - r.cons) % 2 ^ 32)
  else decide ((r.prod + 2 ^ 32 - v) % 2 ^ 32 ≤ ringHeld r)

/-- A doorbell: PROD of a submission ring, CONS of any other. -/
def State.doorbell (s : State) (fn k value : Nat) : State :=
  let v := value % 2 ^ 32
  let r := s.ring k
  if !(s.fn fn).up then s
  else if !r.enable || !doorbellOk r v then s.hostCause fn 0x2304 k
  else if r.kind = 2 then s.onRing k (fun r => { r with prod := v })
  else s.onRing k (fun r => { r with cons := v })

def execDoorbell (fn ring value : Nat) (s : State) : Host.Outcome State Fault Refusal :=
  if fn < 2 then unitOf numRings ring (s.doorbell fn ring value) else .fault (.noSuchUnit fn)

/-! ## Ring contexts (R509 to R511) -/

/-- Kinds that a ring's range accepts. -/
def kindsOf (k : Nat) : List Nat := if k < 12288 then [1] else if k < 14336 then [2] else if k < 15360 then [3, 4] else [5, 6]

/-- Sizes of a kind: least and greatest SIZE_LOG2. -/
def sizesOf (kind : Nat) : Nat × Nat :=
  match kind with
  | 1 => (6, 20) | 2 => (4, 12) | 6 => (8, 20) | _ => (6, 16)

/-- The first condition of R511 that a context fails, as CONTEXT_ERROR names it; 0 for none. -/
def State.enableReason (s : State) (k : Nat) (r : Ring) : Nat :=
  let g := s.fw.granted
  let q := s.ring r.cq
  if r.kind ∉ kindsOf k then 1
  else if r.sizeLog2 < (sizesOf r.kind).1 ∨ (sizesOf r.kind).2 < r.sizeLog2 then 2
  else if r.base % 64 ≠ 0 ∨ r.shadow % 8 ≠ 0 then 3
  else if (r.kind = 5 ∧ !g.testBit 2) ∨ (r.kind = 6 ∧ !g.testBit 3) ∨ ((r.coalCount ≠ 0 ∨ r.coalTime ≠ 0) ∧ !g.testBit 7) then 4
  else if r.link = 1 ∧ (!g.testBit 9 ∨ !(s.fn 1).up) then 5
  else if r.kind = 2 ∧ !(q.enable && q.kind == 3 && q.link == r.link) then 6
  else 0

/-- A context write is refused: CONTEXT_ERROR of the function, and 0x2302. -/
def State.refuseContext (s : State) (fn k reason : Nat) : State :=
  (s.onFn fn (fun f => { f with errRing := k, errReason := reason, errValid := true })).hostCause fn 0x2302 k

/-- Word 2 of a context. -/
def ringWord2 (r : Ring) : Nat :=
  r.kind + 2 ^ 8 * r.sizeLog2 + 2 ^ 13 * r.link + 2 ^ 14 * bitOf r.enable + 2 ^ 15 * bitOf r.irq + 2 ^ 16 * r.vector + 2 ^ 32 * r.cq

/-- A word of a context as the host reads it (R510). -/
def ringWord (r : Ring) (w : Nat) : Nat :=
  match w with
  | 0 => r.base
  | 1 => r.shadow
  | 2 => ringWord2 r
  | 3 => r.prod + 2 ^ 32 * r.cons
  | 4 => r.coalCount + 2 ^ 16 * r.coalTime + 2 ^ 32 * bitOf r.overflow + 2 ^ 33 * bitOf r.error
  | 5 => r.dropped
  | _ => 0

/-- A write of word 2 of an enabled ring: ENABLE, IRQ and VECTOR alone. -/
def State.writeEnabled (s : State) (fn k v : Nat) : State :=
  let stuck := ((s.ring k).kind = 1 ∧ (s.ring k).assigned.isSome) ∨ ((s.ring k).kind = 3 ∧ s.cqNamed k)
  let s := s.onRing k (fun r => { r with irq := v.testBit 15, vector := bits v 25 16 })
  if v.testBit 14 then s
  else if stuck then s.refuseContext fn k 7
  else s.onRing k (fun r => { r with enable := false })

/-- A write of word 2 of a ring that is not enabled; one that sets ENABLE is checked. -/
def State.writeDisabled (s : State) (fn k v : Nat) : State :=
  let s := s.onRing k (fun r => { r with
    kind := bits v 7 0, sizeLog2 := bits v 12 8, link := bits v 13 13, irq := v.testBit 15, vector := bits v 25 16, cq := bits v 45 32 })
  if !v.testBit 14 then s
  else
    let c := s.enableReason k (s.ring k)
    if c ≠ 0 then s.refuseContext fn k c else s.onRing k (fun r => { r with enable := true, unsignalled := 0, gap := false })

/-- A write of one 64-bit word of a ring context. -/
def State.writeContext (s : State) (fn k word v : Nat) : State :=
  if !(s.fn fn).up then s
  else
    match word with
    | 2 => if (s.ring k).enable then s.writeEnabled fn k v else s.writeDisabled fn k v
    | 4 => s.onRing k (fun r => { r with coalCount := bits v 15 0, coalTime := bits v 31 16, overflow := r.overflow && !v.testBit 32, error := r.error && !v.testBit 33 })
    | 0 => s.onRing k (fun r => if r.enable then r else { r with base := v })
    | 1 => s.onRing k (fun r => if r.enable then r else { r with shadow := v })
    | 3 => s.onRing k (fun r => if r.enable then r else { r with prod := v % 2 ^ 32, cons := v / 2 ^ 32 })
    | _ => s

def execRingContextWrite (fn ring word : Nat) (value : Word64) (s : State) : Host.Outcome State Fault Refusal :=
  if fn < 2 then unitOf numRings ring (s.writeContext fn ring word value.toNat) else .fault (.noSuchUnit fn)

/-- COAL_TIME after the first unsignalled record (R514). -/
def State.coalesceTime (s : State) (k : Nat) : State :=
  let r := s.ring k
  if r.enable && r.irq && decide (0 < r.unsignalled) then (s.onRing k (fun r => { r with unsignalled := 0 })).signal r.link r.vector else s

def execCoalesceTimeout (ring : Nat) (s : State) : Host.Outcome State Fault Refusal := unitOf numRings ring (s.coalesceTime ring)

/-! ## Global registers, mailbox, MSI-X (R506, R507, R514) -/

/-- Bits of APERTURE_BASE that hold a base. -/
def apertureMask (v : Nat) : Nat := bits v 48 30 * 2 ^ 30

/-- A write of APERTURE_BASE. -/
def State.writeApertureBase (s : State) (fn v : Nat) : State := if (s.fn fn).up then s.onFn fn (fun f => { f with apertureBase := apertureMask v }) else s

def execApertureBaseWrite (fn : Nat) (value : Word64) (s : State) : Host.Outcome State Fault Refusal :=
  unitOf 2 fn (s.writeApertureBase fn value.toNat)

/-- MODULE_STATUS of a function. -/
def State.moduleStatus (s : State) (fn : Nat) : Nat :=
  s.wakeStage + 2 ^ 8 * s.ent 0x2550 2 + 2 ^ 16 * bitOf (decide (s.wakeStage = 0x21)) + 2 ^ 17 * bitOf (s.fn (1 - fn)).up +
  2 ^ 18 * bitOf (s.fn fn).session + 2 ^ 19 * bitOf s.pwr.save.isSome

/-- A 32-bit word of BAR0 as the host reads it. -/
def State.bar0Word (s : State) (fn off : Nat) : Nat :=
  let f := s.fn fn
  if off < 0x1000 then
    match off with
    | 0x000 => Config.hostMinor + 2 ^ 8
    | 0x004 => s.moduleStatus fn
    | 0x008 => fn
    | 0x010 => s.fw.granted % 2 ^ 32
    | 0x014 => s.fw.granted / 2 ^ 32
    | 0x018 => f.errRing + 2 ^ 16 * f.errReason + 2 ^ 31 * bitOf f.errValid
    | 0x020 => f.apertureBase % 2 ^ 32
    | 0x024 => f.apertureBase / 2 ^ 32
    | 0x040 => 2 ^ 16 * bitOf f.mirrorBusy + 2 ^ 17 * bitOf f.mirrorOverrun
    | 0x044 => f.respLen + 2 ^ 16 * bitOf f.respReady
    | 0x048 => f.vector + 2 ^ 10 * bitOf f.vectorIrq
    | _ => 0
  else if 0x2000 ≤ off ∧ off < 0x2800 then field f.request (off - 0x2000) 4
  else if 0x2800 ≤ off ∧ off < 0x3000 then field f.response (off - 0x2800) 4
  else if 0x100000 ≤ off ∧ off < 0x200000 then
    let w := ringWord (s.ring ((off - 0x100000) / 64)) (off % 64 / 8)
    if off % 8 = 0 then w % 2 ^ 32 else w / 2 ^ 32
  else if 0x200000 ≤ off ∧ off < 0x204000 then msixWord f ((off - 0x200000) / 4)
  else if 0x208000 ≤ off ∧ off < 0x208080 then bits (maskOf f.pendingBits) (8 * (off - 0x208000) + 31) (8 * (off - 0x208000))
  else 0

/-- Bytes written into a mailbox of 2 KiB. -/
def patchBuffer (b : Bytes) (o : Nat) (d : Bytes) : Bytes := padTo o b ++ d ++ b.drop (o + d.length)

/-- MIRROR_CTL: the write is the doorbell; while BUSY it sets OVERRUN (R507). A request that finds the telemetry component
restarting goes unanswered (14 R397). -/
def State.mirrorDoorbell (s : State) (fn v : Nat) : State :=
  let s := if v.testBit 17 then s.onFn fn (fun f => { f with mirrorOverrun := false }) else s
  if (s.fn fn).mirrorBusy then s.onFn fn (fun f => { f with mirrorOverrun := true })
  else if (s.comp 8).restarting then s
  else
    let n := bits v 10 0
    let s := s.onFn fn (fun f => { f with mirrorBusy := true })
    s.mirrorRequest (.mirror fn) fn (padTo n (s.fn fn).request)

/-- A word of the MSI-X table; a vector that is unmasked with its pending bit set is signalled. -/
def State.writeMsix (s : State) (fn k v : Nat) : State :=
  let v := if k % 4 = 3 then v % 2 else v
  let s := s.onFn fn (fun f => { f with msix := sset (if k % 4 = 3 then 1 else 0) f.msix k v })
  if k % 4 = 3 ∧ v = 0 ∧ k / 4 ∈ (s.fn fn).pendingBits then
    State.signal (s.onFn fn (fun f => { f with pendingBits := f.pendingBits.filter (· != k / 4) })) fn (k / 4)
  else s

/-- A half of a 64-bit word: the other half as it reads, its write-one-to-clear bits left alone. -/
def joinHalf (old off v : Nat) : Nat := if off % 8 = 0 then old / 2 ^ 32 * 2 ^ 32 + v else old % 2 ^ 32 + 2 ^ 32 * v

/-- A 4-byte write into BAR0. -/
def State.bar0Write32 (s : State) (fn off v : Nat) : State :=
  if off = 0x018 then (if v.testBit 31 then s.onFn fn (fun f => { f with errValid := false }) else s)
  else if off = 0x020 ∨ off = 0x024 then s.writeApertureBase fn (joinHalf (s.fn fn).apertureBase off v)
  else if off = 0x040 then s.mirrorDoorbell fn v
  else if off = 0x044 then (if v.testBit 16 then s.onFn fn (fun f => { f with respReady := false }) else s)
  else if off = 0x048 then s.onFn fn (fun f => { f with vector := bits v 9 0, vectorIrq := v.testBit 10 })
  else if 0x2000 ≤ off ∧ off < 0x2800 then s.onFn fn (fun f => { f with request := patchBuffer f.request (off - 0x2000) (le 4 v) })
  else if 0x10000 ≤ off ∧ off < 0x20000 then s.doorbell fn ((off - 0x10000) / 4) v
  else if 0x100000 ≤ off ∧ off < 0x200000 then
    let k := (off - 0x100000) / 64
    let w := off % 64 / 8
    let old := if w = 4 then ringWord (s.ring k) 4 % 2 ^ 32 else ringWord (s.ring k) w
    s.writeContext fn k w (joinHalf old off v)
  else if 0x200000 ≤ off ∧ off < 0x204000 then s.writeMsix fn ((off - 0x200000) / 4) v
  else s

/-- A write into BAR0: aligned accesses of 4 and 8 bytes; any other completes with Unsupported Request. -/
def State.bar0Write (s : State) (fn off : Nat) (wide : Bool) (v : Nat) : State :=
  if !(s.fn fn).up ∨ off % 4 ≠ 0 ∨ (wide ∧ off % 8 ≠ 0) then s
  else if !wide then s.bar0Write32 fn off (v % 2 ^ 32)
  else if 0x100000 ≤ off ∧ off < 0x200000 then s.writeContext fn ((off - 0x100000) / 64) (off % 64 / 8) v
  else if off = 0x020 then s.writeApertureBase fn v
  else (s.bar0Write32 fn off (v % 2 ^ 32)).bar0Write32 fn (off + 4) (v / 2 ^ 32)

def execRegisterWrite (target : RegTarget) (value : Word64) (s : State) : Host.Outcome State Fault Refusal :=
  match target with
  | .core c off byK0 =>
    unitOf numCores c (if byK0 then s.k0Write c off (value.toNat % 2 ^ 32) else s.coreWrite c off (value.toNat % 2 ^ 32))
  | .bar0 fn off wide =>
    if fn < 2 then unitOf 0x1000000 off (s.bar0Write fn off wide value.toNat) else .fault (.noSuchUnit fn)

/-! ## The aperture (R508; 06 R154) -/

/-- The parts of an access that lie in one granule each: offset and bytes. -/
def granuleCuts (off n : Nat) : List (Nat × Nat) :=
  (List.range ((off % 4096 + n + 4095) / 4096)).map (fun i =>
    let lo := max off (off / 4096 * 4096 + 4096 * i)
    (lo, min (off + n) (off / 4096 * 4096 + 4096 * (i + 1)) - lo))

/-- A cause of an aperture request. The host is no instance, so none is charged. -/
def State.apertureCause (s : State) (cause off : Nat) : State :=
  s.emit { fault cause { die := 16 + keeperOf (offPage off), unit := 2 } with cls := 0, address := off }

/-- A read of one part. -/
def State.aperturePart (s : State) (fn off n : Nat) : State × Bytes × List Bool :=
  let o := off % 64
  let k := (o + n + 63) / 64
  let refused (s : State) : State × Bytes × List Bool := (s, List.replicate n 0xFF#8, List.replicate k true)
  match s.place off with
  | .reserved => refused (s.apertureCause 0x1608 off)
  | .remote node a =>
    (s.sendRequest (20 + fn) { opcode := 1, beats := k, priv := true, inst := field (s.blob 0x2260 ((off - 2 ^ 48) / 2 ^ 40 + 1)) 1 1, node, offset := a - o }
      { die := 0, tag := 0, node, inst := field (s.blob 0x2260 ((off - 2 ^ 48) / 2 ^ 40 + 1)) 1 1, opcode := 1, core := numCores + 1, cmdNo := n, slot := o }, [], [])
  | .paged a =>
    let c := s.accessCause 0 true a
    if c ≠ 0 then refused (s.apertureCause c a)
    else if (s.page (offPage a)).holder = 0x3FF2 then refused (s.apertureCause 0x1B08 a)
    else
      let b := s.readBeats (a - o) 0x3FFF k
      (s.afterRead b, slice (b.flatMap (·.bytes)) o n, b.map (fun x => x.poison.isSome))

/-- A read through BAR2. -/
def State.apertureRead (s : State) (fn off n : Nat) : State :=
  if !(s.fn fn).up then s
  else
    let r := (granuleCuts ((s.fn fn).apertureBase + off) n).foldl (fun (r : State × Bytes × List Bool) c =>
      let p := r.1.aperturePart fn c.1 c.2
      (p.1, r.2.1 ++ p.2.1, r.2.2 ++ p.2.2)) (s, [], [])
    r.1.apertureAnswer r.2.1 r.2.2

def execApertureRead (fn offset len : Nat) (s : State) : Host.Outcome State Fault Refusal :=
  if fn < 2 then unitOf (2 ^ 37) offset (s.apertureRead fn offset len) else .fault (.noSuchUnit fn)

/-- The beats that a write of bytes leaves: the bytes around it stay, and so does the poison of a beat it covers in part. -/
def State.patchBeats (s : State) (off : Nat) (b : Bytes) : List Beat :=
  let o := off % 64
  let first := off - o
  let k := (o + b.length + 63) / 64
  let all := patchBuffer (s.coming first (64 * k)) o b
  (List.range k).map (fun i =>
    let covered := decide (off ≤ first + 64 * i) && decide (first + 64 * i + 64 ≤ off + b.length)
    ⟨slice all (64 * i) 64, if covered then none else (s.mem.poison.find? (fun e => e.1 == (first + 64 * i) / 64)).map (·.2)⟩)

/-- A write of one part. A beat that another module's member gets in part has free bytes around it (log entry 44). -/
def State.apertureStore (s : State) (fn off : Nat) (b : Bytes) : State :=
  match s.place off with
  | .reserved => s.apertureCause 0x1608 off
  | .remote node a =>
    let o := a % 64
    let k := (o + b.length + 63) / 64
    let around := (List.range (64 * k)).map (fun i => BitVec.ofNat 8 (Config.freeValue s.free i))
    s.fresh.sendPacket (20 + fn) { opcode := 2, vc := 2, beats := k, priv := true, inst := field (s.blob 0x2260 ((off - 2 ^ 48) / 2 ^ 40 + 1)) 1 1,
                                   node, offset := a - o, data := patchBuffer around o b }
  | .paged a =>
    let c := s.accessCause 0 true a
    let serving := decide ((s.inst (pageInst (offPage a))).bind.state = .serving)
    if c ≠ 0 then s.apertureCause c a
    else
      let w := s.writePaged (!serving) (a - a % 64) (s.patchBeats a b)
      if w.2 = 0 then w.1 else w.1.apertureCause w.2 a

/-- A write through BAR2. -/
def State.apertureWrite (s : State) (fn off : Nat) (b : Bytes) : State :=
  if !(s.fn fn).up then s
  else
    let base := (s.fn fn).apertureBase + off
    (granuleCuts base b.length).foldl (fun (s : State) c => s.apertureStore fn c.1 (slice b (c.1 - base) c.2)) s

def execApertureWrite (fn offset : Nat) (data : Bytes) (s : State) : Host.Outcome State Fault Refusal :=
  if fn < 2 then unitOf (2 ^ 37) offset (s.apertureWrite fn offset data) else .fault (.noSuchUnit fn)

end Sys2Proof.Machine
end

