-- ==== Sys2Proof/Machine/Command.lean ====
section
/-! DEFINITION. Submission entries (19_host_interface.md R515, R517 to R521, R526): their checks, their operands and the
commands they carry, on a submission ring and inside the secured session. -/

namespace Sys2Proof.Machine

/-- The opcodes of R519: opcode, host feature bit (none for —), whether the command names an instance, and the bytes of
OPERANDS that it uses, as pairs of offset in the entry and width. -/
def opcodeRows : List (Nat × Option Nat × Bool × List (Nat × Nat)) := [
  (0x0001, none, false, [(0x18, 1), (0x19, 1), (0x20, 8)]),
  (0x0101, some 0, true, [(0x18, 8), (0x20, 8), (0x28, 8)]),
  (0x0102, some 0, true, [(0x18, 8), (0x20, 8)]),
  (0x0103, some 0, true, []),
  (0x0104, some 0, true, []),
  (0x0201, some 0, true, [(0x18, 8), (0x20, 2), (0x22, 2), (0x24, 2), (0x26, 1), (0x27, 1), (0x28, 8), (0x30, 4), (0x34, 4), (0x38, 4)]),
  (0x0202, some 0, true, [(0x18, 8)]),
  (0x0203, some 0, true, [(0x18, 8)]),
  (0x0204, some 0, true, [(0x18, 8)]),
  (0x0205, some 0, true, [(0x18, 8), (0x20, 1)]),
  (0x0206, some 0, true, [(0x18, 1)]),
  (0x0301, some 4, true, [(0x18, 2), (0x20, 8), (0x28, 8)]),
  (0x0302, some 4, true, [(0x18, 2)]),
  (0x0303, some 5, true, [(0x18, 2), (0x1C, 4), (0x20, 4), (0x24, 2), (0x26, 2), (0x28, 2), (0x30, 8), (0x38, 8)]),
  (0x0401, some 6, false, [(0x18, 8), (0x20, 8), (0x28, 1), (0x30, 8)]),
  (0x0402, some 6, false, [(0x18, 16)]),
  (0x0403, some 6, false, [(0x18, 16), (0x28, 4), (0x2C, 4), (0x30, 1), (0x38, 8)]),
  (0x0404, some 6, false, [(0x18, 1), (0x1C, 4), (0x20, 2), (0x24, 4)]),
  (0x0405, some 6, false, [(0x18, 1)]),
  (0x0501, some 11, false, [(0x18, 8)]),
  (0x0502, some 11, false, [(0x18, 8)]),
  (0x0503, some 11, false, []),
  (0x0504, some 11, false, []),
  (0x0601, none, false, []),
  (0x0602, none, false, [])]

/-- The row of an opcode. -/
def opcodeRow (op : Nat) : Option (Option Nat × Bool × List (Nat × Nat)) := (opcodeRows.find? (fun r => r.1 == op)).map (·.2)

/-- A data buffer of the length that the command asks for (R519). -/
def dataOk (op : Nat) (d : Bytes) : Bool :=
  if op = 0x0101 ∨ op = 0x0501 ∨ op = 0x0601 then true
  else if op = 0x0201 then d.length == 64
  else if op = 0x0404 then d.length == 32
  else if op = 0x0401 ∨ op = 0x0403 then decide (1 ≤ d.length) && d.length == 1 + field d 0 1
  else d.length == 0

/-- Operand bytes that no operand uses are zero. -/
def operandsClean (e : Bytes) (used : List (Nat × Nat)) : Bool :=
  (List.range 40).all (fun i => used.any (fun u => decide (u.1 ≤ 0x18 + i) && decide (0x18 + i < u.1 + u.2)) || e.getD (0x18 + i) 0 == 0)

/-- The code that an entry is refused with before its command looks at it; 0 for none (R415, R518, R519, R521). -/
def State.entryCode (s : State) (e d : Bytes) (secured : Bool) : Nat :=
  let op := field e 0 2
  match opcodeRow op with
  | none => 0x1001
  | some r =>
    if !s.fw.negotiated ∧ op ≠ 1 then 0x0E07
    else if !secured ∧ (op = 0x0404 ∨ op = 0x0405) then 0x0B04
    else if !secured ∧ op = 0x0601 then 0x1004
    else if (match r.1 with | some b => !s.fw.granted.testBit b | none => false) then 0x0E07
    else if field e 0x14 4 ≠ 0 ∨ (field e 2 1 ≠ 0 ∧ !(op = 0x0303 ∧ field e 2 1 = 2)) ∨ !operandsClean e r.2.2 ∨
            (if r.2.1 then 64 ≤ field e 3 1 else field e 3 1 ≠ 0) ∨ 268435456 < field e 0x10 4 ∨ d.length ≠ field e 0x10 4 ∨ !dataOk op d ∨
            (secured ∧ field e 8 8 ≠ 0) then 0x1002
    else 0

/-- What the module reads at a host address; none where the read fails. -/
def bufferAt (bufs : List (Nat × Option Bytes)) (a n : Nat) : Option Bytes := (((bufs.find? (fun b => b.1 == a)).map (·.2)).join).map (padTo n)

/-- Member list of a data buffer: a count, then module indices. -/
def memberList (d : Bytes) : List Nat := (d.drop 1).map (·.toNat)

/-- ADMIT's operands. -/
def admitArgs (e d : Bytes) : AdmitArgs :=
  { seqId := field e 0x18 8, ring := field e 0x20 2, tenant := field e 0x22 2, lesson := field e 0x24 2, cls := field e 0x26 1, priority := field e 0x27 1,
    promptAddr := field e 0x28 8, promptLen := field e 0x30 4, maxNew := field e 0x34 4, maxPositions := field e 0x38 4, sampling := d }

/-- BUDGET_SET's operands; BALANCE is the optional one. -/
def budgetArgs (e : Bytes) : BudgetChange :=
  { tenant := field e 0x18 2, refill := field e 0x1C 4, capacity := field e 0x20 4, promptWeight := field e 0x24 2, genWeight := field e 0x26 2, flags := field e 0x28 2,
    balance := if (field e 2 1).testBit 1 then some (toInt 64 (field e 0x30 8)) else none, effectiveStep := field e 0x38 8 }

/-- A chunk is the last one: with it the image has the length that its header names (14 R404, R421). -/
def State.lastChunk (s : State) (off : Nat) (d : Bytes) : Bool :=
  let have_ := if off = 0 then [] else (s.fw.banks.getD (1 - s.fw.active) {}).bytes
  decide (12 ≤ have_.length + d.length) && decide (field (have_ ++ d.take 12) 8 4 ≤ have_.length + d.length)

/-- Run a checked entry: the command's own effect. -/
def State.runEntry (s : State) (e d : Bytes) (bufs : List (Nat × Option Bytes)) (protocols : List (Nat × Nat)) (ref : CmdRef) : State :=
  let n := field e 3 1
  let finish (r : State × Nat) : State := r.1.complete ref r.2
  match field e 0 2 with
  | 0x0001 => s.negotiate (field e 0x18 1) (field e 0x19 1) (field e 0x20 8) ref
  | 0x0101 => s.bindCommand n (some d) (bufferAt bufs (field e 0x18 8) (field e 0x20 8)) (field e 0x28 8) ref
  | 0x0102 => finish (s.startInst n (field e 0x18 8) (field e 0x20 8))
  | 0x0103 => finish (s.releaseBinding n)
  | 0x0104 => finish (s.dismissCommand n)
  | 0x0201 =>
    let a := admitArgs e d
    s.admitSeq n a ((bufferAt bufs a.promptAddr (4 * a.promptLen)).map words32) ((bufferAt bufs (field d 0x30 8) (8 * field d 0x1E 2)).map words32) ref
  | 0x0202 => s.submitCmd n 0x05 0 (field e 0x18 8) ref
  | 0x0203 => s.submitCmd n 0x06 0 (field e 0x18 8) ref
  | 0x0204 => s.submitCmd n 0x07 0 (field e 0x18 8) ref
  | 0x0205 => s.submitCmd n 0x08 (field e 0x20 1) (field e 0x18 8) ref
  | 0x0206 => s.submitCmd n 0x0A (field e 0x18 1) 0 ref
  | 0x0301 => s.lessonLoad n (field e 0x18 2) (bufferAt bufs (field e 0x20 8) (field e 0x28 8)) ref
  | 0x0302 => s.lessonUnload n (field e 0x18 2) ref
  | 0x0303 => s.budgetSet n (budgetArgs e) ref
  | 0x0401 => s.register (((bufs.find? (fun b => b.1 == field e 0x18 8)).map (·.2)).join) (field e 0x18 8) (field e 0x20 8) (field e 0x28 1) (memberList d) (field e 0x30 8) ref
  | 0x0402 => s.unregister (field e 0x18 16) ref
  | 0x0403 => s.ingest (field e 0x18 16) (field e 0x28 4) (field e 0x2C 4) (field e 0x30 1) (field e 0x38 8) (memberList d) ref
  | 0x0404 => finish (s.loadKey (field e 0x18 1) (field e 0x1C 4) (field e 0x20 2) (field e 0x24 4) d ref.secured)
  | 0x0405 => finish (s.eraseKey (field e 0x18 1) ref.secured)
  | 0x0501 => finish (s.termStage (field e 0x18 8) d (s.lastChunk (field e 0x18 8) d))
  | 0x0502 => let r := s.termPrepare (field e 0x18 8) protocols; r.1.complete ref r.2.1 r.2.2.1 r.2.2.2
  | 0x0503 => s.termAbort ref
  | 0x0504 => finish s.termRevert
  | 0x0601 => s.debugUnlock d ref
  | _ => s.debugLock ref

/-- Check an entry and run it, or refuse it at once. -/
def State.submitEntry (s : State) (e d : Bytes) (bufs : List (Nat × Option Bytes)) (protocols : List (Nat × Nat)) (ref : CmdRef) : State :=
  let c := s.entryCode e d ref.secured
  if c ≠ 0 then s.complete ref c else s.runEntry e d bufs protocols ref

/-! ## Fetch (R512, R513, R515) -/

/-- A submission ring fetches its next entry: enabled, an entry waits, its link is up, and its completion ring has room for
one command more than those in flight. -/
def State.mayFetch (s : State) (k : Nat) : Bool :=
  let r := s.ring k
  let q := s.ring r.cq
  r.enable && r.kind == 2 && r.prod != r.cons && (s.fn r.link).up && decide (q.inFlight + 1 ≤ ringFree q)

/-- A fetch that fails stops its ring: no completion (R515). -/
def State.stopRing (s : State) (k : Nat) : State :=
  (s.onRing k (fun r => { r with error := true, enable := false })).hostCause (s.ring k).link 0x2301 k

/-- Fetch an entry and its data: CONS advances and reaches SHADOW, then the command runs. -/
def State.fetchEntry (s : State) (k : Nat) (entry data : Option Bytes) (bufs : List (Nat × Option Bytes)) (protocols : List (Nat × Nat)) : State :=
  if !s.mayFetch k then s
  else
    match entry with
    | none => s.stopRing k
    | some e =>
      let e := padTo 64 e
      let n := field e 0x10 4
      let d := if n = 0 ∨ field e 8 8 = 0 then some [] else if 268435456 < n then some [] else data.map (padTo n)
      match d with
      | none => s.stopRing k
      | some d =>
        let r := s.ring k
        let next := (r.cons + 1) % 2 ^ 32
        let s := s.onRing k (fun r => { r with cons := next })
        let s := (s.shadowWrite k next).onRing r.cq (fun q => { q with inFlight := q.inFlight + 1 })
        s.submitEntry e d bufs protocols { sq := k, cmdId := field e 4 4, opcode := field e 0 2, fn := r.link }

def execSubmissionFetch (ring : Nat) (entry data : Option Bytes) (buffers : List (Nat × Option Bytes)) (protocols : List (Nat × Nat)) (s : State) :
    Host.Outcome State Fault Refusal := unitOf numRings ring (s.fetchEntry ring entry data buffers protocols)

/-! ## Inside the session (R526) -/

/-- SECURE_COMMAND. -/
def State.secureCommand (s : State) (fn : Nat) (entry d : Bytes) (bufs : List (Nat × Option Bytes)) (protocols : List (Nat × Nat)) : State :=
  if !(s.fn fn).session then s
  else
    let e := padTo 64 entry
    s.submitEntry e d bufs protocols { sq := 0, cmdId := field e 4 4, opcode := field e 0 2, secured := true, fn }

def execSecureCommand (fn : Nat) (entry data : Bytes) (buffers : List (Nat × Option Bytes)) (protocols : List (Nat × Nat)) (s : State) :
    Host.Outcome State Fault Refusal := unitOf 2 fn (s.secureCommand fn entry data buffers protocols)

/-- SECURE_MIRROR. -/
def State.secureMirror (s : State) (fn : Nat) (b : Bytes) : State :=
  if !(s.fn fn).session ∨ (s.comp 8).restarting then s else s.mirrorRequest (.secured fn) fn b

def execSecureMirror (fn : Nat) (request : Bytes) (s : State) : Host.Outcome State Fault Refusal := unitOf 2 fn (s.secureMirror fn request)

end Sys2Proof.Machine
end

