-- ==== Sys2Proof/Machine/Spdm.lean ====
section
/-! DEFINITION. SPDM over each function's DOE mailbox, the secured session, IDE (19_host_interface.md R525 to R527). The codes
of the messages are those of the DMTF's specification (log entry 45); signed and random content is free. -/

namespace Sys2Proof.Machine

/-- The mailbox of a function answers: its link is up and the security component runs (14 R397). -/
def State.doeUp (s : State) (fn : Nat) : Bool := (s.fn fn).up && !(s.comp 7).restarting

/-- Answer a request: SPDM version, response code, two parameters, content. -/
def State.spdmSay (s : State) (fn code : Nat) (body : Bytes) : State :=
  s.onFn fn (fun f => { f with answer := le 1 f.spdmVersion ++ le 1 code ++ zeros 2 ++ body })

/-- Refuse a request: an error answer, and 0x2307 at most once a second. -/
def State.spdmRefuse (s : State) (fn : Nat) : State :=
  (s.emitRarely 0x2307 ticksPerSec (fault 0x2307 { die := 20 + fn, unit := 0xB, locA := fn })).spdmSay fn 0x7F []

/-- Free content of an answer. -/
def State.spdmFree (s : State) (fn code : Nat) : State := (s.fresh).spdmSay fn code (Config.spdmContent code s.free)

/-- A request that needs a state of the connection: it is refused where `ok` does not hold. -/
def State.spdmTake (s : State) (fn : Nat) (ok : Bool) (act : State → State) : State :=
  if !s.doeUp fn then s else if ok then act s else s.spdmRefuse fn

/-! ## Connection -/

def execGetVersion (fn : Nat) (s : State) : Host.Outcome State Fault Refusal :=
  unitOf 2 fn (s.spdmTake fn true (fun s =>
    (s.onFn fn (fun f => { f with spdm := if f.session then f.spdm else 1, spdmVersion := if f.session then f.spdmVersion else 0x10 })).spdmSay fn 0x04 (zeros 1 ++ le 1 2 ++ le 2 0x1200 ++ le 2 0x1300)))

/-- GET_CAPABILITIES in a version: 1.2 and 1.3 are answered. -/
def execGetCapabilities (fn version : Nat) (s : State) : Host.Outcome State Fault Refusal :=
  unitOf 2 fn (s.spdmTake fn ((s.fn fn).spdm == 1 && (version == 0x12 || version == 0x13)) (fun s =>
    (s.onFn fn (fun f => { f with spdm := 2, spdmVersion := version })).spdmFree fn 0x61))

/-- NEGOTIATE_ALGORITHMS: ECDSA P-384, SHA-384, ECDHE secp384r1 and AES-256-GCM alone. -/
def execNegotiateAlgorithms (fn : Nat) (supported : Bool) (s : State) : Host.Outcome State Fault Refusal :=
  unitOf 2 fn (s.spdmTake fn ((s.fn fn).spdm == 2 && supported) (fun s => (s.onFn fn (fun f => { f with spdm := 3 })).spdmFree fn 0x63))

/-- Digests of the certificates of slots 0 and 1. -/
def execGetDigests (fn : Nat) (s : State) : Host.Outcome State Fault Refusal :=
  unitOf 2 fn (s.spdmTake fn (decide (3 ≤ (s.fn fn).spdm)) (fun s => s.spdmFree fn 0x01))

/-- Slot 0: device identity; slot 1: alias certificate of the running term. -/
def execGetCertificate (fn slot : Nat) (s : State) : Host.Outcome State Fault Refusal :=
  unitOf 2 fn (s.spdmTake fn (decide (3 ≤ (s.fn fn).spdm) && decide (slot < 2)) (fun s => s.spdmFree fn 0x02))

def execChallenge (fn slot : Nat) (s : State) : Host.Outcome State Fault Refusal :=
  unitOf 2 fn (s.spdmTake fn (decide (3 ≤ (s.fn fn).spdm) && decide (slot < 2)) (fun s => s.spdmFree fn 0x03))

/-- Indices of the measurement blocks. -/
def measurementIndices : List Nat := (List.range 12).map (· + 1) ++ [0x20, 0x21, 0x22]

/-- A measurement block: the combination code, the security version, the debug lock as they are; a free digest otherwise. -/
def State.measurement (s : State) (index : Nat) : Bytes :=
  match index with
  | 0x20 => le 4 (combination s.fw.parts)
  | 0x21 => le 4 (bankSecurity (s.fw.banks.getD s.fw.active {}))
  | 0x22 => le 1 (bitOf s.fw.debugOpen)
  | _ => Config.spdmContent index s.free

/-- GET_MEASUREMENTS: index 0 asks for the number of blocks, 0xFF for all of them. -/
def execGetMeasurements (fn index : Nat) (s : State) : Host.Outcome State Fault Refusal :=
  unitOf 2 fn (s.spdmTake fn (decide (3 ≤ (s.fn fn).spdm) && (index == 0 || index == 0xFF || decide (index ∈ measurementIndices))) (fun s =>
    let body := if index = 0 then le 1 measurementIndices.length
      else if index = 0xFF then measurementIndices.flatMap (fun i => le 1 i ++ s.measurement i)
      else le 1 index ++ s.measurement index
    s.fresh.spdmSay fn 0x60 body))

/-! ## Session -/

/-- KEY_EXCHANGE: one session per function at a time. -/
def execKeyExchange (fn : Nat) (s : State) : Host.Outcome State Fault Refusal :=
  unitOf 2 fn (s.spdmTake fn ((s.fn fn).spdm == 3 && !(s.fn fn).session) (fun s => (s.onFn fn (fun f => { f with spdm := 4 })).spdmFree fn 0x64))

/-- FINISH opens the session where the host's proof holds. -/
def State.spdmFinish (s : State) (fn : Nat) (verified : Bool) : State :=
  if (s.fn fn).spdm = 4 ∧ !(s.fn fn).session then
    (if verified then (s.onFn fn (fun f => { f with session := true, keyGen := 0 })).spdmSay fn 0x65 []
     else (s.onFn fn (fun f => { f with spdm := 3 })).spdmRefuse fn)
  else s.spdmRefuse fn

def execFinish (fn : Nat) (verified : Bool) (s : State) : Host.Outcome State Fault Refusal :=
  unitOf 2 fn (s.spdmTake fn true (fun s => s.spdmFinish fn verified))

def execKeyUpdate (fn : Nat) (s : State) : Host.Outcome State Fault Refusal :=
  unitOf 2 fn (s.spdmTake fn (s.fn fn).session (fun s => (s.onFn fn (fun f => { f with keyGen := f.keyGen + 1 })).spdmSay fn 0x69 []))

def execSpdmHeartbeat (fn : Nat) (s : State) : Host.Outcome State Fault Refusal :=
  unitOf 2 fn (s.spdmTake fn (s.fn fn).session (fun s => s.spdmSay fn 0x68 []))

def execEndSession (fn : Nat) (s : State) : Host.Outcome State Fault Refusal :=
  unitOf 2 fn (s.spdmTake fn (s.fn fn).session (fun s => (s.onFn fn (fun f => { f with session := false, spdm := 3, keyGen := 0 })).spdmSay fn 0x6C []))

/-- VENDOR_DEFINED_REQUEST (R526): under the right identifiers sub-operation 0x01 carries a submission entry and its data,
0x02 a mirror request. -/
def execVendorDefinedRequest (fn : Nat) (standardOk : Bool) (payload : Bytes) (buffers : List (Nat × Option Bytes)) (protocols : List (Nat × Nat)) (s : State) :
    Host.Outcome State Fault Refusal :=
  unitOf 2 fn (s.spdmTake fn ((s.fn fn).session && standardOk && (field payload 0 1 == 1 || field payload 0 1 == 2)) (fun s =>
    if field payload 0 1 = 1 then s.secureCommand fn (slice payload 1 64) (payload.drop 65) buffers protocols
    else s.secureMirror fn (payload.drop 1)))

/-! ## IDE (R527) -/

/-- IDE_KM programs the keys of the function's stream, under host feature bit 8, inside the session. -/
def execIdeKm (fn : Nat) (key : Bytes) (s : State) : Host.Outcome State Fault Refusal :=
  unitOf 2 fn (s.spdmTake fn ((s.fn fn).session && s.fw.granted.testBit 8 && key.length == 32) (fun s =>
    s.onFn fn (fun f => { f with ideKeys := some key, ideSecure := true })))

/-- A stream leaves the secure state: the host link counts as lost until the function's link is reset (R442). -/
def State.ideFailed (s : State) (fn : Nat) : State :=
  if !(s.fn fn).ideSecure then s
  else
    let s := s.onFn fn (fun f => { f with ideSecure := false })
    if (s.fn fn).up then s.linkGone fn 0x2306 else s.hostCause fn 0x2306 0

def execIdeStreamFailed (fn : Nat) (s : State) : Host.Outcome State Fault Refusal := unitOf 2 fn (s.ideFailed fn)

end Sys2Proof.Machine
end

