-- ==== Sys2Proof/Machine/Physical.lean ====
section
/-! DEFINITION. The power blade's mate loop, the leak sensor, the JTAG port (20_physical.md R533, R534, R539, R543). -/

namespace Sys2Proof.Machine

/-! ## Mate loop (R533, R534) -/

def execMateClose (s : State) : Host.Outcome State Fault Refusal := done { s with phys := { s.phys with mated := true } }

/-- The loop has been open for 20 µs: a save from the bank, and the input switch opens. -/
def State.mateOpens (s : State) : State :=
  if !s.phys.mated then s
  else (State.decideSave { s with phys := { s.phys with mated := false } } 0x2401 true).openSwitch

def execMateOpen (s : State) : Host.Outcome State Fault Refusal := done s.mateOpens

/-! ## Leak sensor (R543) -/

/-- The sensor has read wet for 1 s: a save from the bus, then thermal hold; before W5 has completed the wake goes on to it. -/
def State.leakWet (s : State) : State :=
  let s : State := { s with phys := { s.phys with leak := 1 } }
  if s.wakeStage < 6 then s else s.decideSave 0x2402 false

def execLeakWet (s : State) : Host.Outcome State Fault Refusal := done s.leakWet

/-- An open sensor reads 2, with 0x2403 once per hour; the module keeps serving. -/
def State.leakOpen (s : State) : State :=
  let s : State := { s with phys := { s.phys with leak := 2 } }
  let h := s.now / ticksPerHour
  if !s.powered ∨ s.phys.leakHour = some h then s
  else State.emit { s with phys := { s.phys with leakHour := some h } } (fault 0x2403 { die := dieK0 })

def execLeakSensorOpen (s : State) : Host.Outcome State Fault Refusal := done s.leakOpen

/-! ## JTAG (R539) -/

/-- Dies in the chain: those with power, ascending. -/
def State.tapChain (s : State) : List Nat := (List.range 25).filter (fun d => !decide (d ∈ s.pwr.regsOff))

/-- Shift `tdi` through a register that holds `captured`, nearest TDO first: what appears on TDO. -/
def shiftOut (captured tdi : List Bool) : List Bool := (captured ++ tdi).take tdi.length

/-- BYPASS: one bit per TAP, captured as 0. -/
def State.jtagBypass (s : State) (tdi : List Bool) : State :=
  { s with phys := { s.phys with jtagIr := 0, tdo := shiftOut (s.tapChain.map (fun _ => false)) tdi } }

/-- Bits of a number, lowest first. -/
def bitList (w x : Nat) : List Bool := (List.range w).map (fun i => x.testBit i)

/-- IDCODE: 32 bits per TAP, bit 0 set. -/
def State.jtagIdcode (s : State) (tdi : List Bool) : State :=
  { s with phys := { s.phys with jtagIr := 1, tdo := shiftOut (s.tapChain.reverse.flatMap (fun d => true :: bitList 31 (Config.idCode d))) tdi } }

/-- The boundary register: the pins are sampled, which is free, and the bits shifted in stay in its cells. -/
def State.jtagCells (s : State) (ir : Nat) (tdi : List Bool) : State :=
  { s.fresh with phys := { s.phys with jtagIr := ir, cells := tdi, tdo := (List.range tdi.length).map (fun i => Config.scanCell i s.free) } }

/-- The three EXTEST instructions act while the wake stands stopped at the management set or in ROM recovery, or while the
debug lock is open; at any other time they are BYPASS. -/
def State.extestOpen (s : State) : Bool := decide (s.wakeStage = 0x30) || decide (s.wakeStage = 0x31) || s.fw.debugOpen

/-- Run an instruction of the TAP: K0 has to be powered. -/
def State.jtag (s : State) (act : State → State) : State := if s.powered then act s else s

def execBypass (tdi : List Bool) (s : State) : Host.Outcome State Fault Refusal := done (s.jtag (fun s => s.jtagBypass tdi))

def execIdcode (tdi : List Bool) (s : State) : Host.Outcome State Fault Refusal := done (s.jtag (fun s => s.jtagIdcode tdi))

def execSamplePreload (tdi : List Bool) (s : State) : Host.Outcome State Fault Refusal := done (s.jtag (fun s => s.jtagCells 2 tdi))

/-- EXTEST and its AC forms. -/
def State.extest (s : State) (ir : Nat) (tdi : List Bool) : State :=
  s.jtag (fun s => if s.extestOpen then s.jtagCells ir tdi else s.jtagBypass tdi)

def execExtest (tdi : List Bool) (s : State) : Host.Outcome State Fault Refusal := done (s.extest 3 tdi)

def execExtestPulse (tdi : List Bool) (s : State) : Host.Outcome State Fault Refusal := done (s.extest 4 tdi)

def execExtestTrain (tdi : List Bool) (s : State) : Host.Outcome State Fault Refusal := done (s.extest 5 tdi)

end Sys2Proof.Machine
end

