-- ==== Sys2Proof/Machine/Dispatch.lean ====
section
/-! DEFINITION. One arm per command: a direct call of its meaning, or a refusal by name. -/

namespace Sys2Proof.Machine

def exec (i : Instr) (s : State) : Host.Outcome State Fault Refusal :=
  match i with
  | .bind inst syllabus placement reportAddr ref => Sys2Proof.Machine.execBind inst syllabus placement reportAddr ref s
  | .bindingRun => Sys2Proof.Machine.execBindingRun s
  | .bindingDone => Sys2Proof.Machine.execBindingDone s
  | .bindingClaimTimeout => Sys2Proof.Machine.execBindingClaimTimeout s
  | .start inst first period ref => Sys2Proof.Machine.execStart inst first period ref s
  | .release inst ref => Sys2Proof.Machine.execRelease inst ref s
  | .dismiss inst ref => Sys2Proof.Machine.execDismiss inst ref s
  | .reservationTimeout inst => Sys2Proof.Machine.execReservationTimeout inst s
  | .fallbackRecomputeDone inst => Sys2Proof.Machine.execFallbackRecomputeDone inst s
  | .nop core => Sys2Proof.Machine.execNop core s
  | .li core d imm => Sys2Proof.Machine.execLi core d imm s
  | .add core d a b imm => Sys2Proof.Machine.execAdd core d a b imm s
  | .sub core d a b => Sys2Proof.Machine.execSub core d a b s
  | .and core d a b => Sys2Proof.Machine.execAnd core d a b s
  | .or core d a b => Sys2Proof.Machine.execOr core d a b s
  | .xor core d a b => Sys2Proof.Machine.execXor core d a b s
  | .shl core d a imm => Sys2Proof.Machine.execShl core d a imm s
  | .shr core d a imm => Sys2Proof.Machine.execShr core d a imm s
  | .mul core d a b => Sys2Proof.Machine.execMul core d a b s
  | .bnz core a imm => Sys2Proof.Machine.execBnz core a imm s
  | .bz core a imm => Sys2Proof.Machine.execBz core a imm s
  | .blt core a b imm => Sys2Proof.Machine.execBlt core a b imm s
  | .cmd core a imm => Sys2Proof.Machine.execCmd core a imm s
  | .cmdStallEnd core => Sys2Proof.Machine.execCmdStallEnd core s
  | .waitc core a imm => Sys2Proof.Machine.execWaitc core a imm s
  | .waitcSatisfied core => Sys2Proof.Machine.execWaitcSatisfied core s
  | .waitt core imm => Sys2Proof.Machine.execWaitt core imm s
  | .rel core a imm => Sys2Proof.Machine.execRel core a imm s
  | .mark core a b => Sys2Proof.Machine.execMark core a b s
  | .setc core a imm => Sys2Proof.Machine.execSetc core a imm s
  | .rdc core d imm => Sys2Proof.Machine.execRdc core d imm s
  | .sync core imm => Sys2Proof.Machine.execSync core imm s
  | .syncComplete core => Sys2Proof.Machine.execSyncComplete core s
  | .rdctl core d imm => Sys2Proof.Machine.execRdctl core d imm s
  | .wrctl core a imm => Sys2Proof.Machine.execWrctl core a imm s
  | .endKernel core => Sys2Proof.Machine.execEndKernel core s
  | .blockedAccessResume core engine => Sys2Proof.Machine.execBlockedAccessResume core engine s
  | .loadCommand core ev => Sys2Proof.Machine.execLoadCommand core ev s
  | .storeCommand core ev => Sys2Proof.Machine.execStoreCommand core ev s
  | .matrixCommand core ev => Sys2Proof.Machine.execMatrixCommand core ev s
  | .vectorCommand core ev => Sys2Proof.Machine.execVectorCommand core ev s
  | .loadSlotCommit core cmdNo slot remote => Sys2Proof.Machine.execLoadSlotCommit core cmdNo slot remote s
  | .storeAck core cmdNo status => Sys2Proof.Machine.execStoreAck core cmdNo status s
  | .landingWrite pkt => Sys2Proof.Machine.execLandingWrite pkt s
  | .remoteSlateRead core slot beat requester => Sys2Proof.Machine.execRemoteSlateRead core slot beat requester s
  | .remoteReadRetry core cmdNo slot => Sys2Proof.Machine.execRemoteReadRetry core cmdNo slot s
  | .waitLimit core => Sys2Proof.Machine.execWaitLimit core s
  | .coreRelease core => Sys2Proof.Machine.execCoreRelease core s
  | .releaseDrained core => Sys2Proof.Machine.execReleaseDrained core s
  | .switchClear core inst epoch => Sys2Proof.Machine.execSwitchClear core inst epoch s
  | .conflictClear core => Sys2Proof.Machine.execConflictClear core s
  | .tagWrite core slot value => Sys2Proof.Machine.execTagWrite core slot value s
  | .registerWrite target value => Sys2Proof.Machine.execRegisterWrite target value s
  | .dispatchRecord die tile record => Sys2Proof.Machine.execDispatchRecord die tile record s
  | .kernelDispatch inst kernel die tile mask => Sys2Proof.Machine.execKernelDispatch inst kernel die tile mask s
  | .sentinelCheck core inst blocks => Sys2Proof.Machine.execSentinelCheck core inst blocks s
  | .telemetryClear inst value => Sys2Proof.Machine.execTelemetryClear inst value s
  | .alloc pool inst holder cls wait requester => Sys2Proof.Machine.execAlloc pool inst holder cls wait requester s
  | .free page inst holder => Sys2Proof.Machine.execFree page inst holder s
  | .ref page inst => Sys2Proof.Machine.execRef page inst s
  | .unref page inst => Sys2Proof.Machine.execUnref page inst s
  | .pin page inst => Sys2Proof.Machine.execPin page inst s
  | .seal page inst => Sys2Proof.Machine.execSeal page inst s
  | .unseal page => Sys2Proof.Machine.execUnseal page s
  | .move page target copy => Sys2Proof.Machine.execMove page target copy s
  | .promotedWriteApply page => Sys2Proof.Machine.execPromotedWriteApply page s
  | .lowerTierReadFailed page granule owner retryFailed => Sys2Proof.Machine.execLowerTierReadFailed page granule owner retryFailed s
  | .lowerTierLate page granule owner => Sys2Proof.Machine.execLowerTierLate page granule owner s
  | .migrationSwitch page => Sys2Proof.Machine.execMigrationSwitch page s
  | .migrationFailed page => Sys2Proof.Machine.execMigrationFailed page s
  | .sourceFrameReturn page => Sys2Proof.Machine.execSourceFrameReturn page s
  | .bookAudit keeper => Sys2Proof.Machine.execBookAudit keeper s
  | .channelDrainDone library group => Sys2Proof.Machine.execChannelDrainDone library group s
  | .floorWrite cls value path => Sys2Proof.Machine.execFloorWrite cls value path s
  | .appendRecord inst entry group layer headGroup position values poison => Sys2Proof.Machine.execAppendRecord inst entry group layer headGroup position values poison s
  | .cowCopyCommit inst entry group layer headGroup => Sys2Proof.Machine.execCowCopyCommit inst entry group layer headGroup s
  | .swapInPageDone page => Sys2Proof.Machine.execSwapInPageDone page s
  | .swapInFailed page => Sys2Proof.Machine.execSwapInFailed page s
  | .stepStart inst prompts masks => Sys2Proof.Machine.execStepStart inst prompts masks s
  | .promptReadFailed inst entry => Sys2Proof.Machine.execPromptReadFailed inst entry s
  | .maskReadFailed inst entry => Sys2Proof.Machine.execMaskReadFailed inst entry s
  | .layerDispatch => Sys2Proof.Machine.execLayerDispatch s
  | .sampleDraw inst entry => Sys2Proof.Machine.execSampleDraw inst entry s
  | .ringWriteFailed ring => Sys2Proof.Machine.execRingWriteFailed ring s
  | .roundASend inst => Sys2Proof.Machine.execRoundASend inst s
  | .digestReceive sender digest => Sys2Proof.Machine.execDigestReceive sender digest s
  | .roundACommit inst => Sys2Proof.Machine.execRoundACommit inst s
  | .dismissalComplete inst => Sys2Proof.Machine.execDismissalComplete inst s
  | .roundBApply inst prompts masks => Sys2Proof.Machine.execRoundBApply inst prompts masks s
  | .rosterAdmit inst args prompt bias ref => Sys2Proof.Machine.execRosterAdmit inst args prompt bias ref s
  | .rosterEnd inst seqId ref => Sys2Proof.Machine.execRosterEnd inst seqId ref s
  | .park inst seqId ref => Sys2Proof.Machine.execPark inst seqId ref s
  | .resume inst seqId ref => Sys2Proof.Machine.execResume inst seqId ref s
  | .priority inst seqId value ref => Sys2Proof.Machine.execPriority inst seqId value ref s
  | .interleave inst value ref => Sys2Proof.Machine.execInterleave inst value ref s
  | .notServing inst sender => Sys2Proof.Machine.execNotServing inst sender s
  | .firstStepDigestTimeout inst => Sys2Proof.Machine.execFirstStepDigestTimeout inst s
  | .lessonLoad inst index pack ref => Sys2Proof.Machine.execLessonLoad inst index pack ref s
  | .lessonUnload inst index ref => Sys2Proof.Machine.execLessonUnload inst index ref s
  | .budgetSet inst change ref => Sys2Proof.Machine.execBudgetSet inst change ref s
  | .budgetAudit => Sys2Proof.Machine.execBudgetAudit s
  | .load pkt => Sys2Proof.Machine.execLoad pkt s
  | .store pkt => Sys2Proof.Machine.execStore pkt s
  | .addI32 pkt => Sys2Proof.Machine.execAddI32 pkt s
  | .addI64 pkt => Sys2Proof.Machine.execAddI64 pkt s
  | .addF32 pkt => Sys2Proof.Machine.execAddF32 pkt s
  | .minS32 pkt => Sys2Proof.Machine.execMinS32 pkt s
  | .minU32 pkt => Sys2Proof.Machine.execMinU32 pkt s
  | .minS64 pkt => Sys2Proof.Machine.execMinS64 pkt s
  | .minU64 pkt => Sys2Proof.Machine.execMinU64 pkt s
  | .minF32 pkt => Sys2Proof.Machine.execMinF32 pkt s
  | .maxS32 pkt => Sys2Proof.Machine.execMaxS32 pkt s
  | .maxU32 pkt => Sys2Proof.Machine.execMaxU32 pkt s
  | .maxS64 pkt => Sys2Proof.Machine.execMaxS64 pkt s
  | .maxU64 pkt => Sys2Proof.Machine.execMaxU64 pkt s
  | .maxF32 pkt => Sys2Proof.Machine.execMaxF32 pkt s
  | .cas32 pkt => Sys2Proof.Machine.execCas32 pkt s
  | .cas64 pkt => Sys2Proof.Machine.execCas64 pkt s
  | .cas128 pkt => Sys2Proof.Machine.execCas128 pkt s
  | .response pkt => Sys2Proof.Machine.execResponse pkt s
  | .completion pkt => Sys2Proof.Machine.execCompletion pkt s
  | .notice pkt => Sys2Proof.Machine.execNotice pkt s
  | .tolgilRelease pkt step => Sys2Proof.Machine.execTolgilRelease pkt step s
  | .control pkt => Sys2Proof.Machine.execControl pkt s
  | .hostBridgeRequest pkt answer => Sys2Proof.Machine.execHostBridgeRequest pkt answer s
  | .hallPass port vc pool passes => Sys2Proof.Machine.execHallPass port vc pool passes s
  | .heartbeat port index serial incarnation liveness => Sys2Proof.Machine.execHeartbeat port index serial incarnation liveness s
  | .audit port vc pool held inFlight occupied returns => Sys2Proof.Machine.execAudit port vc pool held inFlight occupied returns s
  | .hallPassAuditSend port => Sys2Proof.Machine.execHallPassAuditSend port s
  | .width port lanes => Sys2Proof.Machine.execWidth port lanes s
  | .heartbeatSend port => Sys2Proof.Machine.execHeartbeatSend port s
  | .flitReceive port flit corrected uncorrectable => Sys2Proof.Machine.execFlitReceive port flit corrected uncorrectable s
  | .portLossOfTraining port => Sys2Proof.Machine.execPortLossOfTraining port s
  | .portSilenceTimeout port => Sys2Proof.Machine.execPortSilenceTimeout port s
  | .portRetrain port trained index serial incarnation liveness => Sys2Proof.Machine.execPortRetrain port trained index serial incarnation liveness s
  | .laneFailure port lane => Sys2Proof.Machine.execLaneFailure port lane s
  | .retrainDone port lanes => Sys2Proof.Machine.execRetrainDone port lanes s
  | .supervisorTimeout node => Sys2Proof.Machine.execSupervisorTimeout node s
  | .nodeLiveAgain node incarnation => Sys2Proof.Machine.execNodeLiveAgain node incarnation s
  | .tagQuarantineEnd die tag => Sys2Proof.Machine.execTagQuarantineEnd die tag s
  | .routeEntryWrite target value path => Sys2Proof.Machine.execRouteEntryWrite target value path s
  | .routeChangeDrainEnd die node vc => Sys2Proof.Machine.execRouteChangeDrainEnd die node vc s
  | .viaNoRouteEnd via dest => Sys2Proof.Machine.execViaNoRouteEnd via dest s
  | .collectiveDescriptor die desc pieces slices => Sys2Proof.Machine.execCollectiveDescriptor die desc pieces slices s
  | .moduleIndexWrite value path => Sys2Proof.Machine.execModuleIndexWrite value path s
  | .keyLoad slot keyId owner epoch key ref => Sys2Proof.Machine.execKeyLoad slot keyId owner epoch key ref s
  | .keyErase slot ref => Sys2Proof.Machine.execKeyErase slot ref s
  | .pkgRegister bytes addr len slot members statusAddr ref => Sys2Proof.Machine.execPkgRegister bytes addr len slot members statusAddr ref s
  | .pkgUnregister packageId ref => Sys2Proof.Machine.execPkgUnregister packageId ref s
  | .ingest packageId first last fanout statusAddr members ref => Sys2Proof.Machine.execIngest packageId first last fanout statusAddr members ref s
  | .segmentHostRead ingestId cipher tag => Sys2Proof.Machine.execSegmentHostRead ingestId cipher tag s
  | .segmentReceive desc cipher tag poisoned => Sys2Proof.Machine.execSegmentReceive desc cipher tag poisoned s
  | .bufferCredit child die => Sys2Proof.Machine.execBufferCredit child die s
  | .stagingAdmit inst piece => Sys2Proof.Machine.execStagingAdmit inst piece s
  | .ingestEnd ingestId => Sys2Proof.Machine.execIngestEnd ingestId s
  | .memberStatus ingestId status => Sys2Proof.Machine.execMemberStatus ingestId status s
  | .restore packageId piece segment requester => Sys2Proof.Machine.execRestore packageId piece segment requester s
  | .restoreTimeout page => Sys2Proof.Machine.execRestoreTimeout page s
  | .powerLoop1us milliWatt milliAmpAvg milliVolt => Sys2Proof.Machine.execPowerLoop1us milliWatt milliAmpAvg milliVolt s
  | .powerLoop10us sample => Sys2Proof.Machine.execPowerLoop10us sample s
  | .sagExit => Sys2Proof.Machine.execSagExit s
  | .supplyLoss => Sys2Proof.Machine.execSupplyLoss s
  | .saveComplete written => Sys2Proof.Machine.execSaveComplete written s
  | .droopDetect die => Sys2Proof.Machine.execDroopDetect die s
  | .droopRelease cycles => Sys2Proof.Machine.execDroopRelease cycles s
  | .droopMarginFall die => Sys2Proof.Machine.execDroopMarginFall die s
  | .junctionTrip die => Sys2Proof.Machine.execJunctionTrip die s
  | .hbmTrip stack => Sys2Proof.Machine.execHbmTrip stack s
  | .overVoltageDisconnect => Sys2Proof.Machine.execOverVoltageDisconnect s
  | .overCurrentDisconnect => Sys2Proof.Machine.execOverCurrentDisconnect s
  | .thermalSave => Sys2Proof.Machine.execThermalSave s
  | .thermalHoldExit => Sys2Proof.Machine.execThermalHoldExit s
  | .flowLow => Sys2Proof.Machine.execFlowLow s
  | .bankTest => Sys2Proof.Machine.execBankTest s
  | .bankTestDone usableMilliJoule => Sys2Proof.Machine.execBankTestDone usableMilliJoule s
  | .bankChargeComplete => Sys2Proof.Machine.execBankChargeComplete s
  | .bankChargeTimeout => Sys2Proof.Machine.execBankChargeTimeout s
  | .silenceCap => Sys2Proof.Machine.execSilenceCap s
  | .powerModeWrite value path => Sys2Proof.Machine.execPowerModeWrite value path s
  | .capChange entry => Sys2Proof.Machine.execCapChange entry s
  | .bellFrame frame => Sys2Proof.Machine.execBellFrame frame s
  | .bellLock => Sys2Proof.Machine.execBellLock s
  | .bellLost => Sys2Proof.Machine.execBellLost s
  | .holdoverExpired => Sys2Proof.Machine.execHoldoverExpired s
  | .realign value path => Sys2Proof.Machine.execRealign value path s
  | .timetableWrite entry value path => Sys2Proof.Machine.execTimetableWrite entry value path s
  | .periodChange entry => Sys2Proof.Machine.execPeriodChange entry s
  | .leave inst step => Sys2Proof.Machine.execLeave inst step s
  | .readySend inst => Sys2Proof.Machine.execReadySend inst s
  | .ready inst rank => Sys2Proof.Machine.execReady inst rank s
  | .lockstepResume inst count => Sys2Proof.Machine.execLockstepResume inst count s
  | .cancel inst => Sys2Proof.Machine.execCancel inst s
  | .rollCall entry => Sys2Proof.Machine.execRollCall entry s
  | .rollCallSampleRetry => Sys2Proof.Machine.execRollCallSampleRetry s
  | .rollCallSample sample => Sys2Proof.Machine.execRollCallSample sample s
  | .sweepClose bell => Sys2Proof.Machine.execSweepClose bell s
  | .componentMessage sender receiver msg => Sys2Proof.Machine.execComponentMessage sender receiver msg s
  | .inboxSendTimeout sender => Sys2Proof.Machine.execInboxSendTimeout sender s
  | .watchdogMiss part => Sys2Proof.Machine.execWatchdogMiss part s
  | .componentRestartDone part => Sys2Proof.Machine.execComponentRestartDone part s
  | .domainViolation part => Sys2Proof.Machine.execDomainViolation part s
  | .proctorCoreLost core => Sys2Proof.Machine.execProctorCoreLost core s
  | .logRecord part level code args => Sys2Proof.Machine.execLogRecord part level code args s
  | .tracePoint point core data => Sys2Proof.Machine.execTracePoint point core data s
  | .termStage offset chunk last ref => Sys2Proof.Machine.execTermStage offset chunk last ref s
  | .termPrepare addr protocols ref => Sys2Proof.Machine.execTermPrepare addr protocols ref s
  | .successorLoadDone digestOk => Sys2Proof.Machine.execSuccessorLoadDone digestOk s
  | .handover entry accepted freeze => Sys2Proof.Machine.execHandover entry accepted freeze s
  | .handBack accepted freeze => Sys2Proof.Machine.execHandBack accepted freeze s
  | .handBackRetry accepted freeze => Sys2Proof.Machine.execHandBackRetry accepted freeze s
  | .termAbort ref => Sys2Proof.Machine.execTermAbort ref s
  | .termRevert ref => Sys2Proof.Machine.execTermRevert ref s
  | .negotiate major minor features ref => Sys2Proof.Machine.execNegotiate major minor features ref s
  | .debugUnlock token ref => Sys2Proof.Machine.execDebugUnlock token ref s
  | .debugLock ref => Sys2Proof.Machine.execDebugLock ref s
  | .inputInRange => Sys2Proof.Machine.execInputInRange s
  | .wakeW0 => Sys2Proof.Machine.execWakeW0 s
  | .wakeW1 => Sys2Proof.Machine.execWakeW1 s
  | .wakeW2 ready => Sys2Proof.Machine.execWakeW2 ready s
  | .wakeW3 => Sys2Proof.Machine.execWakeW3 s
  | .wakeW4 => Sys2Proof.Machine.execWakeW4 s
  | .wakeW5 started => Sys2Proof.Machine.execWakeW5 started s
  | .wakeW6 failedDies failedStacks => Sys2Proof.Machine.execWakeW6 failedDies failedStacks s
  | .wakeW7 failedDies => Sys2Proof.Machine.execWakeW7 failedDies s
  | .wakeW8 untrained => Sys2Proof.Machine.execWakeW8 untrained s
  | .wakeW9 hbmUntrained libraryUntrained => Sys2Proof.Machine.execWakeW9 hbmUntrained libraryUntrained s
  | .wakeW10 failedCores => Sys2Proof.Machine.execWakeW10 failedCores s
  | .wakeW11 => Sys2Proof.Machine.execWakeW11 s
  | .wakeStageTimeout => Sys2Proof.Machine.execWakeStageTimeout s
  | .wakeRetry => Sys2Proof.Machine.execWakeRetry s
  | .recoveryImage offset chunk last => Sys2Proof.Machine.execRecoveryImage offset chunk last s
  | .perst => Sys2Proof.Machine.execPerst s
  | .moduleReset source leakDry => Sys2Proof.Machine.execModuleReset source leakDry s
  | .coreReset value path => Sys2Proof.Machine.execCoreReset value path s
  | .functionLevelReset fn => Sys2Proof.Machine.execFunctionLevelReset fn s
  | .d3hot fn => Sys2Proof.Machine.execD3hot fn s
  | .dieFault die routersPass => Sys2Proof.Machine.execDieFault die routersPass s
  | .saveAreaCopyDone => Sys2Proof.Machine.execSaveAreaCopyDone s
  | .coreSpare core => Sys2Proof.Machine.execCoreSpare core s
  | .frameRetire library frame => Sys2Proof.Machine.execFrameRetire library frame s
  | .hostLinkLost fn => Sys2Proof.Machine.execHostLinkLost fn s
  | .hostLinkUp fn => Sys2Proof.Machine.execHostLinkUp fn s
  | .clearWindows value path => Sys2Proof.Machine.execClearWindows value path s
  | .read path source op => Sys2Proof.Machine.execRead path source op s
  | .write path source op => Sys2Proof.Machine.execWrite path source op s
  | .writeIf path source op => Sys2Proof.Machine.execWriteIf path source op s
  | .readPart path source op => Sys2Proof.Machine.execReadPart path source op s
  | .writePart path source op => Sys2Proof.Machine.execWritePart path source op s
  | .describe path source op => Sys2Proof.Machine.execDescribe path source op s
  | .next path source op => Sys2Proof.Machine.execNext path source op s
  | .partStagingExpiry source index sub => Sys2Proof.Machine.execPartStagingExpiry source index sub s
  | .responseCacheExpiry source reqId => Sys2Proof.Machine.execResponseCacheExpiry source reqId s
  | .presenceNotice => Sys2Proof.Machine.execPresenceNotice s
  | .neighbourDiscovery source => Sys2Proof.Machine.execNeighbourDiscovery source s
  | .icmpv6Echo source payload => Sys2Proof.Machine.execIcmpv6Echo source payload s
  | .duplicateAddress => Sys2Proof.Machine.execDuplicateAddress s
  | .restoreDefaults value path => Sys2Proof.Machine.execRestoreDefaults value path s
  | .managementKeyWrite fn key secured => Sys2Proof.Machine.execManagementKeyWrite fn key secured s
  | .journalSubmit kind key body => Sys2Proof.Machine.execJournalSubmit kind key body s
  | .journalWrite badReads => Sys2Proof.Machine.execJournalWrite badReads s
  | .compactionSlice => Sys2Proof.Machine.execCompactionSlice s
  | .scrub => Sys2Proof.Machine.execScrub s
  | .reformat value path => Sys2Proof.Machine.execReformat value path s
  | .wearUpdate temps => Sys2Proof.Machine.execWearUpdate temps s
  | .doorbell fn ring value => Sys2Proof.Machine.execDoorbell fn ring value s
  | .ringContextWrite fn ring word value => Sys2Proof.Machine.execRingContextWrite fn ring word value s
  | .submissionFetch ring entry data buffers protocols => Sys2Proof.Machine.execSubmissionFetch ring entry data buffers protocols s
  | .coalesceTimeout ring => Sys2Proof.Machine.execCoalesceTimeout ring s
  | .apertureBaseWrite fn value => Sys2Proof.Machine.execApertureBaseWrite fn value s
  | .apertureRead fn offset len => Sys2Proof.Machine.execApertureRead fn offset len s
  | .apertureWrite fn offset data => Sys2Proof.Machine.execApertureWrite fn offset data s
  | .secureCommand fn entry data buffers protocols => Sys2Proof.Machine.execSecureCommand fn entry data buffers protocols s
  | .secureMirror fn request => Sys2Proof.Machine.execSecureMirror fn request s
  | .getVersion fn => Sys2Proof.Machine.execGetVersion fn s
  | .getCapabilities fn version => Sys2Proof.Machine.execGetCapabilities fn version s
  | .negotiateAlgorithms fn supported => Sys2Proof.Machine.execNegotiateAlgorithms fn supported s
  | .getDigests fn => Sys2Proof.Machine.execGetDigests fn s
  | .getCertificate fn slot => Sys2Proof.Machine.execGetCertificate fn slot s
  | .challenge fn slot => Sys2Proof.Machine.execChallenge fn slot s
  | .getMeasurements fn index => Sys2Proof.Machine.execGetMeasurements fn index s
  | .keyExchange fn => Sys2Proof.Machine.execKeyExchange fn s
  | .finish fn verified => Sys2Proof.Machine.execFinish fn verified s
  | .keyUpdate fn => Sys2Proof.Machine.execKeyUpdate fn s
  | .spdmHeartbeat fn => Sys2Proof.Machine.execSpdmHeartbeat fn s
  | .endSession fn => Sys2Proof.Machine.execEndSession fn s
  | .vendorDefinedRequest fn standardOk payload buffers protocols => Sys2Proof.Machine.execVendorDefinedRequest fn standardOk payload buffers protocols s
  | .ideKm fn key => Sys2Proof.Machine.execIdeKm fn key s
  | .ideStreamFailed fn => Sys2Proof.Machine.execIdeStreamFailed fn s
  | .mateClose => Sys2Proof.Machine.execMateClose s
  | .mateOpen => Sys2Proof.Machine.execMateOpen s
  | .leakWet => Sys2Proof.Machine.execLeakWet s
  | .leakSensorOpen => Sys2Proof.Machine.execLeakSensorOpen s
  | .bypass tdi => Sys2Proof.Machine.execBypass tdi s
  | .idcode tdi => Sys2Proof.Machine.execIdcode tdi s
  | .samplePreload tdi => Sys2Proof.Machine.execSamplePreload tdi s
  | .extest tdi => Sys2Proof.Machine.execExtest tdi s
  | .extestPulse tdi => Sys2Proof.Machine.execExtestPulse tdi s
  | .extestTrain tdi => Sys2Proof.Machine.execExtestTrain tdi s
  | .portTrained port index serial incarnation liveness => Sys2Proof.Machine.execPortTrained port index serial incarnation liveness s
  | .perstDeasserted => Sys2Proof.Machine.execPerstDeasserted s
  | .managementDatagram source port multicast payload => Sys2Proof.Machine.execManagementDatagram source port multicast payload s
  | .delayedRestart part => Sys2Proof.Machine.execDelayedRestart part s

end Sys2Proof.Machine
end

