-- ==== Sys2Proof/Machine/Idle.lean ====
section
/-! DEFINITION. What passes without a command: one tick of the time counter. -/

namespace Sys2Proof.Machine

/-- One Bell tick: the 64-bit time counter advances while K0 runs (13_bell_timetable.md R369; log entry 15). -/
def idleTick (s : State) : State :=
  if s.powered then { s with bell := { s.bell with counter := (s.bell.counter + 1) % 2 ^ 64 } } else s

end Sys2Proof.Machine
end

