-- ==== Sys2Proof/Safety.lean ====
section
/-! DEFINITION. What claims say of a run. -/

namespace Sys2Proof.Safety

open Machine

/-- Command `c` from `s` answers the next state `t`. -/
def completes (c : Instr) (s t : State) : Prop := exec c s = .next t

/-- Command `c` from `s` answers a next state, and `p` holds there. -/
def answers (c : Instr) (s : State) (p : State → Prop) : Prop := ∃ t, exec c s = .next t ∧ p t

/-- A property that every step keeps. -/
def kept (inv : State → Prop) : Prop := ∀ s t, inv s → step s = .next t → inv t

/-- Core `c` exists and its sequencer may issue: RUN is set, a kernel runs, no wait is pending (03_cores_and_slates.md R89, R97). -/
def issuing (s : State) (c : Nat) : Prop := c < numCores ∧ (s.core c).issues = true

/-- `s` with the program counter of core `c` past one word, and `f` applied to what else the core holds. -/
def issued (s : State) (c : Nat) (f : CoreSt → CoreSt) : State := s.onCore c (fun k => { f k with pc := k.pc + 8 })

/-- Nothing but core `c` differs. -/
def onlyCore (c : Nat) (s t : State) : Prop := t = { s with cores := t.cores } ∧ ∀ d, d ≠ c → t.core d = s.core d

/-- Bytes outside `[a, a + n)` of a memory read as before. -/
def outside (a n : Nat) (m m' : List Host.Cell) : Prop := ∀ x, x < a ∨ a + n ≤ x → byteAt m' x = byteAt m x

/-- The dictionary service answers: powered, the service started, no ROM recovery, no save decided (17_object_dictionary.md R476). -/
def served (s : State) : Prop := s.powered = true ∧ 6 ≤ s.wakeStage ∧ s.wakeStage ≠ 0x31 ∧ s.pwr.save = none

/-- The journal commits a record with a body of `n` bytes at once: it runs, nothing waits before it, the segment has room. -/
def journalRoom (s : State) (n : Nat) : Prop := s.tr.up = true ∧ s.tr.queue = [] ∧ s.tr.fill + jRecLen n ≤ segmentLen

/-- The last dictionary operation answered this result code. -/
def resultIs (t : State) (code : Nat) : Prop := t.mgmt.answer.map (fun a => a.result) = some code

/-- The command changes nothing but the answer, which has this result code. -/
def refusedWrite (c : Instr) (s : State) (code : Nat) : Prop :=
  answers c s (fun t => t = { s with mgmt := { s.mgmt with answer := t.mgmt.answer } } ∧ resultIs t code)

/-- The last fault record has this cause. -/
def logged (t : State) (cause : Nat) : Prop := ∃ r, t.flt.last = some r ∧ r.cause = cause

/-- Serving work is as it was: memory, cores, indices. -/
def workKept (s t : State) : Prop := t.mem = s.mem ∧ t.cores = s.cores ∧ t.insts = s.insts

/-- Every scalar entry but those listed holds what it held. -/
def entriesKept (l : List (Nat × Nat)) (s t : State) : Prop := ∀ i k, k < 256 → (i, k) ∉ l → t.ent i k = s.ent i k

/-- The bytes of one request operation: header, value, zeros up to a multiple of 4 (17_object_dictionary.md R469). -/
def opBytes (o : DictOp) : Bytes :=
  le 1 o.op ++ le 1 o.sub ++ le 2 o.index ++ le 4 o.offset ++ le 2 o.len ++ le 1 (if o.last then 1 else 0) ++ zeros 1 ++ o.value ++
    zeros ((4 - o.value.length % 4) % 4)

/-- The bytes of a request with the given MAGIC, VERSION and KIND: header, operations, tag (17_object_dictionary.md R468, R474). -/
def requestBytes (magic version kind : Nat) (r : Request) (tag : Bytes) : Bytes :=
  le 2 magic ++ le 1 version ++ le 1 kind ++ le 4 r.reqId ++ le 2 r.ops.length ++ le 2 r.flags ++ le 2 0 ++ zeros 2 ++ le 8 r.authSeq ++
    r.ops.flatMap opBytes ++ tag

/-- Every field of an operation holds its value, and the value has the length that OP and LEN give. -/
def opFits (o : DictOp) : Prop :=
  o.op < 2 ^ 8 ∧ o.sub < 2 ^ 8 ∧ o.index < 2 ^ 16 ∧ o.offset < 2 ^ 32 ∧ o.len < 2 ^ 16 ∧ o.value.length = if o.op = 4 then 0 else o.len

/-- A request fits the datagram (17_object_dictionary.md R467, R468, R474). -/
def requestFits (r : Request) (tag : Bytes) : Prop :=
  r.reqId < 2 ^ 32 ∧ r.flags < 2 ^ 16 ∧ r.authSeq < 2 ^ 64 ∧ 1 ≤ r.ops.length ∧ r.ops.length ≤ 64 ∧ (∀ o ∈ r.ops, opFits o) ∧
  tag.length = (if r.flags.testBit 0 then 16 else 0) ∧ (requestBytes 0x4442 1 1 r tag).length ≤ 1452

end Sys2Proof.Safety
end

