-- ==== Sys2Proof/Certificates/Slice0/Obligations.lean ====
section
/-! DEFINITION. The statements about the block, for the provers: results, frames, completion, invariants and one round trip. -/

set_option autoImplicit false

open Sys2Proof Sys2Proof.Machine Sys2Proof.Safety

/-- A step at a queue with `c` in front is `exec c` with the queue's rest; on an empty queue one tick passes (log entry 15). -/
def Obligations.StepRunsFrontCommandOrTicks : Prop :=
  ∀ s : State,
    (∀ (c : Instr) (rest : List Instr), step { s with pending := c :: rest } = exec c { s with pending := rest }) ∧
    (s.pending = [] → step s = .next (if s.powered = true then { s with bell := { s.bell with counter := (s.bell.counter + 1) % 2 ^ 64 } } else s))

/-- BIND, the binder's checks and the claim's end (02_syllabus.md R52, R55, R61, R66; 06_memory_tiers.md R177). -/
def Obligations.BindQueuesAndChecks : Prop :=
  ∀ (s : State) (n addr : Nat) (b p : Bytes) (ref : CmdRef) (job : BindJob) (cl : Claim) (rest : List Nat), n < 64 →
    let bindSt := (s.inst n).bind
    let freed (t : State) (code : Nat) : Prop := (t.inst n).bind.state = .free ∧ t.ent (instIdx n 0x10) 6 = code ∧ n ∉ t.binder
    (s.wakeStage ≠ 0x21 → completes (.bind n (some b) (some p) addr ref) s (s.complete ref 0x0F01)) ∧
    (s.wakeStage = 0x21 → bindSt.state ≠ .free → completes (.bind n (some b) (some p) addr ref) s (s.complete ref 0x0502)) ∧
    (s.wakeStage = 0x21 → bindSt.state = .free → 4 ≤ s.binder.length → completes (.bind n (some b) (some p) addr ref) s (s.complete ref 0x0503)) ∧
    (s.wakeStage = 0x21 → bindSt.state = .free → s.binder.length < 4 → placementForm p = true →
      completes (.bind n (some b) (some p) addr ref) s (State.onBind { s with binder := s.binder ++ [n] } n (fun x => { x with
        state := .binding, job := some ⟨some b, some p, addr, ref⟩, restarted := false, claimed := false }))) ∧
    (s.binder = n :: rest → bindSt.job = some job → bindSt.claimed = false →
      let text := job.syllabus.getD []
      let prog := parseProgram text s.grantedSet
      let place := parsePlacement (job.placement.getD [])
      let code := syllabusCode text s.grantedSet
      (code ≠ 0 → answers .bindingRun s (fun t => freed t code ∧ t.cores = s.cores ∧ t.fab = s.fab)) ∧
      (code = 0 → s.placementCode prog place = 0 → s.packageOk prog place = true → (∀ x ∈ s.shortfalls n prog place, x.resource = 10 ∨ x.resource = 14) →
        answers .bindingRun s (fun t => t.binder.length ≤ s.binder.length ∧ t.cores = s.cores ∧ (∀ m, m ≠ n → t.inst m = s.inst m) ∧
          (s.shortfalls n prog place = [] → (t.inst n).bind.claimed = true ∧ (t.inst n).bind.program = prog ∧ (t.inst n).bind.place = place ∧
            t.ent (instIdx n 0x10) 4 = proposedPeriod (Config.stepEstimate n s.free) ∧ t.binder = s.binder ∧ t.mem.pages = s.mem.pages) ∧
          (s.shortfalls n prog place ≠ [] → freed t 0x0401)))) ∧
    (s.mem.claim = some cl → cl.inst = n → bindSt.job = some job →
      answers .bindingClaimTimeout s (fun t => freed t 0x0401 ∧ t.mem.claim = none ∧ cl.since + 90 * ticksPerSec ≤ t.now))

/-- The states of an index (02_syllabus.md R55 to R57, R64; 13_bell_timetable.md R378). -/
def Obligations.BoundIndexLifecycle : Prop :=
  ∀ (s : State) (n first period k : Nat) (ref : CmdRef) (job : BindJob) (rest : List Nat) (st : StepSt), n < 64 →
    let b := (s.inst n).bind
    (s.binder = n :: rest → b.job = some job → b.claimed = true → b.hbmPages ≤ (s.pool (1 + n)).quota → s.fw.debugOpen = false →
      answers .bindingDone s (fun t => (t.inst n).bind.state = .bound ∧ (t.inst n).bind.job = none ∧ t.binder = rest ∧
        (t.inst n).bind.timer = some (s.now + t.ent (instIdx n 0x10) 7 * ticksPerSec) ∧ (t.inst n).kv.groups = layerGroups b.program b.place)) ∧
    (s.wakeStage = 0x21 → b.state = .bound → s.weightsComplete n = true → 400 * s.ent (instIdx n 0x10) 4 ≤ period →
      (1 < b.place.modules → s.inLockstep = true) → s.now + ticksPerMs ≤ first →
      answers (.start n first period ref) s (fun t => (t.inst n).bind = { b with state := .serving, timer := none } ∧
        t.ent (instIdx n 0x80) 1 = period ∧ t.mem = s.mem ∧ t.cores = s.cores ∧ (∀ m, m ≠ n → t.inst m = s.inst m) ∧
        (s.ttEntry k = { inst := n, reserved := true } → k < 512 → Sparse.wf ({} : TtEntry) s.bell.table = true →
          t.ttEntry k = { kind := 1, inst := n, time := first, period, reserved := true }))) ∧
    (s.wakeStage = 0x21 → b.state ≠ .bound → completes (.start n first period ref) s (s.complete ref 0x0502)) ∧
    (b.state = .bound → answers (.release n ref) s (fun t => (t.inst n).bind = {}) ∧ answers (.dismiss n ref) s (fun t => (t.inst n).bind = {})) ∧
    (b.state = .binding → answers (.release n ref) s (fun t => (t.inst n).bind = {} ∧ t.ent (instIdx n 0x10) 6 = 0x0601) ∧
      answers (.dismiss n ref) s (fun t => (t.inst n).bind = {} ∧ t.ent (instIdx n 0x10) 6 = 0x0601)) ∧
    (b.state = .serving → (s.inst n).roster.step = some st → answers (.dismiss n ref) s (fun t => (t.inst n).bind = b ∧
      (t.inst n).roster = { (s.inst n).roster with dismiss := true, dismissReason := 7 } ∧ t.mem = s.mem ∧ t.cores = s.cores)) ∧
    (b.state = .free ∨ b.state = .serving ∨ b.state = .dismissing → completes (.release n ref) s (s.complete ref 0x0502)) ∧
    (b.state = .free ∨ b.state = .dismissing → completes (.dismiss n ref) s (s.complete ref 0x0502)) ∧
    (b.state = .bound → b.timer = some k → answers (.reservationTimeout n) s (fun t => (t.inst n).bind = {} ∧ k ≤ t.now)) ∧
    (b.recomputing = true → answers (.fallbackRecomputeDone n) s (fun t => (t.inst n).bind = { b with recomputing := false } ∧
      t.ent (instIdx n 0x10) 5 = maskOf (s.fallbacks b.program.needs.minCores) ∧ t = { s with dict := t.dict, insts := t.insts }))

/-- The register instructions and branches of 03_cores_and_slates.md R89, with their frame: the answer is the old state but for g[D] and the pc. -/
def Obligations.SequencerRegisterInstructions : Prop :=
  ∀ (s : State) (c : Nat) (d a b : Fin 16) (imm : BitVec 44), issuing s c →
    let g := (s.core c).g
    let wrote (v : Word64) : State := issued s c (fun k => { k with g := k.g.set d v })
    let jump (taken : Bool) : State :=
      s.onCore c (fun k => { k with pc := if taken then k.pc + 8 * imm.signExtend 64 else k.pc + 8 })
    completes (.nop c) s (issued s c id) ∧
    completes (.li c d imm) s (wrote (imm.signExtend 64)) ∧
    completes (.add c d a b imm) s (wrote (g[a] + g[b] + imm.signExtend 64)) ∧
    completes (.sub c d a b) s (wrote (g[a] - g[b])) ∧
    completes (.and c d a b) s (wrote (g[a] &&& g[b])) ∧
    completes (.or c d a b) s (wrote (g[a] ||| g[b])) ∧
    completes (.xor c d a b) s (wrote (g[a] ^^^ g[b])) ∧
    completes (.shl c d a imm) s (wrote (g[a] <<< (imm.toNat % 64))) ∧
    completes (.shr c d a imm) s (wrote (g[a] >>> (imm.toNat % 64))) ∧
    completes (.mul c d a b) s (wrote (BitVec.ofNat 64 (g[a].toNat * g[b].toNat))) ∧
    completes (.rdc c d imm) s (wrote (((s.core c).count (imm.toNat % 64)).setWidth 64)) ∧
    completes (.bnz c a imm) s (jump (g[a] != 0)) ∧
    completes (.bz c a imm) s (jump (g[a] == 0)) ∧
    completes (.blt c a b imm) s (jump (decide (g[a].toInt < g[b].toInt)))

/-- CMD and its stall (03_cores_and_slates.md R69, R85, R89); waits on arrival counters and engines, SETC (R83, R84, R88, R89). -/
def Obligations.QueuesCountersAndSync : Prop :=
  (∀ (s : State) (c : Nat) (a : Fin 16) (imm : BitVec 44) (x : EngineCmd),
    let k := s.core c
    let w : EngineCmd := ⟨k.g[a.val]!, k.g[a.val + 1]!, k.g[a.val + 2]!, k.g[a.val + 3]!⟩
    (issuing s c → a.val % 4 = 0 →
      (imm.toNat % 4 = 0 → completes (.cmd c a imm) s
        (issued s c (fun k => if k.loadQ.length < 32 then { k with loadQ := k.loadQ ++ [w] } else { k with seqWait := .queue .load w }))) ∧
      (imm.toNat % 4 = 1 → completes (.cmd c a imm) s
        (issued s c (fun k => if k.mathQ.length < 16 then { k with mathQ := k.mathQ ++ [w] } else { k with seqWait := .queue .math w }))) ∧
      (imm.toNat % 4 = 2 → completes (.cmd c a imm) s
        (issued s c (fun k => if k.storeQ.length < 32 then { k with storeQ := k.storeQ ++ [w] } else { k with seqWait := .queue .store w })))) ∧
    (c < numCores →
      (k.seqWait = .queue .load x → k.loadQ.length < 32 → completes (.cmdStallEnd c) s
        (s.onCore c (fun k => { k with loadQ := k.loadQ ++ [x], seqWait := .none }))) ∧
      (k.seqWait = .queue .math x → k.mathQ.length < 16 → completes (.cmdStallEnd c) s
        (s.onCore c (fun k => { k with mathQ := k.mathQ ++ [x], seqWait := .none }))) ∧
      (k.seqWait = .queue .store x → k.storeQ.length < 32 → completes (.cmdStallEnd c) s
        (s.onCore c (fun k => { k with storeQ := k.storeQ ++ [x], seqWait := .none }))))) ∧
  (∀ (s : State) (c n m : Nat) (a : Fin 16) (imm : BitVec 44) (h : Word32) (t : Bool),
    let k := s.core c
    let met (n : Nat) (h : Word32) : Prop := 0 ≤ (k.count n - h).toInt
    let busy (m : Nat) : Prop := (m.testBit 0 = true ∧ (k.loadQ ≠ [] ∨ k.loads ≠ [])) ∨ (m.testBit 1 = true ∧ k.mathQ ≠ []) ∨
      (m.testBit 2 = true ∧ (k.storeQ ≠ [] ∨ k.stores ≠ []))
    (issuing s c → imm.toNat % 64 < 48 → k.arrivalPoison.getLsbD (imm.toNat % 64) = false →
      let n := imm.toNat % 64
      let h : Word32 := k.g[a].setWidth 32
      (met n h → completes (.waitc c a imm) s
        (issued s c (fun k => if imm.getLsbD 6 then k.setCount n (k.count n - h) else k))) ∧
      (¬ met n h → completes (.waitc c a imm) s (issued s c (fun k => { k with seqWait := .counter n h (imm.getLsbD 6) }))) ∧
      completes (.setc c a imm) s (issued s c (fun k => k.setCount n h))) ∧
    (issuing s c →
      (busy (imm.toNat % 8) → completes (.sync c imm) s (issued s c (fun k => { k with seqWait := .sync (imm.toNat % 8) }))) ∧
      (¬ busy (imm.toNat % 8) → completes (.sync c imm) s (issued s c id))) ∧
    (c < numCores → k.seqWait = .counter n h t → k.arrivalPoison.getLsbD n = false → met n h →
      completes (.waitcSatisfied c) s
        (s.onCore c (fun k => { (if t then k.setCount n (k.count n - h) else k) with seqWait := .none }))) ∧
    (c < numCores → k.seqWait = .sync m → ¬ busy m →
      completes (.syncComplete c) s (s.onCore c (fun k => { k with seqWait := .none }))))

/-- WAITT, REL, MARK and the wake of a blocked WAITT (03_cores_and_slates.md R77, R78, R89). -/
def Obligations.SlotInstructions : Prop :=
  ∀ (s : State) (c i : Nat) (a b : Fin 16) (imm : BitVec 44),
    let k := s.core c
    let sl := k.slot k.g[a].toNat
    let last := k.g[a].toNat + imm.toNat % 64
    (issuing s c →
      (imm.toNat % 1024 ≤ 735 → completes (.waitt c imm) s (issued s c (fun k =>
        if (k.slot (imm.toNat % 1024)).tag ≠ .empty then k else { k with seqWait := .slotFull (imm.toNat % 1024) }))) ∧
      (last ≤ 735 → (∀ j, k.g[a].toNat ≤ j → j ≤ last → (k.slot j).filling = false) →
        answers (.rel c a imm) s (fun t => onlyCore c s t ∧ (t.core c).pc = k.pc + 8 ∧ (t.core c).seqWait = .none ∧
          (t.core c).g = k.g ∧ (t.core c).slate = k.slate ∧
          ∀ j, (t.core c).slot j =
            if k.g[a].toNat ≤ j ∧ j ≤ last then { k.slot j with tag := .empty } else k.slot j)) ∧
      (last ≤ 735 → (∃ j, k.g[a].toNat ≤ j ∧ j ≤ last ∧ (k.slot j).filling = true) →
        completes (.rel c a imm) s (issued s c (fun k' => { k' with seqWait := .rel k.g[a].toNat (imm.toNat % 64 + 1) }))) ∧
      (k.g[a].toNat ≤ 735 → completes (.mark c a b) s (issued s c (fun k' =>
        if sl.filling then { k' with seqWait := .mark k.g[a].toNat (k.g[b].toNat % 2 ^ 14) }
        else if sl.tag = .poison then k'
        else k'.setSlot k.g[a].toNat { sl with tag := .full, owner := k.g[b].toNat % 2 ^ 14 })))) ∧
    (c < numCores → k.seqWait = .slotFull i → (k.slot i).tag ≠ .empty →
      completes (.blockedAccessResume c .seq) s (s.onCore c (fun k => { k with seqWait := .none })))

/-- Refused core code raises BAD_COMMAND at the instance class (03_cores_and_slates.md R84, R87, R89, R97, R98). -/
def Obligations.RefusedCoreCodeReleases : Prop :=
  ∀ (s : State) (c : Nat) (a : Fin 16) (imm : BitVec 44), issuing s c →
    let k := s.core c
    let bad (t : State) : Prop := (t.core c).faultCause = 0x1308 ∧ (∀ n, (t.core c).count n = k.count n) ∧
      (k.instValid = true → k.inst < 64 → (t.core c).seqRunning = false ∧ (t.core c).epoch = (k.epoch + 1) % 256)
    (48 ≤ imm.toNat % 64 → answers (.setc c a imm) s bad ∧ answers (.waitc c a imm) s bad) ∧
    (a.val % 4 ≠ 0 ∨ imm.toNat % 4 = 3 → answers (.cmd c a imm) s bad) ∧
    (735 < imm.toNat % 1024 → answers (.waitt c imm) s bad) ∧
    (imm.toNat % 4096 = 0x00C → answers (.wrctl c a imm) s bad)

/-- END and the delivery of a dispatch record (03_cores_and_slates.md R89; 08_roster.md R228). -/
def Obligations.KernelStartAndEnd : Prop :=
  ∀ (s : State) (c l die tile : Nat) (r : DispatchRec),
    (issuing s c → (s.core c).next = none →
      answers (.endKernel c) s (fun t => (t.core c).seqRunning = false ∧ (t.core c).kernel = none ∧ (t.core c).pc = (s.core c).pc + 8 ∧
        (t.core c).g = (s.core c).g)) ∧
    (die < 16 → tile < 48 → l < 24 → r.mask = 2 ^ l → s.coreAt die tile l = some c → (s.core c).kernel = none → s.coreFenced c = false →
      (s.core c).instValid = true → (s.core c).inst = r.inst → (s.core c).epoch = r.epoch → r.g.length = 8 →
      answers (.dispatchRecord die tile r) s (fun t => (t.core c).pc = BitVec.ofNat 64 r.entry ∧ (t.core c).seqRunning = true ∧
        (∀ i : Fin 16, (t.core c).g[i] = if i.val < 8 then r.g.getD i.val 0 else 0) ∧
        ∀ d, d ≠ c → t.core d = s.core d))

/-- Releases and switch clears (03_cores_and_slates.md R92, R95, R97). -/
def Obligations.ReleaseAndSwitchClear : Prop :=
  ∀ (s : State) (c inst epoch : Nat), c < numCores →
    let k := s.core c
    answers (.coreRelease c) s (fun t =>
      let k' := t.core c
      k'.seqWait = .none ∧ k'.loadWait = .none ∧ k'.mathWait = .none ∧ k'.storeWait = .none ∧
      k'.loadQ = [] ∧ k'.mathQ = [] ∧ k'.storeQ = [] ∧ k'.epoch = (k.epoch + 1) % 256 ∧
      (k'.release = true ↔ ∃ j ∈ k.loads, j.left ≠ []) ∧ k'.slate = k.slate ∧ k'.g = k.g ∧
      ∀ d, d ≠ c → t.core d = s.core d) ∧
    (Sparse.wf {} k.slots = true → answers (.coreRelease c) s (fun t => ∀ i,
      (t.core c).slot i = if (k.slot i).filling then { tag := .poison, filling := false, owner := 0x3FFF } else k.slot i)) ∧
    (k.release = true → k.resetAfter = false →
      answers (.releaseDrained c) s (fun t => (t.core c).release = false ∧ onlyCore c s t)) ∧
    (k.idle = true → Sparse.wf {} k.slots = true → Sparse.wf 0 k.arrival = true →
      answers (.switchClear c inst epoch) s (fun t =>
        let k' := t.core c
        (∀ i, k'.slot i = if i < 736 then {} else k.slot i) ∧ (∀ n, k'.count n = if n < 48 then 0 else k.count n) ∧
        (∀ n, n < 64 → k'.arrivalPoison.getLsbD n = (decide (48 ≤ n) && k.arrivalPoison.getLsbD n)) ∧
        k'.inst = inst % 64 ∧ k'.instValid = true ∧ k'.epoch = epoch % 256 ∧ k'.slate = k.slate ∧ onlyCore c s t)) ∧
    completes (.conflictClear c) s (s.onCore c (fun k => { k with conflict := [] }))

/-- The control page from core code and from K0 (03_cores_and_slates.md R89, R97). -/
def Obligations.ControlPageReadsAndWrites : Prop :=
  ∀ (s : State) (c slot n : Nat) (d a : Fin 16) (imm : BitVec 44) (value : Word32) (x : Word64),
    (issuing s c →
      let k := s.core c
      let wrote (v : Nat) : State := issued s c (fun k => { k with g := k.g.set d (BitVec.ofNat 64 v) })
      let v := k.g[a].toNat % 2 ^ 32
      (n < 64 → imm.toNat % 4096 = 0x040 + 4 * n → completes (.rdctl c d imm) s (wrote (k.count n).toNat)) ∧
      (imm.toNat % 4096 = 0x01C → completes (.rdctl c d imm) s (wrote k.staleCount)) ∧
      (imm.toNat % 4096 = 0x1C0 → completes (.rdctl c d imm) s (wrote ((if k.conflictEnable then 1 else 0) + 4 * k.portMask))) ∧
      (n < 48 → imm.toNat % 4096 = 0x040 + 4 * n →
        completes (.wrctl c a imm) s (issued s c (fun k' => k'.setCount n (k.g[a].setWidth 32)))) ∧
      (imm.toNat % 4096 = 0x1C0 → completes (.wrctl c a imm) s (issued s c (fun k' =>
        { k' with conflictEnable := v.testBit 0, portMask := v / 4 % 256, conflict := if v.testBit 1 then [] else k'.conflict })))) ∧
    (c < numCores →
      let own := value.toNat / 2 ^ 16 % 2 ^ 14
      (slot < 768 → value.toNat % 4 < 3 → completes (.tagWrite c slot value) s (s.onCore c (fun k => k.setSlot slot { k.slot slot with
          tag := if value.toNat % 4 = 0 then .empty else if value.toNat % 4 = 1 then .full else .poison, owner := own }))) ∧
      completes (.registerWrite (.core c 0x00C true) x) s (s.onCore c (fun k => { k with waitLimit := x.toNat % 65536 })) ∧
      (n < 64 → completes (.registerWrite (.core c (0x040 + 4 * n) true) x) s (s.onCore c (fun k => k.setCount n (x.setWidth 32)))) ∧
      completes (.registerWrite (.core c 0x01C true) x) s
        (s.onCore c (fun k => { k with staleCount := (BitVec.ofNat 32 k.staleCount &&& ~~~ x.setWidth 32).toNat })))

/-- Landing writes (03_cores_and_slates.md R77, R78, R79, R82, R93). -/
def Obligations.LandingWritesRespectTagAndEpoch : Prop :=
  ∀ (s : State) (p : LandingPkt) (i : Nat) (b : Beat), p.core < numCores → s.coreFenced p.core = false → p.beats = [b] →
    b.bytes.length = 64 → i < 768 → p.offset / 256 = i → p.offset % 64 = 0 → p.counter < 64 →
    let k := s.core p.core
    let same : Prop := k.instValid = true ∧ k.inst = p.inst ∧ k.epoch = p.epoch
    (same → p.tagged = true → b.poison = none → (k.slot i).tag = .empty → (k.slot i).filling = false →
      answers (.landingWrite p) s (fun t => let k' := t.core p.core
        k'.slot i = { tag := .full, owner := p.owner } ∧ getBytes k'.slate p.offset 64 = b.bytes ∧ outside p.offset 64 k.slate k'.slate ∧
        (p.count = true → p.last = true → k'.count p.counter = k.count p.counter + 1) ∧
        (∀ j, j ≠ i → k'.slot j = k.slot j) ∧ (∀ n, n ≠ p.counter → k'.count n = k.count n) ∧ ∀ d, d ≠ p.core → t.core d = s.core d)) ∧
    (same → p.tagged = true → (k.slot i).tag ≠ .empty ∨ (k.slot i).filling = true → p.count = true → p.last = true →
      answers (.landingWrite p) s (fun t => let k' := t.core p.core
        k'.slate = k.slate ∧ k'.count p.counter = k.count p.counter + 1 ∧ k'.arrivalPoison.getLsbD p.counter = true ∧ k'.faultCause = 0x1305)) ∧
    (k.instValid = false ∨ k.inst ≠ p.inst →
      answers (.landingWrite p) s (fun t => let k' := t.core p.core
        k'.slate = k.slate ∧ (∀ n, k'.count n = k.count n) ∧ k'.slots = k.slots ∧ k'.faultCause = 0x1306)) ∧
    (k.instValid = true → k.inst = p.inst → k.epoch ≠ p.epoch →
      answers (.landingWrite p) s (fun t => t.core p.core = { k with staleCount := min (k.staleCount + 1) 0xFFFFFFFF } ∧
        ∀ d, d ≠ p.core → t.core d = s.core d))

/-- The load engine (03_cores_and_slates.md R77, R78, R80, R82, R85, R87, R88). -/
def Obligations.LoadEngineIssuesAndCommits : Prop :=
  ∀ (s : State) (c : Nat) (cmd : EngineCmd) (rest : List EngineCmd) (j : LoadJob) (b : List Beat), c < numCores →
    let k := s.core c
    (k.loadQ = cmd :: rest → k.loadWait = .none → cmd.fence = false →
      (cmd.loadOk = true → cmd.nslot = 1 → cmd.tagged = true → k.writable cmd.slot = true →
        (∀ l ∈ k.loads, l.cmdNo < k.nextCmd) →
        (∃ off, s.slotTarget cmd.addr = .memory off ∧ s.accessCause k.inst false off = 0) →
        answers (.loadCommand c {}) s (fun t => (t.core c).loadQ = rest ∧ (t.core c).slot cmd.slot = { k.slot cmd.slot with filling := true } ∧
          (t.core c).loads = k.loads ++ [{ cmdNo := k.nextCmd, cmd, left := [0] }] ∧ (t.core c).loadWait = .none ∧
          ∀ d, d ≠ c → t.core d = s.core d)) ∧
      (cmd.loadOk = false → k.instValid = false →
        answers (.loadCommand c {}) s (fun t => (t.core c).loadQ = rest ∧ (t.core c).faultCause = 0x1308 ∧ (t.core c).slots = k.slots))) ∧
    (k.loads = [j] → j.left = [0] → j.todo = [] → j.cmd.tagged = true → k.release = false → k.arrived = [] →
      b.length = 4 → (∀ x ∈ b, x.bytes.length = 64 ∧ x.poison = none) →
      answers (.loadSlotCommit c j.cmdNo 0 (some b)) s (fun t => let k' := t.core c
        k'.slot j.cmd.slot = { tag := .full, owner := j.cmd.owner } ∧ k'.slotBytes j.cmd.slot = b.flatMap (·.bytes) ∧
        outside (256 * j.cmd.slot) 256 k.slate k'.slate ∧ k'.loads = [] ∧
        (∀ n, k'.count n = if j.cmd.counts = true ∧ n = j.cmd.counter then k.count n + 1 else k.count n) ∧ onlyCore c s t))

/-- The store engine (03_cores_and_slates.md R80, R82, R85, R88, R93; 16_faults_availability.md R443). -/
def Obligations.StoreEngineSendsAndIsAcknowledged : Prop :=
  ∀ (s : State) (c q o status : Nat) (cmd : EngineCmd) (rest : List EngineCmd) (j : StoreJob), c < numCores →
    let k := s.core c
    (k.storeQ = cmd :: rest → k.storeWait = .none → cmd.fence = false → cmd.storeOk = true → cmd.nslot = 1 → cmd.counts = false →
      (k.slot cmd.slot).tag = .full → (∀ l ∈ k.stores, l.cmdNo < k.nextCmd) → s.slotTarget cmd.addr = .core q o → q ≠ c →
      answers (.storeCommand c {}) s (fun t => (t.core c).storeQ = rest ∧
        t.corridor = s.corridor ++ [{ core := q, offset := o, beats := toBeats (k.slotBytes cmd.slot), tagged := cmd.tagged, count := false
                                      counter := cmd.counter, inst := k.inst, epoch := k.epoch, owner := (k.slot cmd.slot).owner, last := true, sender := c, cmdNo := k.nextCmd }] ∧
        (t.core c).slot cmd.slot = (if cmd.consume then { k.slot cmd.slot with tag := .empty } else k.slot cmd.slot) ∧
        (t.core c).slate = k.slate ∧ (t.core c).arrival = k.arrival ∧
        (t.core c).stores = k.stores ++ [{ cmdNo := k.nextCmd, cmd, todo := [], flagged := false }] ∧ ∀ d, d ≠ c → t.core d = s.core d)) ∧
    (k.stores = [j] → j.todo = [] → j.cmd.ackCounter < 64 → answers (.storeAck c j.cmdNo status) s (fun t => let k' := t.core c
        k'.stores = [] ∧ (∀ n, k'.count n = if j.cmd.ack = true ∧ n = j.cmd.ackCounter then k.count n + 1 else k.count n) ∧
        (k'.arrivalPoison.getLsbD j.cmd.ackCounter = (k.arrivalPoison.getLsbD j.cmd.ackCounter ||
          (j.cmd.ack && (j.flagged || decide (status ≠ 0))))) ∧ onlyCore c s t))

/-- Tags and owners around a math command (03_cores_and_slates.md R77, R78, R80, R86, R88). -/
def Obligations.MathCommandsMoveTagsAndOwners : Prop :=
  ∀ (s : State) (c : Nat) (cmd : EngineCmd) (rest : List EngineCmd), c < numCores →
    let k := s.core c
    let run (i : Instr) : Prop :=
      (cmd.mathOk = true → cmd.count = 1 → cmd.hold = false → cmd.taggedD = true → cmd.hasB = false →
        (k.slot cmd.slotA).tag = .full → k.writable cmd.slotD = true → cmd.slotA ≠ cmd.slotD → k.kernel = none →
        answers i s (fun t => let k' := t.core c
          k'.mathQ = rest ∧ k'.mathWait = .none ∧ k'.slot cmd.slotD = { tag := .full, owner := (k.slot cmd.slotA).owner } ∧
          k'.slot cmd.slotA = (if cmd.consumeA then { k.slot cmd.slotA with tag := .empty } else k.slot cmd.slotA) ∧
          outside (256 * cmd.slotD) 256 k.slate k'.slate ∧ k'.arrival = k.arrival ∧ ∀ d, d ≠ c → t.core d = s.core d)) ∧
      (cmd.mathOk = true → (k.slot cmd.slotA).tag = .empty →
        completes i s (s.onCore c (fun k => { k with mathWait := .slotFull cmd.slotA })))
    k.mathQ = cmd :: rest → (cmd.unit = 1 → run (.matrixCommand c {})) ∧ (cmd.unit = 2 → run (.vectorCommand c {}))

/-- The wait limit, and the reads that do not wait (03_cores_and_slates.md R78, R88, R90, R92). -/
def Obligations.WaitLimitReleases : Prop :=
  ∀ (s : State) (c i q : Nat) (j : LoadJob), c < numCores →
    let k := s.core c
    (k.seqWait ≠ .none → k.waitLimit = 0 → completes (.waitLimit c) s s) ∧
    (k.seqWait ≠ .none → k.waitLimit ≠ 0 → k.instValid = true → k.inst < 64 →
      answers (.waitLimit c) s (fun t => (t.core c).faultCause = 0x1307 ∧ (t.core c).seqWait = .none ∧
        (∀ d, (s.core d).instValid = true → (s.core d).inst = k.inst → Sparse.wf {} s.cores = true →
          (t.core d).epoch = ((s.core d).epoch + 1) % 256 ∧ (t.core d).loadQ = [] ∧ (t.core d).mathQ = [] ∧ (t.core d).storeQ = []) ∧
        ∀ d, (s.core d).inst ≠ k.inst → Sparse.wf {} s.cores = true → t.core d = s.core d)) ∧
    (i < 768 → q < numCores → (s.core q).loads = [j] → j.left = [0] → (s.core q).arrived = [] → s.slotTarget (j.cmd.addrOf 0) = .core c (256 * i) →
      let got : State := s.onCore q (fun r => { r with arrived := [(j.cmdNo, 0, toBeats (k.slotBytes i))] })
      ((k.slot i).tag = .full → completes (.remoteSlateRead c i 0 q) s got ∧ completes (.remoteReadRetry q j.cmdNo 0) s got) ∧
      ((k.slot i).tag = .empty → completes (.remoteSlateRead c i 0 q) s s ∧ completes (.remoteReadRetry q j.cmdNo 0) s s))

/-- Scale codes (04_number_formats.md R107, with the fields of R104 and the values of R105). -/
def Obligations.ScaleCodesDecode : Prop :=
  (∀ e < 255, decScale 0x20 e = .fin false 1 ((e : Int) - 127)) ∧ decScale 0x20 0xFF = .nan ∧
  ∀ c < 256, (∀ scaled, decScale 0x21 c = (decCode 0x0C scaled c).1) ∧
    (c % 128 = 127 → decScale 0x21 c = .nan) ∧
    (c % 128 ≠ 127 → c / 8 % 16 = 0 → decScale 0x21 c = .fin (decide (128 ≤ c)) (c % 8) (-9)) ∧
    (c % 128 ≠ 127 → c / 8 % 16 ≠ 0 → decScale 0x21 c = .fin (decide (128 ≤ c)) (8 + c % 8) ((c / 8 % 16 : Nat) - 10))

/-- The error sentinel (05_accumulation.md R143 to R147; 03_cores_and_slates.md R92; 01_architecture.md R29). -/
def Obligations.SentinelSamplesAndBreaches : Prop :=
  ∀ (s : State) (c n : Nat) (b : SentinelBlock),
    let ovr := (s.inst n).sentinel
    let rate := if b.k = 0 ∨ ovr = 0xFF then 0 else if ovr = 0 then b.k else ovr
    let word := (counterGen b.kernelId ((s.inst n).roster.committed % 2 ^ 32) b.block (b.row % 2 ^ 32) (b.row / 2 ^ 32) 0).1
    let breach := ∃ e ∈ b.elems, elemBreach b e = true
    let check := Instr.sentinelCheck c n [b]
    (c < numCores → n < numInsts →
      completes (.sentinelCheck c n []) s s ∧
      (rate = 0 ∨ (∃ i < rate, word.testBit i = true) → completes check s s) ∧
      (rate ≠ 0 → (∀ i < rate, word.testBit i = false) → ¬ breach → answers check s (fun t => t = { s with insts := t.insts } ∧
        t.inst n = { s.inst n with telNow := (t.inst n).telNow } ∧ (∀ m, m ≠ n → t.inst m = s.inst m) ∧
        (sget {} (t.inst n).telNow b.layer).sampled = (sget {} (s.inst n).telNow b.layer).sampled + b.elems.length ∧
        ∀ l, l ≠ b.layer → sget {} (t.inst n).telNow l = sget {} (s.inst n).telNow l)) ∧
      (rate ≠ 0 → (∀ i < rate, word.testBit i = false) → breach → answers check s (fun t =>
        t.ent (0x4020 + 0x100 * n) 5 = (s.ent (0x4020 + 0x100 * n) 5 + 1) % 2 ^ 32 ∧ t.mem = s.mem ∧
        (∀ st, (t.inst n).roster.step = some st → st.void = true) ∧ ((t.inst n).roster.step = none ↔ (s.inst n).roster.step = none) ∧
        (Sparse.wf {} s.cores = true → ∀ d, (t.core d).slate = (s.core d).slate) ∧
        (s.peers n = [] → s.tr.queue = [] → logged t 0x1501)))) ∧
    (n < numInsts → numCores ≤ c → exec check s = .fault (.noSuchUnit c)) ∧
    (numInsts ≤ n → exec check s = .fault (.noSuchUnit n))

/-- Accepted commands on one page descriptor, with their frame (06_memory_tiers.md R168, R169, R170). -/
def Obligations.PageReferencesFollowStateTable : Prop :=
  ∀ (s : State) (p n x : Nat), p < 2 ^ 32 →
    let d := s.page p
    let becomes (d' : PageDesc) : State := (s.onPage p (fun _ => d')).answers 0
    let dropped (d : PageDesc) : PageDesc := if d.refs ≤ 1 then { d with refs := 0, state := .reclaim } else { d with refs := d.refs - 1 }
    d.inst = n → d.state ≠ .free →
      (d.state ≠ .reclaim → d.refs < 65535 → completes (.ref p n) s (becomes { d with refs := d.refs + 1 })) ∧
      (completes (.pin p n) s (becomes (if d.pins = 16383 then { d with pinSat := true } else { d with pins := d.pins + 1 }))) ∧
      (d.state = .owned → completes (.seal p n) s (becomes { d with sealPending := true })) ∧
      (d.state = .sealed → d.refs ≤ 1 → d.tier = .hbm → completes (.unseal p) s (becomes { d with state := .owned })) ∧
      (d.state ≠ .reclaim → d.holder = x → x ≠ 0x3FFF →
        completes (.free p n x) s (becomes (dropped { d with prevHolder := x, holder := 0x3FFF }))) ∧
      (d.state ≠ .reclaim → d.holder = 0x3FFF ∨ d.refs ≠ 1 → completes (.unref p n) s (becomes (dropped d)))

/-- The checks of a FREE and an UNREF, in order (06_memory_tiers.md R170). -/
def Obligations.RejectedFreesChangeNoDescriptor : Prop :=
  ∀ (s : State) (p n x : Nat), p < 2 ^ 32 → n < 64 →
    let d := s.page p
    let rejected (code requester : Nat) (t : State) : Prop :=
      t.mem.pages = s.mem.pages ∧ t.mem.answer = code ∧ t.cores = s.cores ∧ t.insts = s.insts ∧
      t.ent (0x4030 + 0x100 * n) (if code = 3 then 4 else 5) = (s.ent (0x4030 + 0x100 * n) (if code = 3 then 4 else 5) + 1) % 2 ^ 32 ∧
      ∃ r, t.flt.last = some r ∧ r.cause = (if code = 3 then 0x1601 else 0x1602) ∧ r.address = p ∧ r.inst = n ∧ r.owner = requester ∧
        r.detail = d.holder + d.prevHolder * 2 ^ 16
    let gone := d.state = .free ∨ d.state = .reclaim
    (gone → answers (.free p n x) s (rejected 3 x) ∧ answers (.unref p n) s (rejected 3 0x3FFF)) ∧
    (¬ gone → d.inst ≠ n → answers (.free p n x) s (rejected 4 x) ∧ answers (.unref p n) s (rejected 4 0x3FFF)) ∧
    (¬ gone → d.inst = n → d.holder = 0x3FFF → d.prevHolder = x → answers (.free p n x) s (rejected 3 x)) ∧
    (¬ gone → d.inst = n → ¬ (d.holder = 0x3FFF ∧ d.prevHolder = x) → d.holder ≠ x → answers (.free p n x) s (rejected 4 x)) ∧
    (¬ gone → d.inst = n → d.holder ≠ 0x3FFF → d.refs = 1 → answers (.unref p n) s (rejected 4 0x3FFF)) ∧
    (¬ gone → d.inst = n → ¬ (d.holder = 0x3FFF ∧ d.prevHolder = x) → d.holder = x → answers (.free p n x) s (fun t => t.mem.answer = 0 ∧
      (t.page p).prevHolder = d.holder ∧ (t.page p).holder = 0x3FFF ∧ (t.page p).refs = d.refs - 1 ∧ (d.refs ≤ 1 → (t.page p).state = .reclaim))) ∧
    (¬ gone → d.inst = n → ¬ (d.holder ≠ 0x3FFF ∧ d.refs = 1) → answers (.unref p n) s (fun t => t.mem.answer = 0 ∧
      (t.page p).refs = d.refs - 1 ∧ (d.refs ≤ 1 → (t.page p).state = .reclaim)))

/-- ALLOC from a reservation (06_memory_tiers.md R169, R174, R175, R178). -/
def Obligations.AllocGrantsOrAnswers : Prop :=
  ∀ (s : State) (m n holder cls d f p : Nat) (wait : Bool) (requester : Nat), m < 64 → n < 64 →
    (poolFree (s.pool (1 + m)) = 0 →
      completes (.alloc (1 + m) n holder cls false requester) s (s.answers 1) ∧
      completes (.alloc (1 + m) n holder cls true requester) s
        (State.answers { s with mem := { s.mem with queued := s.mem.queued ++ [{ pool := 1 + m, inst := n, holder, cls, requester }] } } 2)) ∧
    (d < 4 → 1 ≤ poolFree (s.pool (1 + m)) → s.flt.fenced.testBit (16 + d) = false → 1 ≤ (s.book false d).free → s.mappedOn d < 16777216 →
      s.takeFrame false d = some f → s.freePageNo n d = some p → s.mem.books.length = 8 →
      answers (.alloc (1 + m) n holder cls wait (16 + d)) s (fun t =>
        t.mem.answer = 0 ∧ t.mem.answerPage = p ∧
        t.page p = { state := .owned, tier := .hbm, cls, inst := n, holder, refs := 1, frame := f } ∧
        (t.pool (1 + m)).used = (s.pool (1 + m)).used + 1 ∧ (keeperOf p = d → (t.book false d).free = (s.book false d).free - 1 ∧
          (t.book false d).owned = (s.book false d).owned + 1) ∧
        t.mem.bytes = s.mem.bytes ∧ (∀ q, q ≠ p → t.page q = s.page q) ∧ t = { s with mem := t.mem, free := s.free + 1 }))

/-- Moves between tiers (06_memory_tiers.md R154, R171, R178). -/
def Obligations.MovesSwitchOrLeaveTheSource : Prop :=
  ∀ (s : State) (p f due : Nat) (j : MoveJob) (w : WaitingWrite), p < 2 ^ 32 →
    let d := s.page p
    (d.state = .sealed → d.tier = .hbm → d.poisoned = false → d.migrating = false → 1 ≤ poolFree (s.pool 66) → s.takeFrame true (keeperOf p) = some f →
      answers (.move p 1 false) s (fun t => t.mem.answer = 0 ∧ t.page p = { d with migrating := true } ∧ t.mem.bytes = s.mem.bytes ∧
        t.mem.moves = s.mem.moves ++ [{ page := p, target := .library, frame := f, copy := false }] ∧
        (t.pool 66).used = (s.pool 66).used + 1)) ∧
    (s.mem.moves = [j] → j.page = p → j.target = .library → j.copy = false → j.promote = false → j.restore = false → j.keep = false →
      d.tier = .hbm →
      (answers (.migrationSwitch p) s (fun t => (t.page p).tier = .library ∧ (t.page p).frame = j.frame ∧ (t.page p).migrating = false ∧
        (t.page p).state = d.state ∧ (t.page p).refs = d.refs ∧ t.mem.bytes = s.mem.bytes ∧ t.mem.moves = [])) ∧
      (d.inst < 64 → answers (.migrationFailed p) s (fun t => (t.page p) = { d with migrating := false } ∧ t.mem.bytes = s.mem.bytes ∧ t.mem.moves = []))) ∧
    (s.mem.moves = [j] → j.page = p → j.target = .hbm → j.copy = false → j.promote = false → j.restore = false → j.keep = false →
      d.tier = .host → answers (.swapInPageDone p) s (fun t => (t.page p).tier = .hbm ∧ (t.page p).frame = j.frame ∧
        (t.page p).migrating = false ∧ t.mem.bytes = s.mem.bytes ∧ t.mem.moves = [])) ∧
    (s.mem.inflight = [⟨false, f, .timer due, p⟩] → s.mem.books.length = 8 → f < 12582912 →
      answers (.sourceFrameReturn p) s (fun t => t.mem.inflight = [] ∧ due ≤ t.now ∧
        (t.book false (frameDie false f)).free = (s.book false (frameDie false f)).free + 1)) ∧
    (s.mem.waitingWrites = [w] → w.page = p → w.offset / 65536 = p → w.offset % 64 = 0 → w.bytes.length = 64 → d.state = .owned → d.tier = .hbm →
      d.migrating = false → answers (.promotedWriteApply p) s (fun t => t.mem.waitingWrites = [] ∧ getBytes t.mem.bytes w.offset 64 = w.bytes ∧
        outside w.offset 64 s.mem.bytes t.mem.bytes ∧ t.mem.pages = s.mem.pages))

/-- Lower-tier errors (06_memory_tiers.md R165, R166; 07_attention_kv.md R206). -/
def Obligations.LowerTierErrorsChargeTheRightParty : Prop :=
  ∀ (s : State) (p g owner : Nat) (j : MoveJob), p < 2 ^ 32 →
    let d := s.page p
    let ended (o : Nat) (t : State) : Prop := ∃ e ∈ (t.inst d.inst).roster.faulted, e.1 = o
    d.inst < 64 → d.state ≠ .free → owner ≠ 0x3FFF →
      (d.tier = .library → d.holder < 12288 →
        answers (.lowerTierLate p g owner) s (fun t => t.ent 0x2250 2 = (s.ent 0x2250 2 + 1) % 2 ^ 64 ∧ ended owner t ∧
          t.mem.pages = s.mem.pages ∧ t.mem.bytes = s.mem.bytes ∧ (p, g, owner) ∈ t.mem.late) ∧
        answers (.lowerTierReadFailed p g owner true) s (fun t => t.ent 0x2250 2 = (s.ent 0x2250 2 + 1) % 2 ^ 64 ∧ ended owner t ∧
          t.mem.pages = s.mem.pages ∧ t.mem.bytes = s.mem.bytes ∧ (p, g) ∈ t.mem.failedGranules)) ∧
      (d.tier = .library → d.holder = 0x3FF0 → d.hbmCopy = false →
        answers (.lowerTierReadFailed p g owner true) s (fun t => (t.inst d.inst).epoch = ((s.inst d.inst).epoch + 1) % 256 ∧
          t.mem.pages = s.mem.pages ∧ t.mem.bytes = s.mem.bytes)) ∧
      (d.tier = .host → d.holder < 12288 → s.mem.moves = [j] → j.page = p → j.target = .hbm →
        answers (.swapInFailed p) s (fun t => t.mem.moves = [] ∧ ended d.holder t ∧ t.page p = { d with migrating := false }))

/-- Books and retirement (06_memory_tiers.md R158, R178; 16_faults_availability.md R446). -/
def Obligations.BooksFollowRecountAndRetirement : Prop :=
  ∀ (s : State) (d f g : Nat) (library : Bool), s.mem.books.length = 8 →
    (d < 4 → answers (.bookAudit d) s (fun t => t.book false d = s.recount false d ∧ t.mem.pages = s.mem.pages ∧ t.mem.bytes = s.mem.bytes ∧
      t.mem.inflight = s.mem.inflight ∧ t.insts = s.insts ∧ t.cores = s.cores)) ∧
    (f < 12582912 → (false, f) ∈ s.flt.toRetire → f ∉ s.usedFrames false → (s.retireList false (frameDie false f)).length < 4095 →
      s.sparing = false → answers (.frameRetire false f) s (fun t => (∃ ch, (false, f, ch) ∈ t.mem.retired) ∧ (false, f) ∉ t.flt.toRetire ∧
        (t.book false (frameDie false f)).total = (s.book false (frameDie false f)).total - 1 ∧
        (t.book false (frameDie false f)).free = (s.book false (frameDie false f)).free - 1 ∧ t.mem.pages = s.mem.pages)) ∧
    (g < (if library then 4 else 24) → (library, g) ∈ s.mem.draining → s.groupBusy library g = false →
      answers (.channelDrainDone library g) s (fun t => (library, g) ∉ t.mem.draining ∧ t.mem.pages = s.mem.pages ∧ t.mem.bytes = s.mem.bytes))

/-- Appends to the KV cache and the commit of a copy on write (07_attention_kv.md R187, R190 to R194; 09_requests.md R241, R242). -/
def Obligations.KvAppendKeepsOrderAndStoresGroups : Prop :=
  ∀ (s : State) (n e gi l h pos old : Nat) (values : List Nat), n < 64 → e < 12288 →
    let v := (s.inst n).kv
    let c := cacheNo e gi l h
    let G := v.group gi
    let due := max (s.entry n e).committed (v.stage c).next
    v.holds gi l h = true →
      (pos = due → pos % 16 < 15 → answers (.appendRecord n e gi l h pos values none) s (fun t =>
        let v' := (t.inst n).kv
        v'.groupState c (pos / 16) = 1 ∧ sget [] ((v'.stage c).buf (pos / 16)) (pos % 16) = values ∧ (v'.stage c).next = pos + 1 ∧
        t = { s with insts := t.insts } ∧ (∀ m, m ≠ n → t.inst m = s.inst m) ∧ (t.inst n).roster = (s.inst n).roster)) ∧
      (pos = due → pos % 16 = 15 → (v.mapAt (v.entryKey c (16 * (pos / 16)))).page < 0xFFFFFFFE →
        (s.page (v.mapAt (v.entryKey c (16 * (pos / 16)))).page).refs ≤ 1 →
        let p := (v.mapAt (v.entryKey c (16 * (pos / 16)))).page
        let rows := (List.range 16).map (fun j => if j = 15 then values else sget [] ((v.stage c).buf (pos / 16)) j)
        let at_ := p * 65536 + 16 * (pos / 16) % pagePositions G / 16 * groupBytes G
        answers (.appendRecord n e gi l h pos values none) s (fun t =>
          (t.inst n).kv.groupState c (pos / 16) = 2 ∧ getBytes t.mem.bytes at_ (groupCodes G rows).length = groupCodes G rows ∧
          outside at_ (groupCodes G rows).length s.mem.bytes t.mem.bytes ∧ t.cores = s.cores)) ∧
      (pos ≠ due → answers (.appendRecord n e gi l h pos values none) s (fun t =>
        (t.inst n).epoch = ((s.inst n).epoch + 1) % 256 ∧ (t.inst n).kv = v ∧ t.mem = s.mem)) ∧
      (v.copying = [(c, old)] → (s.page old).inst = n → (s.page old).state = .owned → (s.page old).holder = e → 2 ≤ (s.page old).refs →
        answers (.cowCopyCommit n e gi l h) s (fun t => (t.inst n).kv.copying = [] ∧ (t.page old).refs = (s.page old).refs - 1 ∧
          (t.page old).holder = 0x3FFF ∧ (t.page old).prevHolder = e ∧ t.mem.bytes = s.mem.bytes))

/-- Step start, reads of phase 2, layer and kernel dispatch (08_roster.md R224 to R229; 09_requests.md R246, R253). -/
def Obligations.StepsAreBuiltAndDispatched : Prop :=
  ∀ (s : State) (n e ring kernel die tile mask key : Nat) (te : TtEntry) (st : StepSt) (row : StepRow) (kr : KernelRec)
    (P : List (Nat × Option (List Nat))) (M : List (Nat × Option Bytes)), n < 64 → e < 12288 → ring < 16384 →
    let r := (s.inst n).roster
    let ended (t : State) : Prop := ∃ f ∈ (t.inst n).roster.faulted, f.1 = e
    ((s.inst n).bind.state ≠ .serving → completes (.stepStart n P M) s s) ∧
    ((s.inst n).bind.state = .serving → s.suspended n = false →
      s.bell.table.find? (fun x => x.2.kind == 1 && x.2.inst == n) = some (key, te) → s.ttEntry key = te →
      (r.step = none → r.backlog = [] → answers (.stepStart n P M) s (fun t => (t.inst n).roster.backlog = [] ∧
        ∃ u, (t.inst n).roster.step = some u ∧ u.bell = te.time ∧ u.number = (s.ent (instIdx n 0x50) 1 + 1) % 2 ^ 64)) ∧
      (r.step = some st → answers (.stepStart n P M) s (fun t => (t.inst n).roster.backlog = r.backlog ++ [te.time] ∧
        t.mem = s.mem ∧ t.cores = s.cores ∧ te.time ≤ t.now ∧ ∃ u, (t.inst n).roster.step = some u ∧ u.number = st.number ∧ u.rows = st.rows))) ∧
    (r.step = some st → row ∈ st.rows → row.entry = e →
      (row.prefill = true → answers (.promptReadFailed n e) s (fun t => ended t ∧ t.mem = s.mem ∧
        ∃ u, (t.inst n).roster.step = some u ∧ ∀ x ∈ u.rows, x.entry = e → x.poisoned = true)) ∧
      (row.draws = true → (field (s.entry n e).sampling 0x38 4).testBit 0 = true → answers (.maskReadFailed n e) s (fun t => ended t ∧ t.mem = s.mem ∧
        ∃ u, (t.inst n).roster.step = some u ∧ ∀ x ∈ u.rows, x.entry = e → x.poisoned = true))) ∧
    (r.step = some st → s.nextInst = some n → s.lastInst = some n → answers .layerDispatch s (fun t => t = { s with insts := t.insts, mem := t.mem } ∧
      t.mem.bytes = s.mem.bytes ∧ (t.inst n).roster.step = some { st with nextLayer := st.nextLayer + 1 } ∧
      (t.inst n).roster.vtime = r.vtime + Config.layerEstimate n (((s.inst n).bind.program.layersOf st.template).getD st.nextLayer 0) / max 1 (s.ent (instIdx n 0x50) 2))) ∧
    (die < 16 → tile < 48 → r.step = some st → (s.inst n).bind.state = .serving → s.lastInst = some n → st.nextLayer ≠ 0 →
      (s.inst n).bind.program.kernels[kernel]? = some kr → kr.layer = ((s.inst n).bind.program.layersOf st.template).getD (st.nextLayer - 1) 0 →
      ((s.inst n).bind.program.kernelsOf st.template).any (fun x => x.id == kernel) = true → s.tiles.any (fun t => t.1 == die * 48 + tile) = false →
      (∀ l c, l < 24 → mask.testBit l = true → s.coreAt die tile l = some c → (s.core c).next = none) →
      answers (.kernelDispatch n kernel die tile mask) s (fun t => t = { s with cores := t.cores, tiles := t.tiles, free := s.free + 1 } ∧
        (∃ d, t.tiles = s.tiles ++ [(die * 48 + tile, d)] ∧ d.inst = n ∧ d.epoch = (s.inst n).epoch ∧ d.kernelId = kr.id ∧ d.layer = kr.layer ∧ d.mask = mask) ∧
        (∀ c, (∀ l, l < 24 → s.coreAt die tile l ≠ some c) → t.core c = s.core c))) ∧
    ((s.ring ring).assigned = some (n * 65536 + e) → answers (.ringWriteFailed ring) s (fun t => ended t ∧ t.mem = s.mem))

/-- The draw of one row (09_requests.md R247, R248, R251 to R253). -/
def Obligations.HomeModuleDrawsOneToken : Prop :=
  ∀ (s : State) (n e : Nat) (st : StepSt) (row : StepRow) (slices : List SliceResult) (d : DrawResult), n < 64 → e < 12288 →
    let en := s.entry n e
    let r := s.ring en.ring
    let lost (t : State) : Prop := (∃ f ∈ (t.inst n).roster.faulted, f.1 = e) ∧ t.mem = s.mem ∧
      ∃ u, (t.inst n).roster.step = some u ∧ ∃ x ∈ u.drawn, x.entry = e ∧ x.failed = true
    (s.inst n).roster.step = some st → st.rows.find? (fun x => x.entry == e && x.draws) = some row →
      (∀ x ∈ st.drawn, x.entry ≠ e) →
      (en.home ≠ (s.inst n).bind.place.rank → completes (.sampleDraw n e) s s) ∧
      (en.home = (s.inst n).bind.place.rank →
        (row.poisoned = true → answers (.sampleDraw n e) s lost) ∧
        (row.poisoned = false → (∀ f ∈ (s.inst n).roster.faulted, f.1 ≠ e) → st.slices.find? (fun p => p.1 == e) = some (e, slices) →
          (∀ k, k < (s.inst n).bind.place.modules → ∃ x ∈ slices, x.rank = k) →
          (mergeCands slices = [] → answers (.sampleDraw n e) s lost) ∧
          (drawFrom en.sampling (row.first + row.count) en.seqId (mergeCands slices) (logSumExp slices) = some d →
            (s.fn r.link).up = true → r.enable = true → answers (.sampleDraw n e) s (fun t => t = { s with insts := t.insts, host := t.host } ∧
              t.ring en.ring = r ∧ (t.inst n).roster.entries = (s.inst n).roster.entries ∧
              (∃ u, (t.inst n).roster.step = some u ∧ ∃ x, u.drawn = st.drawn ++ [x] ∧ x.entry = e ∧ x.token = d.token ∧ x.logprob = d.logprob) ∧
              ∃ b : Bytes, b.length = 16 ∧ field b 0 4 = d.token % 2 ^ 32 ∧ getBytes t.host.image (ringSlot r r.prod) 16 = b ∧
                (t.inst n).req.posted = (s.inst n).req.posted ++ [(e, en.ring, b)] ∧ outside (ringSlot r r.prod) 16 s.host.image t.host.image))))

/-- Rounds A and B, dismissal and the start mismatch (08_roster.md R218 to R222, R232). -/
def Obligations.StepEndExchange : Prop :=
  ∀ (s : State) (n m : Nat) (st : StepSt) (d : Digest) (ds : List Digest)
    (P : List (Nat × Option (List Nat))) (M : List (Nat × Option Bytes)), n < 64 →
    let r := (s.inst n).roster
    let dismissing (t : State) : Prop := (t.inst n).bind.state = .dismissing ∧ (t.inst n).roster.dismissReason = 8 ∧ (t.inst n).roster.dismiss = true
    ((s.inst n).bind.state = .serving → r.step = some st →
      (st.phase = 0 → st.void = true → answers (.roundASend n) s (fun t => t.mem = s.mem ∧
        (∃ u, (t.inst n).roster.step = some u ∧ u.phase = 1) ∧
        ∃ x ∈ (t.inst n).roster.digestsA, x.round = 0 ∧ x.inst = n ∧ x.void = true ∧ x.step = st.number ∧ x.bell = st.bell)) ∧
      (d.inst = n → d.round < 2 → d.step = st.number → d.bell = st.bell → s.mismatched n = false →
        answers (.digestReceive m d) s (fun t => t = { s with insts := t.insts } ∧ (∀ k, k ≠ n → t.inst k = s.inst k) ∧
          (t.inst n).roster = (if d.round = 0 then { r with digestsA := r.digestsA ++ [d] } else { r with digestsB := r.digestsB ++ [d] }))) ∧
      (st.phase = 1 → roundOf (s.ranks n) r.digestsA = some ds →
        (ds.any (·.dismiss) = true → answers (.roundACommit n) s (fun t => (t.inst n).bind.state = .dismissing ∧ (t.inst n).roster.step = none ∧ t.mem.pages = s.mem.pages)) ∧
        (ds.any (·.dismiss) = false → answers (.roundACommit n) s (fun t =>
          ∃ x ∈ (t.inst n).roster.digestsB, x.round = 1 ∧ x.inst = n ∧ x.step = st.number ∧ x.bell = st.bell))) ∧
      (st.phase = 1 → roundOf (s.ranks n) r.digestsA = none → completes (.roundACommit n) s s) ∧
      (2 ≤ st.phase → roundOf (s.ranks n) r.digestsB = some ds → r.backlog = [] → answers (.roundBApply n P M) s (fun t =>
        (t.inst n).roster.step = none ∧ (t.inst n).roster.results = [] ∧ (t.inst n).roster.backlog = [] ∧ t.bell = s.bell ∧ t.tiles = s.tiles ∧ t.pwr = s.pwr)) ∧
      (st.phase = 1 → st.number = 1 → roundOf (s.ranks n) r.digestsA = none → r.dismiss = false →
        answers (.firstStepDigestTimeout n) s (fun t => dismissing t ∧ st.sentAt + s.ent (instIdx n 0x80) 1 ≤ t.now ∧ t.mem = s.mem))) ∧
    ((s.inst n).bind.state = .serving → r.dismiss = false → answers (.notServing n m) s (fun t => dismissing t ∧ t.mem = s.mem)) ∧
    ((s.inst n).bind.state ≠ .serving → d.inst = n → d.round < 2 → answers (.digestReceive m d) s (fun t => t = { s with fab := t.fab })) ∧
    ((s.inst n).bind.state = .dismissing → answers (.dismissalComplete n) s (fun t => (t.inst n).bind.state = .free ∧
      (t.inst n).epoch = ((s.inst n).epoch + 1) % 256 ∧ (t.inst n).roster.entries = [] ∧ ∀ c k, t.core c = k → k.instValid = true → k.inst = n → k.seqRunning = false))

/-- Commands on sequences, lessons and budgets (08_roster.md R215 to R217; 09_requests.md R255 to R261). -/
def Obligations.RosterCommandsWaitForTheStepEnd : Prop :=
  ∀ (s : State) (n q v i pg slot : Nat) (ref : CmdRef) (a : AdmitArgs) (b : Bytes) (ch : BudgetChange) (ls : Lesson) (bu : Budget), n < 64 →
    let i0 := s.inst n
    let queued (r : DigestRec) : State := s.onRoster n (fun x => { x with cmds := x.cmds ++ [{ record := r, ref := some ref }] })
    let who := (s.findSeq n q).getD 0xFFFF
    (i0.bind.state ≠ .serving → ∀ c ∈ [Instr.rosterEnd n q ref, .park n q ref, .resume n q ref, .priority n q v ref, .interleave n v ref,
        .rosterAdmit n a none none ref, .lessonLoad n i (some b) ref, .lessonUnload n i ref, .budgetSet n ch ref], completes c s (s.complete ref 0x0708)) ∧
    (i0.bind.state = .serving →
      completes (.rosterEnd n q ref) s (queued { kind := 5, entry := who, seqId := q }) ∧
      completes (.park n q ref) s (queued { kind := 6, entry := who, seqId := q }) ∧
      completes (.resume n q ref) s (queued { kind := 7, entry := who, seqId := q }) ∧
      completes (.priority n q v ref) s (queued { kind := 8, arg8 := v % 256, entry := who, seqId := q }) ∧
      completes (.interleave n v ref) s (queued { kind := 0x0A, arg8 := v % 256 }) ∧
      (a.ring < 12288 → (s.ring a.ring).assigned = none → (s.ring a.ring).enable = true → (s.ring a.ring).kind = 1 →
        a.lesson = 0xFFFF ∨ i0.req.lessons.any (fun l => l.1 == a.lesson) = true → matchTokens a (s.ent (instIdx n 0x60) 2) = 0 → field a.sampling 0x1E 2 = 0 →
        answers (.rosterAdmit n a none none ref) s (fun t => t = { s with insts := t.insts, host := t.host } ∧ (t.ring a.ring).assigned = some (n * 65536 + 0xFFFF) ∧
          ∃ p, (t.inst n).roster.cmds = i0.roster.cmds ++ [{ record := { kind := 9, seqId := a.seqId, proposed := some p }, ref := some ref }] ∧
            p.seqId = a.seqId ∧ p.ring = a.ring ∧ p.home = i0.bind.place.rank ∧ p.promptLen = a.promptLen ∧ p.maxNew = a.maxNew ∧ p.tenant = a.tenant)) ∧
      (i ≤ 65534 → packOk i0.bind.program b = false → completes (.lessonLoad n i (some b) ref) s (s.complete ref 0x0903)) ∧
      (i ≤ 65534 → packOk i0.bind.program b = true → i0.req.lessons.any (fun l => l.1 == i) = false → s.lessonPlace n = some (s, pg, slot) →
        answers (.lessonLoad n i (some b) ref) s (fun t => (t.inst n).req.lessons = i0.req.lessons ++ [(i, { bytes := b, page := pg, slot })] ∧ t.cores = s.cores)) ∧
      (i ≤ 65534 → (∀ e ∈ i0.roster.entries, e.2.state = 0 ∨ e.2.lesson ≠ i) → i0.req.lessons.find? (fun l => l.1 == i) = some (i, ls) →
        (∃ l ∈ i0.req.lessons, l.1 ≠ i ∧ l.2.page = ls.page) → answers (.lessonUnload n i ref) s (fun t => t.mem = s.mem ∧ t.cores = s.cores ∧
          (t.inst n).req.lessons = i0.req.lessons.filter (fun x => x.1 != i) ∧ i ∈ (t.inst n).req.unloaded)) ∧
      (ch.tenant < i0.bind.program.needs.tenants → s.stepOf n + 2 ≤ ch.effectiveStep → i0.req.sets.length < 4096 →
        completes (.budgetSet n ch ref) s ((s.onReq n (fun x => { x with sets := x.sets ++ [ch] })).complete ref 0))) ∧
    ((∀ x ∈ s.insts, ∀ y ∈ x.2.req.budgets, budgetBalanced y.2 = true) → completes .budgetAudit s s) ∧
    (s.insts = [(n, i0)] → i0.req.budgets = [(q, bu)] → budgetBalanced bu = false → answers .budgetAudit s (fun t =>
      sget {} (t.inst n).req.budgets q = { bu with granted := ofInt 64 (bu.balance + bu.consumed) } ∧
      t.ent (instIdx n 0x60) 9 = (s.ent (instIdx n 0x60) 9 + 1) % 2 ^ 32 ∧ t.mem = s.mem ∧ t.cores = s.cores))

/-- The sixteen atomics at an M die (10_tolgil_fabric.md R272, R273). -/
def Obligations.AtomicsStoreTheResultAndAnswerTheOldValue : Prop :=
  ∀ (s : State) (q : Packet),
    let signed (w : Nat) (f : Int → Int → Int) (a b _c : Nat) : Nat := ofInt w (f (toInt w a) (toInt w b))
    let swap (a b c : Nat) : Nat := if a = b then c else a
    let table : List ((Packet → Instr) × Nat × (Nat → Nat → Nat → Nat)) := [
      (.addI32, 4, fun a b _ => (a + b) % 2 ^ 32), (.addI64, 8, fun a b _ => (a + b) % 2 ^ 64), (.addF32, 4, fun a b _ => add32 a b),
      (.minS32, 4, signed 32 min), (.minU32, 4, fun a b _ => min a b), (.minS64, 8, signed 64 min), (.minU64, 8, fun a b _ => min a b),
      (.minF32, 4, fun a b _ => minNumber32 a b), (.maxS32, 4, signed 32 max), (.maxU32, 4, fun a b _ => max a b), (.maxS64, 8, signed 64 max),
      (.maxU64, 8, fun a b _ => max a b), (.maxF32, 4, fun a b _ => maxNumber32 a b), (.cas32, 4, swap), (.cas64, 8, swap), (.cas128, 16, swap)]
    ∀ p ∈ table, nodeModule q.node = s.moduleIndex → nodeModule q.node < 120 →
      s.ownTarget (nodeDie q.node) q.offset q.priv = .memory q.offset →
      let w := p.2.1
      let old := unle (getBytes s.mem.bytes q.offset w)
      (q.offset % w = 0 → s.accessCause q.inst q.priv q.offset = 0 → (s.page (offPage q.offset)).state = .owned →
        (s.readBeat (q.offset - q.offset % 64) 0x3FFF).poison = none → (∀ x ∈ s.mem.waitingWrites, x.page ≠ offPage q.offset) →
        answers (p.1 q) s (fun t => getBytes t.mem.bytes q.offset w = le w (p.2.2 old (field q.data 0 w) (field q.data 16 w)) ∧
          outside q.offset w s.mem.bytes t.mem.bytes ∧ t.mem.pages = s.mem.pages ∧
          ∃ (u : State) (rest : Bytes), t = u.answer q 0x30 0 [⟨le w old ++ rest, none⟩])) ∧
      (q.offset % w ≠ 0 → answers (p.1 q) s (fun t => t.mem = s.mem))

/-- Packets at their target (10_tolgil_fabric.md R266, R267, R272, R276, R299, R300). -/
def Obligations.TargetsServePackets : Prop :=
  ∀ (s : State) (q : Packet) (o : Outstanding) (lj : LoadJob) (sj : StoreJob) (step : Nat) (b : Bytes), 
    (nodeModule q.node = s.moduleIndex →
      let off := q.offset
      (s.ownTarget (nodeDie q.node) off q.priv = .memory off → s.accessCause q.inst q.priv off = 0 → s.checkServing q = s →
        ((q.priv = false ∨ nodeModule q.src < 120) → answers (.load q) s (fun t => t.mem = s.mem ∧
          let r := s.readBeats (off / 64 * 64) 0x3FFF q.beats
          t = (s.afterRead r).answer q 0x30 (if r.any (fun x => x.poison.isSome) then 1 else 0) r)) ∧
        (q.beats = 1 → q.poisonMask = 0 → q.count = false → (s.page (offPage off)).state = .owned → answers (.store q) s (fun t =>
          getBytes t.mem.bytes (off / 64 * 64) 64 = padTo 64 (q.data.take 64) ∧ outside (off / 64 * 64) 64 s.mem.bytes t.mem.bytes ∧
          t.mem.pages = s.mem.pages ∧ (q.ack = false → t = { s with mem := t.mem }))) ∧
        (q.priv = false → q.inst < 64 → q.ack = false → q.count = false → (s.page (offPage off)).state = .sealed → answers (.store q) s (fun t => t.mem = s.mem ∧
          (t.inst q.inst).epoch = ((s.inst q.inst).epoch + 1) % 256))) ∧
      (s.fab.outstanding = [o] → o.die = nodeDie q.node → o.tag = q.tag → q.status = 0 → o.core < numCores →
        (o.opcode = 1 → lj ∈ (s.core o.core).loads → lj.cmdNo = o.cmdNo → o.slot ∈ lj.left → answers (.response q) s (fun t =>
          t.fab.outstanding = [] ∧ t.mem = s.mem ∧ t.insts = s.insts ∧ (∀ c, c ≠ o.core → t.core c = s.core c) ∧
          t.core o.core = { s.core o.core with arrived := (s.core o.core).arrived ++ [(o.cmdNo, o.slot, answerBeats s.free q 4)] })) ∧
        (o.opcode = 2 → (s.core o.core).stores = [sj] → sj.cmdNo = o.cmdNo → sj.todo = [] → sj.flagged = false → sj.cmd.ack = true →
          answers (.completion q) s (fun t => t.fab.outstanding = [] ∧ t.mem = s.mem ∧ (t.core o.core).stores = [] ∧
            (t.core o.core).count sj.cmd.ackCounter = (s.core o.core).count sj.cmd.ackCounter + 1))) ∧
      ((∀ x ∈ s.fab.outstanding, x.die ≠ nodeDie q.node ∨ x.tag ≠ q.tag) → q.status ≠ 5 → completes (.response q) s s ∧ completes (.completion q) s s) ∧
      (q.inst < 64 → answers (.notice q) s (fun t => (t.inst q.inst).epoch = ((s.inst q.inst).epoch + 1) % 256 ∧ t.mem = s.mem)) ∧
      (q.inst < 64 → (s.inst q.inst).roster.step.any (fun st => st.number == step) = true → completes (.tolgilRelease q step) s (s.releaseLocal q.inst)) ∧
      (q.inst < 64 → (s.inst q.inst).roster.step.any (fun st => st.number == step) = false → completes (.tolgilRelease q step) s s) ∧
      (64 ≤ field q.data 0 1 → completes (.control q) s { s with fab := { s.fab with mailbox := s.fab.mailbox ++ [q] } })) ∧
    (120 ≤ nodeModule q.node → nodeDie q.node = 0 → s.hopModule (nodeModule q.node) = s.moduleIndex → s.moduleIndex ≠ 0xFF → s.hostLinks ≠ 0 → q.ack = false →
      (q.opcode = 2 → q.data.length = 64 * q.beats → answers (.hostBridgeRequest q none) s (fun t => t = { s with host := { s.host with image := t.host.image } } ∧
        getBytes t.host.image q.offset (64 * q.beats) = q.data ∧ outside q.offset (64 * q.beats) s.host.image t.host.image)) ∧
      (q.opcode = 1 → answers (.hostBridgeRequest q (some b)) s (fun t => t.mem = s.mem ∧
        t = s.answer q 0x30 0 ((List.range q.beats).map (fun i => ⟨padTo 64 (slice b (64 * i) 64), none⟩)))))

/-- Collective engines (10_tolgil_fabric.md R286, R287; 16_faults_availability.md R441). -/
def Obligations.CollectiveEnginesTakeTheirShare : Prop :=
  ∀ (s : State) (x c off : Nat) (d : Collective) (st : StepSt) (pieces : List (Nat × Option (List Beat))) (slices : List (Nat × List SliceResult)),
    20 ≤ x → x < 24 → d.inst < 64 → s.target d.done true = .core c off → (s.core c).instValid = true → (s.core c).inst = d.inst → (s.core c).epoch = d.epoch →
      let counted (t : State) : Prop := (t.core c).count d.counter = (s.core c).count d.counter + 1 ∧ ∀ k, k ≠ c → t.core k = s.core k
      (d.op = 3 → (s.inst d.inst).roster.step = some st → answers (.collectiveDescriptor x d pieces slices) s (fun t => counted t ∧ t.mem = s.mem ∧
        (t.inst d.inst).roster.step = some { st with slices := slices.foldl addSlices st.slices })) ∧
      (d.op = 1 → s.mem.failedGranules = [] → s.mem.late = [] → s.rankGroup d.inst d.group = [s.moduleIndex] → d.elements * elemBytes d.inFmt = 256 →
        (s.takesGranule x 0 = true → answers (.collectiveDescriptor x d pieces slices) s (fun t => counted t ∧
          getBytes t.mem.bytes (d.dst % 2 ^ 52) 256 = getBytes s.mem.bytes (d.src % 2 ^ 52) 256 ∧ outside (d.dst % 2 ^ 52) 256 s.mem.bytes t.mem.bytes)) ∧
        (s.takesGranule x 0 = false → answers (.collectiveDescriptor x d pieces slices) s (fun t => counted t ∧ t.mem = s.mem)))

/-- Link entries, flits and lanes of a port (10_tolgil_fabric.md R269, R278, R280, R290, R291, R294 to R296). -/
def Obligations.LinkEntriesAndFlits : Prop :=
  ∀ (s : State) (p vc pool n i ser inc live lane lanes die : Nat) (b : PassBook) (f : Flit), p < 16 → vc < 4 → pool < 2 → lane < 4 →
    let st := s.port p
    let only (t : State) : Prop := t = { s with fab := t.fab } ∧ ∀ k, k ≠ p → t.port k = s.port k
    let sentOn (l : List LinkEntry) (t : State) : Prop := only t ∧ t.fab.sentLinks = s.fab.sentLinks ++ [(p, l)] ∧ t.fab.sent = s.fab.sent ∧
      t.port p = { st with txSeq := (st.txSeq + 1) % 4096, replay := st.replay ++ [{ seq := st.txSeq, links := l }] }
    (st.waiting = [] → answers (.hallPass p vc pool n) s (fun t => only t ∧ (passBook (t.port p) (2 * vc + pool)).held = (passBook st (2 * vc + pool)).held + n ∧
      ∀ k, k ≠ 2 * vc + pool → passBook (t.port p) k = passBook st k)) ∧
    (booksClash (2 * vc + pool) (passBook st (2 * vc + pool)) b = false → completes (.audit p vc pool b.held b.inFlight b.occupied b.returns) s s) ∧
    (booksClash (2 * vc + pool) (passBook st (2 * vc + pool)) b = true → s.sparing = false →
      answers (.audit p vc pool b.held b.inFlight b.occupied b.returns) s (fun t => (t.port p).narrowing = true ∧ (t.port p).passes = [] ∧
        (t.port p).retrains = (st.retrains + 1) % 65536 ∧ t.mem = s.mem ∧ t.cores = s.cores)) ∧
    (st.state = 2 → answers (.hallPassAuditSend p) s (sentOn (auditEntries st)) ∧ answers (.heartbeatSend p) s (sentOn [s.heartbeatEntry]) ∧
      (lanes ∈ [1, 2, 4] → completes (.width p lanes) s (s.onPort p (fun x => { x with lanes }))) ∧
      (f.idle = true → f.seq = st.rxSeq → f.ackValid = false → f.nak = false → st.waiting = [] →
        answers (.flitReceive p (some f) [] []) s (fun t => only t ∧ (t.port p).rxSeq = (st.rxSeq + 1) % 4096 ∧ (t.port p).badRun = 0 ∧
          (t.port p).nakPending = false ∧ (t.port p).state = 2 ∧ (t.port p).replay = st.replay ∧ (t.port p).passes = st.passes)) ∧
      (st.badRun < 63 → answers (.flitReceive p none [] []) s (fun t => only t ∧ (t.port p).badRun = st.badRun + 1 ∧ (t.port p).nakPending = true ∧
        (t.port p).state = 2 ∧ (t.port p).rxSeq = st.rxSeq ∧ (t.port p).replay = st.replay)) ∧
      (63 ≤ st.badRun → answers (.flitReceive p none [] []) s (fun t => (t.port p).state = 0 ∧ t.mem = s.mem)) ∧
      (st.narrowing = true → st.waiting = [] → lanes ∈ [1, 2, 4] → answers (.retrainDone p lanes) s (fun t => only t ∧ (t.port p).narrowing = false ∧
        (t.port p).lanes = lanes ∧ t.fab.sentLinks = s.fab.sentLinks ++ [(p, [.width lanes])]))) ∧
    (i ≠ s.moduleIndex → answers (.heartbeat p i ser inc live) s (fun t => (t.port p).partner = some i ∧ (t.port p).partnerSerial = ser ∧
      (t.port p).partnerIncarnation = inc ∧ (t.port p).partnerLive = live ∧ (t.port p).lastHeartbeat = s.now ∧ (t.port p).state = st.state ∧
      (i < 120 → s.route i ≠ 0 → die < 25 → live.testBit die = false → t.nodeState (nodeOf i die) = .lost ∨ t.nodeState (nodeOf i die) = .unconfigured))) ∧
    (i = s.moduleIndex → i ≠ 0xFF → ser ≠ unle Config.serialNumber → answers (.heartbeat p i ser inc live) s (fun t => (t.port p).held = true ∧
      (t.port p).state = 0 ∧ t.mem = s.mem)) ∧
    (st.failedMask.testBit lane = false → (s.failLane p lane).widthFor p ≠ 0 → answers (.laneFailure p lane) s (fun t => (t.port p).failedMask.testBit lane = true ∧
      t.flt.failedLanes.testBit (4 * p + lane) = true ∧ (st.state = 2 → (t.port p).narrowing = true) ∧ (t.port p).state = st.state ∧ t.mem = s.mem))

/-- Ports, nodes, streams (10_tolgil_fabric.md R284, R285, R294 to R298). -/
def Obligations.PortsNodesAndRoutesFollowTheTables : Prop :=
  ∀ (s : State) (p i ser inc live n die tag vc via dest : Nat) (o : Outstanding), p < 16 → tag < 4096 → die < 25 → via < 120 →
    let st := s.port p
    (st.state = 1 ∨ st.state = 2 → answers (.portLossOfTraining p) s (fun t => (t.port p).state = 0 ∧ (t.port p).lanes = 0 ∧ t.mem = s.mem) ∧
      answers (.portSilenceTimeout p) s (fun t => (t.port p).state = 0 ∧ (t.port p).lanes = 0 ∧ t.mem = s.mem)) ∧
    (st.state = 0 ∨ st.state = 3 → completes (.portLossOfTraining p) s s ∧ completes (.portSilenceTimeout p) s s) ∧
    (st.state = 0 → st.held = false → s.portEnabled p = true → s.widthFor p ≠ 0 → i ≠ s.moduleIndex →
      (st.partner = none ∨ (st.partner = some i ∧ st.partnerSerial = ser)) →
      answers (.portRetrain p true i ser inc live) s (fun t => (t.port p).state = 2 ∧ (t.port p).lanes = s.widthFor p ∧ (t.port p).partner = some i ∧
        (t.port p).partnerSerial = ser ∧ (t.port p).retrains = (st.retrains + 1) % 65536)) ∧
    (st.state = 1 → s.widthFor p ≠ 0 → i ≠ s.moduleIndex → answers (.portTrained p i ser inc live) s (fun t => (t.port p).state = 2 ∧
      (t.port p).lanes = s.widthFor p ∧ (t.port p).partner = some i ∧ (t.port p).partnerIncarnation = inc)) ∧
    (n < 4096 → nodeModule n ≠ s.moduleIndex → s.nodeState n = .live → s.fab.outstanding.find? (fun x => x.node == n) = some o →
      answers (.supervisorTimeout n) s (fun t => t.nodeState n = .lost ∧ o.since + s.timeoutTicks ≤ t.now ∧ (o.die, o.tag) ∈ t.fab.quarantined)) ∧
    (n < 3840 → nodeModule n ≠ s.moduleIndex → s.nodeState n = .lost → s.reachable (nodeModule n) = true → s.route (nodeModule n) ≠ 0 →
      answers (.nodeLiveAgain n inc) s (fun t => t.nodeState n = .live ∧ sget 0 t.fab.incarnations (nodeModule n) = inc ∧
        t = { s with fab := t.fab, bell := { s.bell with counter := t.now } })) ∧
    (answers (.tagQuarantineEnd die tag) s (fun t => (die, tag) ∉ t.fab.quarantined ∧ (∀ x, x ≠ (die, tag) → (x ∈ t.fab.quarantined ↔ x ∈ s.fab.quarantined)) ∧
      t = { s with fab := t.fab } ∧ t.fab.outstanding = s.fab.outstanding)) ∧
    ((die, n, vc) ∈ s.fab.draining → (∀ e ∈ s.fab.drainQueue, e.1 ≠ die ∨ e.2.node ≠ n ∨ e.2.vc ≠ vc) → answers (.routeChangeDrainEnd die n vc) s (fun t =>
      (die, n, vc) ∉ t.fab.draining ∧ t.fab.drainQueue = s.fab.drainQueue ∧ t = { s with fab := t.fab })) ∧
    (answers (.viaNoRouteEnd via dest) s (fun t => (via, dest) ∉ t.fab.badVias ∧ t = { s with fab := t.fab }))

/-- Package keys and registration (11_weights.md R309 to R313). -/
def Obligations.KeysAndPackagesAreKept : Prop :=
  ∀ (s : State) (slot keyId owner epoch addr len id st : Nat) (key b : Bytes) (members : List Nat) (ref : CmdRef) (p : Package),
    let old := sget 0 s.wt.ratchet owner
    let others (t : State) : Prop := (∀ k, k ≠ slot → t.keySlot k = s.keySlot k) ∧ workKept s t ∧ t.wt.packages = s.wt.packages
    (ref.secured = false → completes (.keyLoad slot keyId owner epoch key ref) s (s.complete ref 0x0B04) ∧ completes (.keyErase slot ref) s (s.complete ref 0x0B04)) ∧
    (ref.secured = true → slot < 16 →
      (key.length = 32 → epoch < old → completes (.keyLoad slot keyId owner epoch key ref) s (s.complete ref 0x0B03)) ∧
      (key.length = 32 → epoch = old → answers (.keyLoad slot keyId owner epoch key ref) s (fun t => others t ∧ t.wt.ratchet = s.wt.ratchet ∧ t.tr = s.tr ∧
        t.keySlot slot = some { keyId, owner, epoch, key, usable := true } ∧ t.host.answer = s.completion ref 0 0 0)) ∧
      (key.length = 32 → old < epoch → queueBytes s.tr.queue + 2112 ≤ 3145728 → answers (.keyLoad slot keyId owner epoch key ref) s (fun t => others t ∧
        t.keySlot slot = some { keyId, owner, epoch, key, usable := false } ∧ sget 0 t.wt.ratchet owner = epoch ∧
        (∀ o, o ≠ owner → sget 0 t.wt.ratchet o = sget 0 s.wt.ratchet o) ∧
        (∃ r, t.tr.queue = s.tr.queue ++ [r] ∧ r.kind = 4 ∧ r.key = owner / 512 ∧ r.body.length = 2048) ∧ t.host.answer = s.completion ref 0 0 0)) ∧
      answers (.keyErase slot ref) s (fun t => others t ∧ t.keySlot slot = none ∧ t.wt.ratchet = s.wt.ratchet)) ∧
    completes (.pkgRegister none addr len slot members st ref) s (s.complete ref 0x0B08) ∧
    (membersOk members = false → completes (.pkgRegister (some b) addr len slot members st ref) s (s.complete ref 0x0B07)) ∧
    (membersOk members = true → s.packageCode b len (some slot) ≠ 0 →
      completes (.pkgRegister (some b) addr len slot members st ref) s (s.complete ref (s.packageCode b len (some slot)))) ∧
    (s.moduleIndex < 120 → s.packageCode b len (some slot) = 0 → s.wt.regs = [] → ref.secured = true → 
      answers (.pkgRegister (some b) addr len slot [s.moduleIndex] st ref) s (fun t => t.mem = s.mem ∧ t.cores = s.cores ∧ t.wt.regs = [] ∧
        t.wt.packages = s.wt.packages ++ [{ id := slice b 0x10 16, reader := s.moduleIndex, addr, len, header := b.take 64, table := parseTable b, members := [s.moduleIndex] }] ∧
        t.ent 0x2410 6 = s.wt.packages.length + 1 ∧ getBytes t.host.image st 16 = le 1 s.moduleIndex ++ zeros 15)) ∧
    (s.package (le 16 id) = none → completes (.pkgUnregister id ref) s (s.complete ref 0x0B09)) ∧
    (s.package (le 16 id) = some p → (p.reader ≠ s.moduleIndex → completes (.pkgUnregister id ref) s (s.complete ref 0x0B09)) ∧
      (p.reader = s.moduleIndex → (∃ j ∈ s.wt.jobs, j.package = le 16 id ∧ j.ref ≠ none) → completes (.pkgUnregister id ref) s (s.complete ref 0x0B05)) ∧
      (p.reader = s.moduleIndex → (∀ j ∈ s.wt.jobs, j.package ≠ le 16 id) → answers (.pkgUnregister id ref) s (fun t => workKept s t ∧
        t.package (le 16 id) = none ∧ t.wt.packages = s.wt.packages.filter (fun q => q.id != le 16 id) ∧ t.ent 0x2410 6 = t.wt.packages.length)))

/-- Ingest and restores (11_weights.md R316 to R323, R326, R327). -/
def Obligations.SegmentsReachTheirPages : Prop :=
  ∀ (s : State) (id first last fan addr n x k f : Nat) (members : List Nat) (ref : CmdRef) (p : Package) (j : IngestJob) (m : IngestMember) (d : SegmentDesc)
    (cipher tag plain : Bytes) (q : PieceSt) (ks : KeySlot) (e : PieceEntry) (st : MemberStat) (r : RestoreJob),
    n < 64 → x < 4 →
    (s.package (le 16 id) = none → completes (.ingest id first last fan addr members ref) s (s.complete ref 0x0B09)) ∧
    (s.package (le 16 id) = some p → p.reader = s.moduleIndex →
      let sane := membersOk members = true ∧ (∀ y ∈ members, y ∈ p.members)
      let range := first ≤ last ∧ last < p.table.length ∧ fan ≤ 8
      (¬ sane → completes (.ingest id first last fan addr members ref) s (s.complete ref 0x0B07)) ∧
      (sane → ¬ range → completes (.ingest id first last fan addr members ref) s (s.complete ref 0x1002)) ∧
      (sane → range → 2 ≤ (s.wt.jobs.filter (fun y => y.ref.isSome)).length → completes (.ingest id first last fan addr members ref) s (s.complete ref 0x0B06)) ∧
      (sane → range → s.wt.jobs = [] → answers (.ingest id first last fan addr members ref) s (fun t => workKept s t ∧ t.host.answer = s.host.answer ∧
        t.wt.nextIngest = s.wt.nextIngest + 1 ∧ ∃ y, t.wt.jobs = [y] ∧ y.ingestId = s.wt.nextIngest ∧ y.piece = first ∧ y.segment = 0 ∧ y.last = last ∧
          y.ref = some ref ∧ y.listed = members ∧ y.ended = false))) ∧
    (s.wt.jobs = [j] → s.package j.package = some p → j.ended = false →
      (j.retried = false → completes (.segmentHostRead j.ingestId none tag) s { s with wt := { s.wt with jobs := [{ j with retried := true }] } }) ∧
      (j.retried = true → j.ref ≠ none → p.table[j.piece]? = some e → j.segment + 1 < pieceSegments e →
        answers (.segmentHostRead j.ingestId none tag) s (fun t => workKept s t ∧ logged t 0x1B05 ∧
          t.wt.jobs = [{ j with segment := j.segment + 1, g := j.g + 1, retried := false }]))) ∧
    (12 ≤ s.buffersUsed (20 + d.g % 4) → completes (.segmentReceive d cipher tag false) s s) ∧
    (s.wt.held = [] → s.wt.restores = [] → s.wt.member = [m] → m.ingestId = d.ingestId → m.ended = false → childrenOf m.members m.fanout (rankIn m.members s.moduleIndex) = [] →
      s.package (le 16 d.packageId) = some p → s.instsWith (fun i => i.bind.state == .bound && i.bind.place.packageId == le 16 d.packageId) = [n] →
      s.piece n d.pieceId = some q → q.state = 1 → d.segment ∉ q.bitmap → q.library = false → p.table[d.pieceId]? = some e → q.bitmap.length + 1 < pieceSegments e →
      (∀ y ∈ p.table, y.sidePiece ≠ d.pieceId) →
      s.keyWith (field p.header 0x24 4) = some ks →
      let page := s.runPage q.firstPage d.segment
      (openSegment ks.key p d.pieceId d.segment cipher tag = some plain → answers (.segmentReceive d cipher tag false) s (fun t =>
        getBytes t.mem.bytes (page * 65536) plain.length = plain ∧ outside (page * 65536) plain.length s.mem.bytes t.mem.bytes ∧ t.mem.pages = s.mem.pages ∧
        t.piece n d.pieceId = some { q with bitmap := q.bitmap ++ [d.segment] } ∧ t.wt.held = [] ∧ t.cores = s.cores)) ∧
      (openSegment ks.key p d.pieceId d.segment cipher tag = none → answers (.segmentReceive d cipher tag false) s (fun t => t.mem = s.mem ∧ t.cores = s.cores ∧
        logged t 0x1B01 ∧ (t.piece n d.pieceId).map (fun y => y.state) = some 3 ∧ t.ent 0x2410 9 = (s.ent 0x2410 9 + 1) % 2 ^ 32))) ∧
    (id < 120 → s.wt.held = [] → answers (.bufferCredit id (20 + x)) s (fun t => t.credit id (20 + x) = min 12 (s.credit id (20 + x) + 1) ∧ t = { s with wt := t.wt })) ∧
    (s.piece n id = some q → s.package (s.inst n).bind.place.packageId = some p → q.library = true → q.pages = 1 → s.runPages q.firstPage 1 = [k] →
      (s.page k).state = .free → s.staged < 8192 → s.takeFrame false (keeperOf k) = some f → s.wt.held = [] →
      answers (.stagingAdmit n id) s (fun t => (t.page k).state = .owned ∧ (t.page k).frame = f ∧ (t.page k).inst = n ∧ (t.page k).reserve = true ∧
        t.mem.bytes = s.mem.bytes ∧ t = { s with mem := t.mem })) ∧
    (s.wt.member = [m] → s.wt.held = [] → m.listed = false → s.instsWith (fun i => i.bind.state == .bound && i.bind.place.packageId == m.package) = [n] →
      s.package m.package = some p → (s.inst n).pieces = [q] → q.state = 1 → q.pass = m.ingestId → q.library = false → p.table[q.piece]? = some e →
      q.bitmap.length ≠ pieceSegments e →
      answers (.ingestEnd m.ingestId) s (fun t => t.wt.member = [] ∧ t.mem = s.mem ∧ logged t 0x1B04 ∧ (t.inst n).pieces = [{ q with state := 3, bitmap := [] }])) ∧
    (s.wt.jobs = [j] → j.statuses = [] → (j.ended = false → completes (.memberStatus j.ingestId st) s { s with wt := { s.wt with jobs := [{ j with statuses := [st] }] } }) ∧
      (j.ended = true → j.listed = [st.modIdx] → j.ref = some ref → ref.secured = true → answers (.memberStatus j.ingestId st) s (fun t => workKept s t ∧ t.wt.jobs = [] ∧
        getBytes t.host.image j.statusAddr 16 = statusBytes st ∧ t.host.answer = s.completion ref 0 j.ingestId 0))) ∧
    (s.package (le 16 id) = some p → p.reader = s.moduleIndex → answers (.restore id first last n) s (fun t => t = { s with wt := t.wt } ∧
      t.wt.nextIngest = s.wt.nextIngest + 1 ∧ ∃ y, t.wt.jobs = s.wt.jobs ++ [y] ∧ y.ingestId = s.wt.nextIngest ∧ y.piece = first ∧ y.segment = last ∧ y.ref = none)) ∧
    (s.wt.restores = [r] → r.page = k → r.inst = n → (s.inst n).bind.state = .serving → answers (.restoreTimeout k) s (fun t => t.wt.restores = [] ∧
      r.since + s.ent 0x2410 3 * ticksPerMs ≤ t.now ∧ (t.inst n).roster.dismiss = true ∧ (t.inst n).roster.dismissReason = 7 ∧ t.mem = s.mem ∧ t.cores = s.cores))

/-- The two power loops (12_power_thermal.md R338, R341, R344, R346, R352, R355). -/
def Obligations.PowerLoopsHoldTheCap : Prop :=
  ∀ (s : State) (p i mv u : Nat) (x : PowerSample), u < 16 → s.powered = true → s.pwr.save = none → s.pwr.ballast = false →
    (let gov := (i + 50 * s.ent 0x2000 5) * mv / 1000
     let cap := min (min (1000 * s.ent 0x2000 2) s.pwr.capSag) (min s.capSilence gov)
     let target := cap * 975 / 1000 - 5000
     answers (.powerLoop1us p i mv) s (fun t => t = { s with pwr := t.pwr } ∧ t.pwr.governor = gov ∧ t.capEff = cap ∧ t.pwr.milliWatt = p ∧
       t.pwr.dutyP = (if target < p then min 64 (s.pwr.dutyP + (64 * (p - target) + 1087999) / 1088000)
                      else if cap * 2 < (target - p) * 100 then s.pwr.dutyP - 1 else s.pwr.dutyP))) ∧
    (x.temps.length = 37 → (∀ d, sget 0 s.pwr.dutyT d ≤ 64) → answers (.powerLoop10us x) s (fun t => workKept s t ∧ t.fab = s.fab ∧ t.bell = s.bell ∧
      t.pwr.milliVolt = x.milliVolt ∧ t.pwr.milliWatt = x.milliWatt ∧ t.ent 0x2000 0xB = milli32 x.milliVolt ∧ t.pwr.dutyP = s.pwr.dutyP ∧
      (x.milliVolt < 44000 → t.pwr.sag = true ∧ t.pwr.capSag = 1000000 + 250 * (x.milliVolt - 40000) ∧
        t.ent 0x2010 4 = (if s.pwr.sag then s.ent 0x2010 4 else (s.ent 0x2010 4 + 1) % 2 ^ 32)) ∧
      (44000 ≤ x.milliVolt → t.pwr.sag = s.pwr.sag) ∧
      (s.ent 0x2000 1 = 0 → t.clock = (if 1500 < s.clock then 1500 else min 1500 (s.clock + 50))) ∧
      (let limit := 16 * (s.ent 0x2020 1 : Int)
       let T := x.temps.getD u 0
       let d := sget 0 s.pwr.dutyT u
       sget 0 t.pwr.dutyT u = (if limit < T then min 64 (d + 4) else if T < limit - 32 then d - 1 else d)) ∧
      (s.pwr.overLoop = true → s.pwr.dutyP = 64 → s.ent 0x2000 3 ≠ 1 → s.pwr.throttleMem < 14 →
        t.pwr.throttleMem = s.pwr.throttleMem + 1 ∧ t.pwr.throttleLink = s.pwr.throttleLink) ∧
      (s.pwr.overLoop = true → s.pwr.dutyP = 64 → s.ent 0x2000 3 = 1 → s.pwr.throttleLink < 12 →
        t.pwr.throttleLink = s.pwr.throttleLink + 1 ∧ t.pwr.throttleMem = s.pwr.throttleMem) ∧
      (s.pwr.overLoop = false → x.milliWatt + 40000 < t.capEff * 975 / 1000 - 5000 → s.ent 0x2000 3 ≠ 1 → 0 < s.pwr.throttleLink →
        t.pwr.throttleLink = s.pwr.throttleLink - 1 ∧ t.pwr.throttleMem = s.pwr.throttleMem))) ∧
    completes .sagExit s { s with pwr := { s.pwr with sag := false } }

/-- Droop, fused temperature limits, coolant flow (12_power_thermal.md R349, R350, R351, R354). -/
def Obligations.DroopAndTemperatureLimitsAct : Prop :=
  ∀ (s : State) (d k cycles : Nat), d < 16 → k < 25 →
    let margin (t : State) : Nat := t.ent (0x3000 + d) 0xC
    (s.pwr.stretch = none → answers (.droopDetect d) s (fun t => t = { s with dict := t.dict, pwr := { s.pwr with stretch := some d } } ∧
      t.ent 0x2010 3 = (s.ent 0x2010 3 + 1) % 2 ^ 64 ∧ entriesKept [(0x2010, 3)] s t)) ∧
    (s.pwr.stretch ≠ none → completes (.droopDetect d) s s) ∧
    (s.pwr.stretch = none → completes (.droopRelease cycles) s s) ∧
    (s.pwr.stretch = some d → cycles * 200 ≤ s.clock * 1000000 → completes (.droopRelease cycles) s { s with pwr := { s.pwr with stretch := none } }) ∧
    (s.pwr.stretch = some d → s.clock * 1000000 < cycles * 200 → answers (.droopRelease cycles) s (fun t => t.pwr = { s.pwr with stretch := none } ∧
      margin t = min (Config.droopMarginMax d) (margin s + 5) ∧ workKept s t)) ∧
    answers (.droopMarginFall d) s (fun t => margin t = margin s - 5 ∧ (sget {} t.tr.wear d).droop = margin s - 5 ∧ t.pwr = s.pwr ∧ workKept s t) ∧
    (k ≠ 24 → s.flt.fenced.testBit k = false → answers (.junctionTrip k) s (fun t => t.flt.fenced.testBit k = true ∧ k ∈ t.pwr.regsOff ∧
      t.wt = s.wt ∧ t.tiles = s.tiles)) ∧
    answers (.junctionTrip 24) s (fun t => t.powered = false ∧ t.insts = [] ∧ t.mem = {} ∧ t.cores = [] ∧ t.tr.image = s.tr.image ∧ t.phys = s.phys) ∧
    (k < 12 → answers (.hbmTrip k) s (fun t => t.flt.fenced.testBit (16 + k / 3) = true ∧ 25 + k / 6 ∈ t.pwr.regsOff ∧
      (∀ j, j / 6 = k / 6 → t.wake.stacksUp.testBit j = false) ∧ (∀ j, j < 12 → j / 6 ≠ k / 6 → t.wake.stacksUp.testBit j = s.wake.stacksUp.testBit j))) ∧
    answers .flowLow s (fun t => logged t 0x1C0B ∧ t.pwr = s.pwr ∧ workKept s t)

/-- The state save and thermal hold (12_power_thermal.md R351, R353, R355 to R358). -/
def Obligations.SavesStopWorkAndLeaveAnImage : Prop :=
  ∀ (s : State) (v : SaveSt) (w : Bool), 
    let saving (cause : Nat) (bank : Bool) (t : State) : Prop := t.pwr.save = some { cause, fromBank := bank, bell := s.now } ∧ t.cores = [] ∧
      t.mem.moves = [] ∧ t.mem.bytes = s.mem.bytes ∧ t.pwr.dutyP = 64 ∧ (∀ p, (t.port p).state = 0) ∧ (∀ f, (t.fn f).up = false)
    (s.powered = true → s.pwr.save = none → 5 ≤ s.wakeStage →
      answers .supplyLoss s (saving 0x1C02 true) ∧ answers .thermalSave s (saving 0x1C06 false) ∧
      (∀ c ∈ [Instr.overVoltageDisconnect, .overCurrentDisconnect], answers c s (fun t => saving 0x1C04 true t ∧ t.pwr.switchClosed = false))) ∧
    (s.powered = true → s.pwr.save = none → s.wakeStage < 5 → answers .supplyLoss s (fun t => t.powered = false ∧ t.pwr.save = none ∧ t.insts = [])) ∧
    (s.pwr.save = none → completes (.saveComplete w) s s) ∧
    (s.pwr.save = some v → completes .thermalSave s s ∧ completes .supplyLoss s s ∧
      answers (.saveComplete w) s (fun t => t.insts = [] ∧ t.cores = [] ∧
        (∃ i, t.tr.image = some i ∧ i.cause = v.cause ∧ i.bell = v.bell ∧ i.whole = w) ∧
        (v.fromBank = true → t.powered = false) ∧
        (v.fromBank = false → t.pwr.thermalHold = true ∧ t.wakeStage = 0x20 ∧ t.pwr.save = none ∧ t.wake.diesUp = 2 ^ 24))) ∧
    (s.pwr.thermalHold = true → s.pwr.leakHold = false → s.ent 0x2020 3 = 1 → answers .thermalHoldExit s (fun t =>
      t.pwr.switchClosed = true ∧ t.wake.running = true ∧ t.wakeStage = 0 ∧ t.wake.kind = 2 ∧ t.pwr.thermalHold = false)) ∧
    (s.pwr.thermalHold = false ∨ s.pwr.leakHold = true ∨ s.ent 0x2020 3 ≠ 1 → completes .thermalHoldExit s s)

/-- Hold-up bank, silence cap, scheduled cap (12_power_thermal.md R348, R359, R360; 13_bell_timetable.md R375). -/
def Obligations.BankSilenceAndScheduledCap : Prop :=
  ∀ (s : State) (mj e p : Nat), e < 512 →
    (s.pwr.sag = true ∨ s.pwr.save ≠ none → completes .bankTest s s) ∧
    (s.pwr.sag = false → s.pwr.save = none → completes .bankTest s { s with pwr := { s.pwr with bankTest := true } }) ∧
    (s.pwr.bankTest = false → completes (.bankTestDone mj) s s) ∧
    (s.pwr.bankTest = true → s.flt.copying = false → answers (.bankTestDone mj) s (fun t => t.pwr = { s.pwr with bankTest := false } ∧ workKept s t ∧
      t.ent 0x2030 1 = milli32 mj ∧ t.ent 0x2030 3 = (if mj < 10000 then 0 else 1) ∧ (mj < 10000 → logged t 0x1C09))) ∧
    completes .bankChargeComplete s { s with pwr := { s.pwr with bankCharged := true } } ∧
    (s.pwr.bankCharged = true ∨ s.powered = false → completes .bankChargeTimeout s s) ∧
    (s.pwr.bankCharged = false → s.powered = true → answers .bankChargeTimeout s (fun t => 0x61 ∈ t.wake.faults ∧ t.ent 0x2030 3 = 0 ∧
      t.pwr.bankTimedOut = true ∧ logged t 0x1C09 ∧ workKept s t)) ∧
    (s.ent 0x2000 7 = 0 ∨ s.pwr.silent = true → completes .silenceCap s s) ∧
    (s.ent 0x2000 7 ≠ 0 → s.pwr.silent = false → answers .silenceCap s (fun t => t.pwr = { s.pwr with silent := true } ∧ logged t 0x1C0C ∧
      s.pwr.lastMgmt + s.ent 0x2000 8 * ticksPerSec ≤ t.now ∧ workKept s t)) ∧
    ((s.ttEntry e).kind ≠ 3 → completes (.capChange e) s s) ∧
    ((s.ttEntry e).kind = 3 → s.ent 0x2000 6 = p → answers (.capChange e) s (fun t => workKept s t ∧ t.pwr = s.pwr ∧ (s.ttEntry e).time ≤ t.now ∧
      ((s.ttEntry e).period = 0 → t.ttEntry e = {}) ∧ t.ent 0x2000 6 = 0 ∧ t.ent 0x2000 2 = (if p = 0 then s.ent 0x2000 2 else p) ∧
      (p ≠ 0 → queueBytes s.tr.queue + 64 ≤ 3145728 →
        t.tr.queue = s.tr.queue ++ [{ kind := 2, key := 0x200002, body := [0#8, 0x20#8, 2#8, 2#8] ++ le 2 p }])))

/-- The Bell unit's state table (13_bell_timetable.md R367, R370, R372). -/
def Obligations.BellUnitFollowsItsStateTable : Prop :=
  ∀ (s : State) (f : BellFrame) (c : Nat), 
    let b := s.bell
    let st (t : State) : BellState := t.bell.state
    let loaded (t : State) : Prop := t.bell.counter = (f.count + s.ent 0x2100 2 / 2500) % 2 ^ 64
    let far := 20000 < f.offsetPs.natAbs
    (s.wakeStage < 5 → completes (.bellFrame f) s s) ∧
    (5 ≤ s.wakeStage →
      (frameValid f = false → answers (.bellFrame f) s (fun t => t = { s with dict := t.dict } ∧ t.ent 0x2100 6 = (s.ent 0x2100 6 + 1) % 2 ^ 64 ∧
        entriesKept [(0x2100, 6)] s t)) ∧
      (frameValid f = true → b.lastCount = some c → f.count = (c + 2048 * f.frameTimes) % 2 ^ 64 → f.sourceId = s.ent 0x2100 7 →
        answers (.bellFrame f) s (fun t => workKept s t ∧ t.bell.lastCount = some f.count ∧ t.ent 0x2100 7 = f.sourceId ∧ t.bell.goodRun = b.goodRun + 1 ∧
          (7 ≤ b.goodRun → ¬ far → (b.state = .absent → st t = .acquiring ∧ loaded t) ∧
            (b.state ∈ [.acquiring, .locked, .slewing] → st t = b.state) ∧
            (b.state ∈ [.holdover, .freeRun] → st t = .slewing ∧ t.bell.slewFrom = b.state)) ∧
          (7 ≤ b.goodRun → b.state ∈ [.holdover, .freeRun] → 1000000000 < f.offsetPs.natAbs → st t = b.state ∧ t.bell.discontinuity = true ∧
            (b.discontinuity = false → logged t 0x1D04)) ∧
          (2 ≤ b.badRun → far → (b.state = .locked → st t = .holdover ∧ logged t 0x1D03) ∧
            (b.state = .acquiring → st t = .acquiring ∧ loaded t) ∧ (b.state = .slewing → st t = .slewing))))) ∧
    (b.state ∈ [.acquiring, .slewing] → answers .bellLock s (fun t => st t = .locked ∧ t.bell.slew = 0 ∧ t = { s with bell := t.bell })) ∧
    (b.state ∉ [.acquiring, .slewing] → completes .bellLock s s) ∧
    answers .bellLost s (fun t => workKept s t ∧ t.bell.lastCount = none ∧ (b.state = .acquiring → st t = .absent) ∧
      (b.state = .locked → st t = .holdover ∧ logged t 0x1D01 ∧ b.lastAt + 20480 ≤ t.now) ∧
      (b.state = .slewing → st t = (if b.slewFrom = .holdover then .holdover else .freeRun)) ∧ (b.state ∈ [.absent, .holdover, .freeRun] → st t = b.state)) ∧
    (b.state = .holdover → answers .holdoverExpired s (fun t => st t = .freeRun ∧ b.since + 20 * ticksPerSec ≤ t.now ∧ t.mem = s.mem ∧ t.cores = s.cores)) ∧
    (b.state ∈ [.absent, .acquiring, .locked, .freeRun] → completes .holdoverExpired s s)

/-- Leaving and regaining lockstep; a change of the period (13_bell_timetable.md R377, R381, R382). -/
def Obligations.LockstepIsLeftAndResumed : Prop :=
  ∀ (s : State) (n E r rank e k : Nat) (x : TtEntry), n < 64 → e < 512 → k < 512 →
    let l := (s.inst n).lock
    let lk (t : State) : LockSt := (t.inst n).lock
    let quiet (t : State) : Prop := t.mem = s.mem ∧ t.cores = s.cores
    let serves := (s.inst n).bind.state = .serving
    (serves → s.spans n = true → l.leaveAt = none → answers (.leave n E) s (fun t => t = { s with insts := t.insts } ∧ lk t = { l with leaveAt := some E, readies := [] } ∧
      ∀ m, m ≠ n → t.inst m = s.inst m)) ∧
    (¬ serves ∨ s.spans n = false → completes (.leave n E) s s) ∧
    answers (.cancel n) s (fun t => t = { s with insts := t.insts } ∧ lk t = { l with resumeAt := none, readies := [] } ∧ ∀ m, m ≠ n → t.inst m = s.inst m) ∧
    (s.suspended n = false → completes (.lockstepResume n r) s s ∧ completes (.ready n rank) s s ∧ completes (.readySend n) s s) ∧
    (s.bell.state ≠ .locked → completes (.readySend n) s s) ∧
    (s.suspended n = true → (s.stepStartEntry n = some (k, x) → answers (.lockstepResume n r) s (fun t => quiet t ∧ lk t = { l with resumeAt := some r } ∧
      t.ttEntry k = { x with time := r } ∧ ∀ j, j ≠ k → t.ttEntry j = s.ttEntry j)) ∧
      ((s.inst n).bind.place.rank = 0 → rank ∉ l.readies →
        ((∃ q, q < (s.inst n).bind.place.modules ∧ q ≠ rank ∧ q ∉ l.readies) → answers (.ready n rank) s (fun t => t = { s with insts := t.insts } ∧
          lk t = { l with readies := l.readies ++ [rank] })) ∧
        ((∀ q, q < (s.inst n).bind.place.modules → q = rank ∨ q ∈ l.readies) → s.stepStartEntry n = some (k, x) → 0 < x.period → answers (.ready n rank) s (fun t => quiet t ∧
          ∃ R, (lk t).resumeAt = some R ∧ s.now + 4000000 ≤ R ∧ (t.ttEntry k).time = R)) ∧
        (s.bell.state = .locked → answers (.readySend n) s (fun t => quiet t ∧ 0 ∈ (lk t).readies ∧ s.bell.since + ticksPerSec ≤ t.now)))) ∧
    ((s.ttEntry e).kind = 2 → (s.ttEntry e).inst = n → (s.ttEntry e).period = 0 → k ≠ e → (State.fireEntry s e).stepStartEntry n = some (k, x) →
      (serves → 400 * s.ent (0x4010 + 0x100 * n) 4 ≤ (s.ttEntry e).arg → x.time = (s.ttEntry e).time → answers (.periodChange e) s (fun t => quiet t ∧
        t.ttEntry k = { x with period := (s.ttEntry e).arg } ∧ t.ttEntry e = {} ∧ t.ent (0x4080 + 0x100 * n) 1 = (s.ttEntry e).arg)) ∧
      (x.time ≠ (s.ttEntry e).time → answers (.periodChange e) s (fun t => quiet t ∧ logged t 0x1D06 ∧ t.ttEntry k = s.ttEntry k ∧ t.ttEntry e = {}))) ∧
    ((s.ttEntry e).kind ≠ 2 → completes (.periodChange e) s s)

/-- Roll call (13_bell_timetable.md R383 to R385). -/
def Obligations.RollCallSweepsCollectOneSampleEach : Prop :=
  ∀ (s : State) (e close c m : Nat) (b : Bytes) (w : Sweep), e < 512 → 
    let x := s.ttEntry e
    let members := s.rollMembers
    (x.kind ≠ 4 → completes (.rollCall e) s s) ∧
    (x.kind = 4 → bits x.arg 6 0 = s.moduleIndex → s.bell.heldSamples = [] → answers (.rollCall e) s (fun t => t = { s with bell := t.bell } ∧
      x.time ≤ t.now ∧ ∃ v, t.bell.sweeps = s.bell.sweeps ++ [v] ∧ v.bell = x.time ∧ v.close = x.time + bits x.arg 31 16 * 40000 ∧
        (members.testBit s.moduleIndex = false → v.samples = []) ∧ (members.testBit s.moduleIndex = true → v.samples.length = 1 ∧
          ∀ y ∈ v.samples, field y.2 0 8 = x.time % 2 ^ 64 ∧ field y.2 8 1 = s.moduleIndex % 256 ∧ y.2.length = 64))) ∧
    (x.kind = 4 → bits x.arg 6 0 ≠ s.moduleIndex → answers (.rollCall e) s (fun t => workKept s t ∧ t.bell.sweeps = s.bell.sweeps ∧
      ∃ y, t.bell.ownSample = some (bits x.arg 6 0, x.time + bits x.arg 31 16 * 40000, y) ∧ field y 0 8 = x.time % 2 ^ 64)) ∧
    (s.bell.ownSample = none → completes .rollCallSampleRetry s s) ∧
    (s.bell.ownSample = some (c, close, b) → close < s.now → completes .rollCallSampleRetry s { s with bell := { s.bell with ownSample := none } }) ∧
    (field b 8 1 = m → members.testBit m = false → answers (.rollCallSample b) s (fun t => workKept s t ∧ t.bell = s.bell ∧ t.ent 0x2120 4 = (s.ent 0x2120 4 + 1) % 2 ^ 64)) ∧
    (field b 8 1 = m → members.testBit m = true → s.bell.sweeps = [w] → w.bell = field b 0 8 → answers (.rollCallSample b) s (fun t => workKept s t ∧
      t.ent 0x2120 4 = s.ent 0x2120 4 ∧
      ((∀ y ∈ w.samples, y.1 ≠ m) → t.bell.sweeps = [{ w with samples := w.samples ++ [(m, b)] }]) ∧ ((∃ y ∈ w.samples, y.1 = m) → t.bell.sweeps = [w]))) ∧
    ((∀ y ∈ s.bell.sweeps, y.bell ≠ c) → completes (.sweepClose c) s s) ∧
    (s.bell.sweeps = [w] → w.bell = c → answers (.sweepClose c) s (fun t => workKept s t ∧ t.bell.sweeps = [] ∧ w.close ≤ t.now ∧
      field (t.blob 0x2120 2) 0 8 = c % 2 ^ 64 ∧ (t.blob 0x2120 2).length = 64 + 64 * w.samples.length ∧
      t.ent 0x2120 3 = (if w.samples.length < popCount members 128 then (s.ent 0x2120 3 + 1) % 2 ^ 32 else s.ent 0x2120 3)))

/-- Components, Proctor cores, log and trace (14_firmware.md R391, R394 to R398, R400, R402). -/
def Obligations.ComponentsRestartAndRecord : Prop :=
  ∀ (s : State) (a p core level code point data : Nat) (msg : Bytes) (args : List Nat) (blk : Nat × Nat × Bytes), 1 ≤ a → a ≤ 8 → 1 ≤ p → p ≤ 8 →
    let c := s.comp p
    let now (t : State) : CompSt := t.comp p
    let quietFw (t : State) : Prop := workKept s t ∧ t.fab = s.fab ∧ t.bell = s.bell
    (msg.length ≤ 256 →
      (c.running = true → completes (.componentMessage a p msg) s s) ∧
      (c.running = false → c.inbox.length < 32 → completes (.componentMessage a p msg) s (s.onComp p (fun x => { x with inbox := c.inbox ++ [msg] }))) ∧
      (c.running = false → 32 ≤ c.inbox.length → completes (.componentMessage a p msg) s { s with fw := { s.fw with blocked := s.fw.blocked ++ [(a, p, msg)] } })) ∧
    ((∀ x ∈ s.fw.blocked, x.1 ≠ a) → completes (.inboxSendTimeout a) s s) ∧
    (s.fw.blocked = [blk] → blk.1 = a → answers (.inboxSendTimeout a) s (fun t => quietFw t ∧ t.fw.blocked = [])) ∧
    (c.running = false → completes (.watchdogMiss p) s s ∧ completes (.domainViolation p) s s) ∧
    (c.delayed = false → completes (.delayedRestart p) s s) ∧
    (c.restarting = false → completes (.componentRestartDone p) s s) ∧
    (let restarts (t : State) : Prop := quietFw t ∧ (now t).running = false ∧ (now t).restarting = true ∧ (now t).total = (c.total + 1) % 65536 ∧
       (now t).restarts = [s.now] ∧ (now t).inbox = c.inbox ∧ (s.tr.queue = [] → logged t 0x1E01)
     c.restarts = [] → p ≠ 5 → s.fw.staged < 3 → (c.running = true → c.unstable = false → answers (.watchdogMiss p) s restarts ∧ answers (.domainViolation p) s restarts) ∧
       (c.delayed = true → answers (.delayedRestart p) s restarts)) ∧
    (c.running = true → c.unstable = true → completes (.watchdogMiss p) s (s.onComp p (fun x => { x with running := false, delayed := true })) ∧
      answers (.domainViolation p) s (fun t => quietFw t ∧ logged t 0x1E07 ∧ (now t).running = false ∧ (now t).delayed = true)) ∧
    (c.restarting = true → answers (.componentRestartDone p) s (fun t => quietFw t ∧ now t = { c with running := true, restarting := false, inbox := [] } ∧
      ∀ b ∈ t.fw.blocked, b.2.1 ≠ p)) ∧
    (core < 6 → (s.ent 0x2500 8).testBit core = false → completes (.proctorCoreLost core) s s) ∧
    (core < 6 → (s.ent 0x2500 8).testBit core = true → (∃ k, k < 6 ∧ k ≠ core ∧ (s.ent 0x2500 8).testBit k = true) → answers (.proctorCoreLost core) s (fun t => quietFw t ∧
      (t.ent 0x2500 8).testBit core = false ∧ (∀ k, k ≠ core → (t.ent 0x2500 8).testBit k = (s.ent 0x2500 8).testBit k) ∧
      (c.home = core → (now t).home ≠ core ∧ (t.ent 0x2500 8).testBit (now t).home = true) ∧ (c.home ≠ core → (now t).home = c.home))) ∧
    (s.ent 0x2500 8 = 2 ^ core → core < 6 → answers (.proctorCoreLost core) s (fun t => t.powered = false ∧ t.insts = [])) ∧
    (s.ent 0x2530 1 < level → completes (.logRecord a level code args) s s) ∧
    (level ≤ s.ent 0x2530 1 → answers (.logRecord a level code args) s (fun t => quietFw t ∧ t.fw.logSeq = (s.fw.logSeq + 1) % 2 ^ 32 ∧
      t.fw.log.getLast? = some { seq := t.fw.logSeq, bell := s.now, part := a, level, code, args } ∧ t.ent 0x2530 2 = (s.ent 0x2530 2 + 1) % 2 ^ 64)) ∧
    (let on := (field (s.blob 0x2540 1) (point / 8) 1).testBit (point % 8)
     let ring := s.ent 0x2540 2
     (on = false → completes (.tracePoint point core data) s s) ∧
     (point < 4096 → on = true → s.fw.traceMs ≠ s.now / ticksPerMs → 0 < s.ent 0x2540 3 → s.ringRoom ring 6 = true → answers (.tracePoint point core data) s (fun t => quietFw t ∧
       (t.ring ring).prod = ((s.ring ring).prod + 1) % 2 ^ 32 ∧ t.fw.traceGap = false ∧ ∃ b, t.fw.trace.getLast? = some b ∧ field b 8 8 = data % 2 ^ 64)) ∧
     (point < 4096 → on = true → s.ringRoom ring 6 = false → answers (.tracePoint point core data) s (fun t => quietFw t ∧
       t.ent 0x2540 4 = (s.ent 0x2540 4 + 1) % 2 ^ 64 ∧ t.fw.traceGap = true ∧ t.fw.trace = s.fw.trace)))

/-- Staging, preparation, revert (14_firmware.md R404 to R406, R411). -/
def Obligations.ImagesAreStagedAndPrepared : Prop :=
  ∀ (s : State) (off addr : Nat) (chunk : Bytes) (last : Bool) (protocols : List (Nat × Nat)) (ref : CmdRef),
    let busy := 3 ≤ s.fw.staged ∨ s.pwr.save ≠ none
    let other (t : State) : Bank := t.fw.banks.getD (1 - t.fw.active) {}
    let result (t : State) (code : Nat) : Prop := field t.host.answer 6 2 = code
    let stays (t : State) : Prop := workKept s t ∧ t.fw.parts = s.fw.parts ∧ t.fw.active = s.fw.active ∧ t.term = s.term ∧ t.fw.banks.getD s.fw.active {} = s.fw.banks.getD s.fw.active {}
    let rows := presentRows (other s)
    let prepared (t : State) : Prop := stays t ∧ t.fw.staged = 3 ∧ t.fw.termId = s.term + 1 ∧ t.fw.changed = [] ∧ t.fw.loaded = false ∧ t.fw.back = false ∧
      t.fw.todo = [8, 7, 4, 3, 2, 6, 5, 0x11, 0x12, 0x10, 1].filter (fun p => rows.any (fun r => r.part == p)) ∧ t.ent 0x2520 1 = s.term + 1
    (busy → completes (.termStage off chunk last ref) s (s.complete ref 0x0E04) ∧ completes (.termPrepare addr protocols ref) s (s.complete ref 0x0E04) ∧
      completes (.termRevert ref) s (s.complete ref 0x0E04)) ∧
    (¬ busy →
      (1048576 < chunk.length ∨ (off ≠ 0 ∧ (s.fw.staged ≠ 1 ∨ off ≠ s.fw.stageNext)) → completes (.termStage off chunk last ref) s (s.complete ref 0x1002)) ∧
      (chunk.length ≤ 1048576 → s.fw.active < 2 → s.fw.banks.length = 2 →
        answers (.termStage 0 chunk false ref) s (fun t => stays t ∧ other t = { bytes := chunk } ∧ t.fw.staged = 1 ∧ t.fw.stageNext = chunk.length ∧ t.fw.revertible = false ∧ result t 0) ∧
        answers (.termStage 0 chunk true ref) s (fun t => stays t ∧ result t (imageCode chunk s.securityMin) ∧
          (imageCode chunk s.securityMin = 0 → other t = { bytes := chunk } ∧ t.fw.staged = 2) ∧
          (imageCode chunk s.securityMin ≠ 0 → other t = {} ∧ t.fw.staged = 0))) ∧
      (s.fw.staged ≠ 2 → completes (.termPrepare addr protocols ref) s (s.complete ref 0x0E06)) ∧
      (s.fw.staged = 2 → s.prepareCode rows protocols ≠ 0 → answers (.termPrepare addr protocols ref) s (fun t => stays t ∧ t.fw = s.fw ∧
        result t (s.prepareCode rows protocols) ∧ t.ent 0x2520 3 = s.prepareCode rows protocols)) ∧
      (s.fw.staged = 2 → s.prepareCode rows protocols = 0 → answers (.termPrepare addr protocols ref) s (fun t => prepared t ∧ result t 0 ∧
        (ref.secured = true → getBytes t.host.image addr (4 * (s.combinations rows).length) = (s.combinations rows).flatMap (le 4)))) ∧
      (s.fw.revertible = false → completes (.termRevert ref) s (s.complete ref 0x0E06)) ∧
      (s.fw.revertible = true → s.prepareCode rows [] = 0 → answers (.termRevert ref) s (fun t => prepared t ∧ result t 0)))

/-- Handover, rollback, abort (14_firmware.md R406 to R411). -/
def Obligations.PartsHandOverOrRollBack : Prop :=
  ∀ (s : State) (e p us : Nat) (rest : List Nat) (row : PartRow) (old : PartRow) (ref : CmdRef), e < 512 →
    let quietFw (t : State) : Prop := t.mem = s.mem ∧ t.cores = s.cores ∧ t.fw.active = s.fw.active ∧ t.term = s.term ∧ t.fw.banks = s.fw.banks
    let rolled (t : State) : Prop := quietFw t ∧ t.fw.staged = 2 ∧ t.fw.termId = 0 ∧ t.fw.todo = [] ∧ t.ent 0x2520 1 = 0 ∧ t.ent 0x2520 3 = 0x1E04 ∧ logged t 0x1E04
    let x := s.ttEntry e
    (s.fw.staged < 3 ∨ s.pwr.save ≠ none → completes (.termAbort ref) s (s.complete ref 0x0E06)) ∧
    (3 ≤ s.fw.staged → s.pwr.save = none → s.fw.back = false →
      (s.fw.changed = [] → answers (.termAbort ref) s (fun t => rolled t ∧ t.fw.parts = s.fw.parts ∧ field t.host.answer 6 2 = 0)) ∧
      (s.fw.todo = p :: rest → s.fw.loaded = false →
        (s.fw.late = none → completes (.successorLoadDone true) s { s with fw := { s.fw with loaded := true } }) ∧
        (s.fw.changed = [] → answers (.successorLoadDone false) s (fun t => rolled t ∧ t.fw.parts = s.fw.parts))) ∧
      (x.kind = 5 → x.arg ≠ s.fw.termId → answers (.handover e true us) s (fun t => quietFw t ∧ t.fw.staged = s.fw.staged ∧ t.fw.parts = s.fw.parts ∧ t.fw.todo = s.fw.todo)) ∧
      (x.kind = 5 → x.arg = s.fw.termId → s.fw.todo = p :: rest → s.fw.loaded = true →
        (s.fw.changed = [] → answers (.handover e false us) s (fun t => rolled t ∧ t.fw.parts = s.fw.parts)) ∧
        ((presentRows s.otherBank).find? (fun r => r.part == p) = some row → s.fw.parts.any (fun r => r.part == p) = true → s.tr.queue = [] →
          answers (.handover e true us) s (fun t => quietFw t ∧ t.fw.staged = 4 ∧ t.running p = row ∧ (∀ q, q ≠ p → t.running q = s.running q) ∧
            t.fw.changed = s.running p :: s.fw.changed ∧ t.fw.todo = rest ∧ t.fw.loaded = false ∧ t.ent 0x2520 2 = rest.headD 0 ∧
            us ≤ t.ent 0x2520 4 ∧ (rest = [] → ∃ r ∈ t.tr.queue, r.kind = 1 ∧ r.key = s.fw.termId % 2 ∧ field r.body 0 4 = s.fw.termId % 2 ^ 32))))) ∧
    (x.kind ≠ 5 → completes (.handover e true us) s s) ∧
    (s.fw.back = true → s.pwr.save = none → s.fw.changed = [old] → s.fw.parts.any (fun r => r.part == old.part) = true →
      (∀ c ∈ [(Instr.handBack, false), (.handBackRetry, true)], s.fw.backHeld = c.2 →
        answers (c.1 true us) s (fun t => rolled t ∧ t.running old.part = old ∧ (∀ q, q ≠ old.part → t.running q = s.running q)) ∧
        answers (c.1 false us) s (fun t => quietFw t ∧ t.fw.backHeld = true ∧ t.fw.parts = s.fw.parts ∧ t.fw.changed = [old] ∧ logged t 0x1E02)))

/-- The stages of a wake (15_bringup_reset.md R419 to R427; 18_transcript.md R497). -/
def Obligations.WakeRunsItsStagesInOrder : Prop :=
  ∀ (s : State) (d x y p ch : Nat) (b : Bool) (r : JRec) (l : List JRec) (i : Nat) (chunk : Bytes), d < 24 → p < 16 →
    let at_ (k : Nat) : Prop := s.wake.running = true ∧ s.wakeStage = k
    let code (t : State) (c : Nat) : Prop := c ∈ t.wake.faults
    let stages : List (Nat × Instr) := [(0, .wakeW0), (1, .wakeW1), (2, .wakeW2 b), (3, .wakeW3), (4, .wakeW4), (5, .wakeW5 x), (6, .wakeW6 x y), (7, .wakeW7 x),
      (8, .wakeW8 x), (9, .wakeW9 x y), (10, .wakeW10 []), (11, .wakeW11)]
    (∀ c ∈ stages, ¬ at_ c.1 → completes c.2 s s) ∧
    (s.wake.running = false → completes .wakeStageTimeout s s) ∧ (s.wake.retryPending = false → completes .wakeRetry s s) ∧
    (s.phys.mated = false ∨ s.powered = true → completes .inputInRange s s) ∧
    (let begins (t : State) : Prop := t.pwr.switchClosed = true ∧ t.wake.running = true ∧ t.wakeStage = 0 ∧ t.cores = [] ∧ t.insts = [] ∧ t.mem = {} ∧ t.tr.up = false
     (s.phys.mated = true → s.powered = false → answers .inputInRange s begins) ∧ (s.wake.retryPending = true → answers .wakeRetry s begins)) ∧
    (let only (k : Nat) (t : State) : Prop := t = { s with dict := t.dict } ∧ t.wakeStage = k ∧ entriesKept [(0x2550, 1)] s t
     (at_ 0 → answers .wakeW0 s (only 1)) ∧ (at_ 1 → answers .wakeW1 s (only 2)) ∧ (at_ 2 → answers (.wakeW2 true) s (only 3)) ∧
     (at_ 3 → termRecords s.romScan = r :: l → answers .wakeW3 s (fun t => t.wakeStage = 4 ∧ t.term = field r.body 0 4 ∧ t = { s with dict := t.dict })) ∧
     (at_ 3 → termRecords s.romScan = [] → answers .wakeW3 s (fun t => t.wakeStage = 4 ∧ workKept s t ∧ (s.freshJournal = false → code t 0x31)))) ∧
    (at_ 2 → s.tr.up = false → answers (.wakeW2 false) s (fun t => t.wakeStage = 3 ∧ t.wake.fallbackClock = true ∧ code t 0x21 ∧ logged t 0x1F02 ∧ workKept s t)) ∧
    (at_ 4 → s.selectBank = some (i, false) → answers .wakeW4 s (fun t => t.wakeStage = 5 ∧ t.fw.active = i ∧ t.fw.parts = s.partsOf i ∧ workKept s t)) ∧
    (at_ 4 → s.selectBank = none → ∀ c ∈ [Instr.wakeW4, .wakeStageTimeout], answers c s (fun t => t.wakeStage = 0x31 ∧ t.wake.running = false ∧ code t 0x41 ∧
      t.wake.pin = .coded (t.ent 0x2550 2) ∧ workKept s t)) ∧
    (at_ 5 → s.freshJournal = true → s.wake.fallbackClock = false → s.phys.leak ≠ 1 → answers (.wakeW5 x) s (fun t => t.tr.up = true ∧ t.ent 0x2300 4 = 1 ∧
      (∀ q, 1 ≤ q → q ≤ 8 → (t.comp q).running = x.testBit q ∧ (t.comp q).home = homeCore q) ∧
      ((∀ q, 1 ≤ q → q ≤ 8 → x.testBit q = true) → t.wakeStage = 6 ∧ t.wake.running = true) ∧
      ((∃ q, 1 ≤ q ∧ q ≤ 8 ∧ x.testBit q = false) → t.wakeStage = 0x30 ∧ t.wake.running = false ∧ code t 0x45))) ∧
    (at_ 6 → answers (.wakeW6 x y) s (fun t => t.wakeStage = 7 ∧ t.wake.diesUp.testBit d = !x.testBit d ∧ t.wake.diesUp.testBit 24 = true ∧
      t.flt.fenced.testBit d = (s.flt.fenced.testBit d || x.testBit d) ∧
      ∀ j, j < 12 → (t.wake.stacksUp.testBit j = true ↔ ∀ q, q < 12 → q / 6 = j / 6 → y.testBit q = false))) ∧
    (at_ 7 → answers (.wakeW7 x) s (fun t => t.wakeStage = 8 ∧ t.wake.pin = .released ∧ t.wake.diesUp.testBit d = (s.wake.diesUp.testBit d && !x.testBit d) ∧
      (s.wake.diesUp.testBit d = true → x.testBit d = true → t.flt.fenced.testBit d = true) ∧ (x.testBit d = false → t.flt.fenced.testBit d = s.flt.fenced.testBit d))) ∧
    (at_ 8 → answers (.wakeW8 x) s (fun t => t.wakeStage = 9 ∧ workKept s t ∧ (s.portEnabled p = false → (t.port p).state = 3) ∧
      (s.portEnabled p = true → (t.port p).state = (if t.dieWorks (20 + p / 4) ∧ t.widthFor p ≠ 0 then 1 else 0)) ∧ (t.port p).partner = none)) ∧
    (at_ 9 → ch < 384 → s.keysOf 9 = [] → s.fact 10 0 = none → answers (.wakeW9 x y) s (fun t => t.wakeStage = 10 ∧
      (ch ∈ t.mem.retiredHbm ↔ x.testBit ch = true ∧ s.wake.stacksUp.testBit (ch / 32) = true ∧ s.wake.diesUp.testBit (16 + ch / 96) = true) ∧
      (∀ k, k < 4 → s.wake.diesUp.testBit (16 + k) = false → (t.book false k).total = 0))) ∧
    (at_ 10 → s.flt.spares = [] → answers (.wakeW10 []) s (fun t => t.wakeStage = 11 ∧ t.cores = [] ∧ t.mem = s.mem)) ∧
    (at_ 11 → s.servingCodes = [] → s.pwr.bankCharged = true ∨ s.pwr.bankTimedOut = true → answers .wakeW11 s (fun t => t.wakeStage = 0x21 ∧ t.wake.running = false ∧
      t.ent 0x2550 3 = (s.now - s.wake.started) / ticksPerMs ∧ workKept s t ∧ (s.hostDie = false → code t 0x54) ∧ (s.short = true → code t 0x70))) ∧
    (at_ 11 → s.servingCodes = [] → s.pwr.bankCharged = false → s.pwr.bankTimedOut = false → completes .wakeW11 s s) ∧
    (at_ 11 → s.servingCodes ≠ [] → answers .wakeW11 s (fun t => t.wakeStage = 0x30 ∧ t.wake.running = false ∧ (∀ c ∈ s.servingCodes, code t c) ∧ workKept s t)) ∧
    (at_ 0 → answers .wakeStageTimeout s (fun t => t.powered = false ∧ t.wake.retryPending = true)) ∧
    (at_ 1 → completes .wakeStageTimeout s { s with wake := { s.wake with running := false } }) ∧
    (s.wakeStage ≠ 0x31 → completes (.recoveryImage x chunk b) s s) ∧
    (s.wakeStage = 0x31 → s.fw.banks.length = 2 → s.badBank < 2 →
      completes (.recoveryImage 0 chunk false) s { s with fw := { s.fw with banks := s.fw.banks.set s.badBank { bytes := chunk } } } ∧
      (x ≠ 0 → x ≠ (s.fw.banks.getD s.badBank {}).bytes.length → completes (.recoveryImage x chunk b) s s))

/-- Module and link resets, mate loop, leak sensor, JTAG (15_bringup_reset.md R428 to R432; 20_physical.md R533, R534, R539, R543). -/
def Obligations.ResetsAndPinsKeepWhatTheTableSays : Prop :=
  ∀ (s : State) (f : Nat) (dry : Bool) (src : ResetSource) (tdi : List Bool), f < 2 →
    let reset (kind : Nat) (t : State) : Prop := t.wakeStage = 3 ∧ t.wake.running = true ∧ t.wake.kind = kind ∧ t.cores = [] ∧ t.insts = [] ∧ t.mem = {} ∧
      t.tr.queue = [] ∧ t.bell.counter = s.bell.counter ∧ t.bell.state = s.bell.state ∧ t.fw.banks = s.fw.banks ∧ t.phys.mated = s.phys.mated ∧ t.pwr.switchClosed = s.pwr.switchClosed
    (s.pwr.save ≠ none → s.phys.leak ≠ 1 → completes (.moduleReset src dry) s s) ∧
    (s.powered = true → s.pwr.save = none → 3 ≤ s.wakeStage → s.phys.leak ≠ 1 → answers (.moduleReset src dry) s (reset (match src with | .perst => 3 | .command => 4 | .recovery => 5))) ∧
    (∀ c ∈ [Instr.functionLevelReset f, .d3hot f], answers c s (fun t => (t.fn f).up = false ∧ (t.fn f).session = false ∧ (t.fn f).spdm = 0 ∧ (t.fn f).ideKeys = none ∧
      (t.fn f).apertureBase = 0 ∧ (t.fn f).msix = [] ∧ (t.fn f).request = [] ∧ t.wt.keys = s.wt.keys ∧ t.bell = s.bell)) ∧
    (s.wake.perst = true → completes .perst s s) ∧
    (s.wake.perst = false → s.ent 0x2550 6 ≠ 0 → answers .perst s (fun t => t.wake.perst = true ∧ (∀ k, k < 2 → (t.fn k).up = false) ∧ t.wt.keys = s.wt.keys ∧
      t.bell = s.bell ∧ t.wake.running = s.wake.running)) ∧
    (s.wake.perst = false → 8 ≤ s.wakeStage → s.ent 0x2550 6 = 0 → s.powered = true → s.pwr.save = none → s.pwr.leakHold = false →
      answers .perst s (fun t => reset 3 t ∧ t.wake.perst = true)) ∧
    completes .perstDeasserted s { s with wake := { s.wake with perst := false } } ∧
    completes .mateClose s { s with phys := { s.phys with mated := true } } ∧
    (s.phys.mated = false → completes .mateOpen s s) ∧
    (let saving (cause : Nat) (bank : Bool) (t : State) : Prop := t.pwr.save = some { cause, fromBank := bank, bell := s.now } ∧ t.cores = [] ∧ t.pwr.dutyP = 64
     (s.phys.mated = true → s.powered = true → s.pwr.save = none → 5 ≤ s.wakeStage → answers .mateOpen s (fun t => saving 0x2401 true t ∧ t.pwr.switchClosed = false ∧ t.phys.mated = false)) ∧
     (s.powered = true → s.pwr.save = none → 6 ≤ s.wakeStage → answers .leakWet s (fun t => saving 0x2402 false t ∧ t.phys.leak = 1)) ∧
     (s.wakeStage < 6 → completes .leakWet s { s with phys := { s.phys with leak := 1 } })) ∧
    answers .leakSensorOpen s (fun t => t.phys.leak = 2 ∧ workKept s t ∧ t.pwr = s.pwr ∧ (s.powered = true → s.phys.leakHour ≠ some (s.now / ticksPerHour) → logged t 0x2403)) ∧
    (let forms : List (Nat × Instr) := [(3, .extest tdi), (4, .extestPulse tdi), (5, .extestTrain tdi)]
     let chain := (List.range 25).filter (fun d => !decide (d ∈ s.pwr.regsOff))
     let bypassed (t : State) : Prop := t = { s with phys := { s.phys with jtagIr := 0, tdo := (chain.map (fun _ => false) ++ tdi).take tdi.length } }
     let kept (ir : Nat) (t : State) : Prop := t = { s with phys := { s.phys with jtagIr := ir, cells := tdi, tdo := t.phys.tdo }, free := t.free } ∧ t.phys.tdo.length = tdi.length
     (s.powered = false → (∀ c ∈ [Instr.bypass tdi, .idcode tdi, .samplePreload tdi], completes c s s) ∧ ∀ c ∈ forms, completes c.2 s s) ∧
     (s.powered = true → answers (.bypass tdi) s bypassed ∧
       (chain ≠ [] → tdi ≠ [] → answers (.idcode tdi) s (fun t => t.phys.jtagIr = 1 ∧ t.phys.tdo.length = tdi.length ∧ t.phys.tdo.head? = some true ∧ t = { s with phys := t.phys })) ∧
       answers (.samplePreload tdi) s (kept 2) ∧
       (s.wakeStage = 0x30 ∨ s.wakeStage = 0x31 ∨ s.fw.debugOpen = true → ∀ c ∈ forms, answers c.2 s (kept c.1)) ∧
       (s.wakeStage ≠ 0x30 → s.wakeStage ≠ 0x31 → s.fw.debugOpen = false → ∀ c ∈ forms, answers c.2 s bypassed)))

/-- Fences, spares, host links (16_faults_availability.md R440 to R442, R445; 19_host_interface.md R523, R529, R530). The last
clauses are the model's own answer to a unit that does not exist (log entry 46). -/
def Obligations.FencesSparesAndHostLinks : Prop :=
  ∀ (s : State) (d n c f k : Nat) (r : Bool),
    (d < 24 → s.flt.fenced.testBit d = true → completes (.dieFault d r) s s) ∧
    (d < 24 → s.flt.fenced.testBit d = false → answers (.dieFault d r) s (fun t =>
      (∀ e, t.flt.fenced.testBit e = (decide (e = d) || s.flt.fenced.testBit e)) ∧
      (d ∈ t.pwr.regsOff ↔ d ∈ s.pwr.regsOff ∨ ¬ (d < 16 ∧ r = true)) ∧ (d < 16 → t.flt.routersLost.testBit d = (!r || s.flt.routersLost.testBit d)) ∧
      (s.busy = [] → s.tr.queue = [] → d < 20 → logged t 0x2001) ∧
      (16 ≤ d → d < 20 → ((s.inst n).bind.state = .serving → (t.inst n).roster.dismiss = true ∧ (t.inst n).roster.dismissReason = 7) ∧
        (s.flt.saveDie = d → t.ent 0x2030 3 = 0 ∧ t.flt.copying = true ∧ ((∃ m, 16 ≤ m ∧ m < 20 ∧ m ≠ d ∧ s.dieWorks m = true) →
          t.flt.saveDie ≠ d ∧ s.dieWorks t.flt.saveDie = true)) ∧
        (s.flt.saveDie ≠ d → t.flt.saveDie = s.flt.saveDie)) ∧
      (20 ≤ d → (∀ p, p < 4 → (t.port (4 * (d - 20) + p)).state = 0 ∨ (t.port (4 * (d - 20) + p)).state = 3) ∧ (d < 22 → (t.fn (d - 20)).up = false)))) ∧
    (s.flt.copying = true → answers .saveAreaCopyDone s (fun t => t.ent 0x2030 3 = 1 ∧ t.flt.copying = false ∧ entriesKept [(0x2030, 3)] s t ∧
      t = { s with dict := t.dict, flt := { s.flt with copying := false } })) ∧
    (s.flt.copying = false → completes .saveAreaCopyDone s s) ∧
    (c < 19200 →
      let j := s.core c
      let idle := j.loadBusy = false ∧ j.mathBusy = false ∧ j.storeBusy = false ∧ j.seqRunning = false
      let m := s.spareMap (coreDie c) (coreTile c)
      let spare := coreNo (coreDie c) (coreTile c) 24
      (c ∉ s.flt.toSpare ∨ ¬ idle → completes (.coreSpare c) s s) ∧
      (c ∈ s.flt.toSpare → idle → answers (.coreSpare c) s (fun t => (t.core c).fenced = true ∧ c ∉ t.flt.toSpare ∧ t.mem = s.mem ∧
        (corePhys c ≠ 24 → m.1.testBit 24 = true → m.2 = 0xFF → t.spareMap (coreDie c) (coreTile c) = (setBit m.1 (corePhys c) false, corePhys c) ∧
          (t.core spare).run = j.run ∧ (t.core spare).inst = j.inst ∧ (t.core spare).epoch = j.epoch ∧ (t.core spare).instValid = j.instValid ∧
          (∀ i, i < 736 → (t.core spare).slot i = {}) ∧ (∀ x, x ≠ c → x ≠ spare → t.core x = s.core x) ∧ t.insts = s.insts ∧
          (s.tr.queue = [] → logged t 0x2004))))) ∧
    (f < 2 →
      ((s.fn f).up = false → completes (.hostLinkLost f) s s) ∧
      ((s.fn f).up = true → answers (.hostLinkLost f) s (fun t => (t.fn f).up = false ∧ (t.fn (1 - f)).up = (s.fn (1 - f)).up ∧ t.mem = s.mem ∧ t.host.heldDone = s.host.heldDone ∧
        (s.insts = [] → logged t 0x2305))) ∧
      ((s.fn f).up = true → completes (.hostLinkUp f) s s) ∧
      ((s.fn f).up = false → (f = 1 → s.library = true) → (s.fn f).ideKeys = none ∨ (s.fn f).ideSecure = true → s.wake.perst = false → s.wake.diesUp.testBit (20 + f) = true →
        s.flt.fenced.testBit (20 + f) = false → answers (.hostLinkUp f) s (fun t => (t.fn f).up = true ∧ (t.fn (1 - f)).up = (s.fn (1 - f)).up ∧ workKept s t ∧
          t.host.heldDone = s.host.heldDone.filter (fun x => decide ((s.ring x.1).link ≠ f)) ∧ (t.fn f).downOwed = false))) ∧
    (24 ≤ k → exec (.dieFault k r) s = .fault (.noSuchUnit k)) ∧ (19200 ≤ k → exec (.coreSpare k) s = .fault (.noSuchUnit k)) ∧
    (2 ≤ k → exec (.hostLinkLost k) s = .fault (.noSuchUnit k) ∧ exec (.hostLinkUp k) s = .fault (.noSuchUnit k))

/-- Refused writes of the dictionary-write rows (17_object_dictionary.md R457, R459, R469, R476 to R479). -/
def Obligations.RefusedDictionaryRowsChangeNothing : Prop :=
  ∀ (s : State) (n cls target entry fn v : Nat) (b key : Bytes) (p : Path), n < 64 → cls < 4 → target < 120 → entry < 512 → fn < 2 →
    (¬ served s → ∀ c ∈ [Instr.telemetryClear n v, .floorWrite cls v p, .routeEntryWrite target v p, .moduleIndexWrite v p, .powerModeWrite v p,
        .realign v p, .timetableWrite entry b p, .coreReset v p, .clearWindows v p, .restoreDefaults v p, .reformat v p, .managementKeyWrite fn key true],
      refusedWrite c s 0x0C09) ∧
    (served s →
      (∀ q ∈ [Path.mirror fn, .secured fn], ∀ c ∈ [Instr.routeEntryWrite target v q, .moduleIndexWrite v q, .realign v q, .restoreDefaults v q, .reformat v q],
        refusedWrite c s 0x0C07) ∧
      refusedWrite (.managementKeyWrite fn key false) s 0x0C07 ∧
      (s.ent 0x1100 9 ≠ 1 → refusedWrite (.powerModeWrite v (.mirror fn)) s 0x0C07) ∧
      (v % 256 ≠ 1 → refusedWrite (.telemetryClear n v) s 0x0C03 ∧ refusedWrite (.clearWindows v p) s 0x0C03 ∧
        refusedWrite (.realign v (.bus true)) s 0x0C03 ∧ refusedWrite (.reformat v (.bus true)) s 0x0C03) ∧
      ((s.core (coreNo (bits v 4 0) (bits v 10 5) (bits v 15 11))).fenced = false → refusedWrite (.coreReset v p) s 0x0C03) ∧
      (s.wakeStage ≠ 0x30 → refusedWrite (.reformat v (.bus true)) s 0x0C03) ∧
      (s.bell.state ≠ .freeRun → refusedWrite (.realign v (.bus true)) s 0x0C03) ∧
      (key.length ≠ 32 → refusedWrite (.managementKeyWrite fn key true) s 0x0C02) ∧
      (b.length ≠ 32 → refusedWrite (.timetableWrite entry b p) s 0x0C02))

/-- Accepted writes of `RWP` entries (17_object_dictionary.md R459, R472, R474). -/
def Obligations.PersistedWritesCommitThenApply : Prop :=
  ∀ (s : State) (cls target fn v : Nat) (key : Bytes) (p : Path) (auth : Bool), cls < 4 → target < 120 → fn < 2 → served s → journalRoom s 32 →
    let held (i k : Nat) (t : State) : Prop := resultIs t 0 ∧ t.ent i k = v ∧ t.generation i k = (s.generation i k + 1) % 2 ^ 32 ∧
      entriesKept [(i, k), (0x2700, 0xE)] s t ∧ t.tr.nextSeq = (if s.ent i k = v then s.tr.nextSeq else s.tr.nextSeq + 1) ∧
      t.mem = s.mem ∧ t.cores = s.cores ∧ t.insts = s.insts
    (v < 2 ^ 32 → s.ent 0x2230 (cls + 1) < 2 ^ 32 → s.accepts 0x2230 (cls + 1) v = true →
      answers (.floorWrite cls v p) s (held 0x2230 (cls + 1))) ∧
    (v < 2 ^ 47 → bits v 18 16 ≤ 4 → s.ent 0x2310 (target + 1) < 2 ^ 64 →
      answers (.routeEntryWrite target v (.bus auth)) s (fun t => held 0x2310 (target + 1) t ∧ t.route target = v)) ∧
    (v ≤ 119 ∨ v = 0xFF → s.ent 0x2300 1 < 256 → s.busy = [] →
      answers (.moduleIndexWrite v (.bus auth)) s (fun t => held 0x2300 1 t ∧ t.moduleIndex = v)) ∧
    (v ≤ 1 → s.ent 0x2000 1 < 256 → (v = 1 → s.spanning = false) →
      answers (.powerModeWrite v (.bus auth)) s (held 0x2000 1)) ∧
    (key.length = 32 → answers (.managementKeyWrite fn key true) s (fun t => resultIs t 0 ∧ t.mgmt.key = some key ∧ t.mgmt.sources = [] ∧
      t.ent 0x1100 6 = 1 ∧ t.tr.nextSeq = s.tr.nextSeq + 1 ∧ t.mem = s.mem ∧ t.cores = s.cores ∧ t.insts = s.insts))

/-- Writes of command entries and of the Timetable that are accepted. -/
def Obligations.CommandEntriesAct : Prop :=
  ∀ (s : State) (n entry v : Nat) (b : Bytes) (p : Path) (auth : Bool), n < 64 → entry < 512 → served s →
    (answers (.telemetryClear n 1) s (fun t => resultIs t 0 ∧ (t.inst n).tel = [] ∧ t = { s with insts := t.insts, mgmt := t.mgmt } ∧
      t.inst n = { s.inst n with tel := [] } ∧ ∀ m, m ≠ n → t.inst m = s.inst m)) ∧
    (answers (.clearWindows 1 p) s (fun t => resultIs t 0 ∧ t = { s with flt := { s.flt with windows := [] }, mgmt := t.mgmt })) ∧
    (let c := coreNo (bits v 4 0) (bits v 10 5) (bits v 15 11)
     v < 65536 → bits v 4 0 < 16 → bits v 10 5 < 48 → bits v 15 11 < 25 → (s.core c).fenced = true →
      answers (.coreReset v p) s (fun t => resultIs t 0 ∧ t = { s with cores := t.cores, mgmt := t.mgmt } ∧ (∀ d, d ≠ c → t.core d = s.core d) ∧
        t.core c = (if (s.core c).release then { s.core c with resetAfter := true }
                    else { ({} : CoreSt) with slate := (s.core c).slate, fenced := true }))) ∧
    ((s.ttEntry entry).reserved = false → b.length = 32 →
      let near := (s.ttEntry entry).kind ≠ 0 ∧ (s.ttEntry entry).time < s.now + ticksPerMs
      (field b 0 1 = 0 → answers (.timetableWrite entry b p) s (fun t => resultIs t 0 ∧
        t = { s with bell := { s.bell with table := t.bell.table }, mgmt := t.mgmt } ∧ (∀ k, k ≠ entry → t.ttEntry k = s.ttEntry k) ∧
        (¬ near → t.ttEntry entry = {}) ∧ (near → t.ttEntry entry = { s.ttEntry entry with emptying := true }))) ∧
      (field b 0 1 ≠ 0 → ¬ near → s.now + ticksPerMs ≤ field b 8 8 → s.ttFieldsOk b = true →
        answers (.timetableWrite entry b p) s (fun t => resultIs t 0 ∧ (∀ k, k ≠ entry → t.ttEntry k = s.ttEntry k) ∧
          t.ttEntry entry = { kind := field b 0 1, inst := field b 1 1, repeats := field b 4 4, time := field b 8 8, period := field b 0x10 8, arg := field b 0x18 8 }))) ∧
    (∀ c, s.bell.lastCount = some c → s.bell.state = .freeRun → s.bell.discontinuity = true →
      (s.instsWith (fun i => i.bind.state == .serving && decide (1 < i.bind.place.modules))).all s.suspended = true →
      answers (.realign 1 (.bus auth)) s (fun t => resultIs t 0 ∧ t.bell.state = .slewing ∧ t.bell.discontinuity = false ∧
        t.bell.counter = (c + s.bellDelay + (s.bell.counter - s.bell.lastAt)) % 2 ^ 64 ∧ t = { s with bell := t.bell, mgmt := t.mgmt })) ∧
    (journalRoom s 8 → answers (.restoreDefaults 0x2700 (.bus auth)) s (fun t => resultIs t 0 ∧ t.ent 0x2700 0xA % 2 ^ 32 = 86400 ∧
      entriesKept [(0x2700, 0xA), (0x2700, 0xE)] s t ∧ t = { s with dict := t.dict, mgmt := t.mgmt, tr := t.tr })) ∧
    (s.wakeStage = 0x30 → 0x32 ∈ s.wake.faults → answers (.reformat 1 (.bus true)) s (fun t => resultIs t 0 ∧ t.wakeStage = 3 ∧
      t.mgmt.key = none ∧ t.tr.anchors.length = 2 ∧ t.cores = [] ∧ t.insts = []))

/-- The operations of the dictionary service (17_object_dictionary.md R457, R469, R472, R473). -/
def Obligations.DictionaryOperationsAnswer : Prop :=
  ∀ (s : State) (p : Path) (src v : Nat) (a : Bool) (o : DictOp), s.mgmt.queue = [] → (s.comp 8).restarting = false →
    let quiet (q : DictAnswer → Prop) (c : Instr) : Prop := answers c s (fun t => t = { s with mgmt := { s.mgmt with answer := t.mgmt.answer } } ∧
      ∃ x, t.mgmt.answer = some x ∧ x.index = o.index ∧ x.sub = o.sub ∧ x.generation = s.generation o.index o.sub ∧ q x)
    let code (c : Nat) (x : DictAnswer) : Prop := x.result = c ∧ x.value = []
    let key := ekey o.index o.sub
    let staged : Bytes := match s.mgmt.parts.find? (fun x => x.1 == src && x.2.1 == key) with | some x => x.2.2 | none => []
    let others (t : State) : Prop := t.mgmt.parts.filter (fun x => !(x.1 == src && x.2.1 == key)) = s.mgmt.parts.filter (fun x => !(x.1 == src && x.2.1 == key))
    let all : List Instr := [.read p src o, .write p src o, .writeIf p src o, .readPart p src o, .writePart p src o, .describe p src o, .next p src o]
    let same (c d : Instr) : Prop := answers c s (fun t => answers d s (fun u => t = { u with mgmt := { u.mgmt with answer := t.mgmt.answer, parts := t.mgmt.parts } } ∧
      t.mgmt.answer.map (·.result) = u.mgmt.answer.map (·.result)))
    (s.powered = false ∨ s.wakeStage < 6 → ∀ c ∈ all, quiet (code 0x0C09) c) ∧
    (served s →
      (nextEntry p key = none → quiet (code 0x0C01) (.next p src o)) ∧
      (∀ n, nextEntry p key = some n → key < ekey n.1 n.2 ∧ entryOn p n.1 n.2 ≠ none ∧
        quiet (fun x => x.result = 0 ∧ x.value.length = 4 ∧ field x.value 0 2 = n.1 ∧ field x.value 2 1 = n.2) (.next p src o)) ∧
      (entryOn p o.index o.sub = none → ∀ c ∈ all.take 6, quiet (code 0x0C01) c) ∧
      (∀ e, entryOn p o.index o.sub = some e →
        let now := s.value e o.index
        (e.right = 3 → ∀ c ∈ [Instr.read p src o, .readPart p src o, .writeIf p src o], quiet (code 0x0C05) c) ∧
        (e.right ≠ 3 → e.typ = 8 → 1024 < now.length → quiet (code 0x0C0C) (.read p src o)) ∧
        (e.right ≠ 3 → (e.typ = 8 → now.length ≤ 1024) → quiet (fun x => x.result = 0 ∧ x.value = now) (.read p src o)) ∧
        (e.right ≠ 3 → e.typ ≠ 8 → quiet (code 0x0C02) (.readPart p src o)) ∧
        (e.right ≠ 3 → e.typ = 8 → o.len = 0 ∨ 1024 < o.len ∨ now.length < o.offset + o.len → quiet (code 0x0C0C) (.readPart p src o)) ∧
        (e.right ≠ 3 → e.typ = 8 → 1 ≤ o.len → o.len ≤ 1024 → o.offset + o.len ≤ now.length →
          quiet (fun x => x.result = 0 ∧ x.value = slice now o.offset o.len ∧ x.value.length = o.len) (.readPart p src o)) ∧
        quiet (fun x => x.result = 0 ∧ x.value.length = 32 ∧ field x.value 0 1 = e.typ % 256 ∧ field x.value 1 1 = e.right % 256 ∧
          (e.typ < 5 → e.right ≠ 0 → field x.value 8 8 = e.lo % 2 ^ 64 ∧ field x.value 16 8 = e.hi % 2 ^ 64 ∧ field x.value 24 8 = e.dflt % 2 ^ 64)) (.describe p src o) ∧
        (e.right = 0 → quiet (code 0x0C04) (.write p src o)) ∧
        (e.right ≠ 3 → o.value.length = 2 * e.len → now ≠ o.value.take e.len → quiet (code 0x0C0A) (.writeIf p src o)) ∧
        (e.right ≠ 3 → o.value.length = 2 * e.len → now = o.value.take e.len → same (.writeIf p src o) (.write p src { o with value := o.value.drop e.len })) ∧
        (e.right ≠ 0 → s.pathMay p o.index o.sub = true → e.typ = 8 → key ≠ ekey 0x2550 0xA →
          (o.offset ≠ staged.length → answers (.writePart p src o) s (fun t => resultIs t 0x0C0C ∧ others t ∧ (∀ x ∈ t.mgmt.parts, ¬ (x.1 = src ∧ x.2.1 = key)) ∧
            t = { s with mgmt := t.mgmt })) ∧
          (o.offset = staged.length → staged.length + o.value.length ≤ 65536 → o.last = false → answers (.writePart p src o) s (fun t => resultIs t 0 ∧ others t ∧
            t.mgmt.parts.filter (fun x => x.1 == src && x.2.1 == key) = [(src, key, staged ++ o.value)] ∧ t = { s with mgmt := t.mgmt })) ∧
          (o.offset = staged.length → staged.length + o.value.length ≤ 65536 → o.last = true → s.mgmt.parts = [] →
            same (.writePart p src o) (.write p src o)))) ∧
      (14336 ≤ v → v ≤ 15359 → v ≠ s.ent 0x2600 1 → s.ent 0x2560 1 < 65536 → answers (.write (.bus a) src { op := 2, index := 0x2560, sub := 1, value := le 2 v }) s (fun t =>
        resultIs t 0 ∧ t.ent 0x2560 1 = v ∧ entriesKept [(0x2560, 1)] s t ∧ t.generation 0x2560 1 = (s.generation 0x2560 1 + 1) % 2 ^ 32 ∧ t = { s with dict := t.dict, mgmt := t.mgmt }))) ∧
    answers (.partStagingExpiry src o.index o.sub) s (fun t => t = { s with mgmt := { s.mgmt with parts := t.mgmt.parts } } ∧ others t ∧
      ∀ x ∈ t.mgmt.parts, ¬ (x.1 = src ∧ x.2.1 = key))

/-- Management on the bus (17_object_dictionary.md R467 to R471, R474, R475). -/
def Obligations.ManagementDatagramsAreTakenInOrder : Prop :=
  ∀ (s : State) (src port : Nat) (m : Bool) (b src16 : Bytes) (r : Request) (c : Cached) (q : MgmtReq) (rest : List MgmtReq) (o : DictOp) (p : Path),
    let dg := Instr.managementDatagram src port m b
    let bus (t : State) : Prop := t = { s with dict := t.dict, mgmt := t.mgmt, pwr := t.pwr }
    let dropped (t : State) : Prop := bus t ∧ t.ent 0x1100 0xC = (s.ent 0x1100 0xC + 1) % 2 ^ 64 ∧ t.mgmt.queue = s.mgmt.queue ∧ t.mgmt.sent = s.mgmt.sent
    let find (x : Cached) : Bool := x.source == src && x.port == port && x.reqId == r.reqId
    let one (dest prt : Nat) (t : State) : Prop := ∃ d, t.mgmt.sent = s.mgmt.sent ++ [d] ∧ d.dest = dest ∧ d.port = prt
    (s.busUp = false → completes dg s s ∧ completes (.neighbourDiscovery src16) s s ∧ completes (.icmpv6Echo src16 b) s s) ∧
    (s.busUp = true →
      (b.length < 24 ∨ 1452 < b.length ∨ field b 0 2 ≠ 0x4442 ∨ field b 2 1 ≠ 1 ∨ field b 3 1 ≠ 1 ∨ field b 8 2 = 0 ∨ 64 < field b 8 2 → answers dg s dropped) ∧
      (parseRequest b = some r → s.mgmt.cache.find? find = some c → answers dg s (fun t => bus t ∧ t.mgmt = { s.mgmt with sent := s.mgmt.sent ++ [⟨src, port, c.bytes⟩] })) ∧
      (parseRequest b = some r → s.mgmt.cache.find? find = none → m = false →
        (s.passesAuth src r b = false → answers dg s (fun t => t.mgmt.queue = s.mgmt.queue ∧ workKept s t ∧ ∃ d, d ∈ t.mgmt.sent ∧ d.dest = src ∧ d.port = port ∧
          field d.bytes 3 1 = 2 ∧ field d.bytes 4 4 = r.reqId % 2 ^ 32 ∧ field d.bytes 8 2 = 0 ∧ field d.bytes 12 2 = 0x0C08)) ∧
        (s.passesAuth src r b = true → 64 ≤ s.mgmt.queue.length → answers dg s dropped) ∧
        (s.passesAuth src r b = true → s.mgmt.queue.length < 64 → answers dg s (fun t => bus t ∧ t.mgmt.sent = s.mgmt.sent ∧ t.pwr.silent = false ∧
          (r.flags.testBit 0 = true → s.wakeStage ≠ 0x31 → t.mgmt.sources.head? = some (src, r.authSeq % 2 ^ 32) ∧ t.mgmt.sources.length ≤ 256) ∧
          ∃ x, t.mgmt.queue = s.mgmt.queue ++ [x] ∧ x.source = src ∧ x.port = port ∧ x.reqId = r.reqId ∧ x.ops = r.ops ∧ x.answers = [] ∧ x.stop = r.flags.testBit 1))) ∧
      (src16.length = 16 → answers (.neighbourDiscovery src16) s (fun t => t = { s with mgmt := { s.mgmt with sent := t.mgmt.sent } } ∧ one (unle src16) 0 t) ∧
        answers (.icmpv6Echo src16 b) s (fun t => t = { s with mgmt := { s.mgmt with sent := t.mgmt.sent } } ∧
          ∃ d, t.mgmt.sent = s.mgmt.sent ++ [d] ∧ d.dest = unle src16 ∧ field d.bytes 0 1 = 129 ∧ d.bytes.drop 4 = b))) ∧
    (s.mgmt.queue = q :: rest → (s.comp 8).restarting = false →
      (q.answers ≠ [] → ¬ (q.path = p ∧ q.source = src ∧ q.ops[q.answers.length]? = some { o with op := 1 }) → completes (.read p src o) s s) ∧
      (q.path = p → q.source = src → q.ops[q.answers.length]? = some { o with op := 1 } →
        (q.answers.length + 1 < q.ops.length → ∃ t x, exec (.read p src o) s = .next t ∧ t.mgmt.answer = some x ∧ x.op = 1 ∧ x.index = o.index ∧ x.sub = o.sub ∧
          (q.stop = false ∨ x.result = 0 → x.result ≠ 0x0C0D → t = { s with mgmt := { s.mgmt with answer := some x, queue := { q with answers := q.answers ++ [x] } :: rest } }) ∧
          (q.stop = true → x.result ≠ 0 → t.mgmt.queue = rest)) ∧
        (q.answers.length + 1 = q.ops.length → answers (.read p src o) s (fun t => t.mgmt.queue = rest ∧ t.ent 0x1100 0xB = (s.ent 0x1100 0xB + 1) % 2 ^ 64 ∧ workKept s t ∧
          ((∃ a, p = .bus a) → ∃ d, t.mgmt.sent = s.mgmt.sent ++ [d] ∧ d.dest = src ∧ d.port = q.port ∧ field d.bytes 0 2 = 0x4442 ∧ field d.bytes 3 1 = 2 ∧
            field d.bytes 4 4 = q.reqId % 2 ^ 32 ∧ field d.bytes 12 2 = 0 ∧ ∃ y, t.mgmt.cache.getLast? = some y ∧ y.source = src ∧ y.port = q.port ∧ y.reqId = q.reqId ∧ y.bytes = d.bytes))))) ∧
    answers (.responseCacheExpiry src port) s (fun t => t = { s with mgmt := { s.mgmt with cache := t.mgmt.cache } } ∧
      ∀ x, x ∈ t.mgmt.cache ↔ x ∈ s.mgmt.cache ∧ ¬ (x.source = src ∧ x.reqId = port)) ∧
    (s.powered = false ∨ s.wakeStage < 2 → completes .presenceNotice s s) ∧
    (s.powered = true → 2 ≤ s.wakeStage → answers .presenceNotice s (fun t => t.mgmt.noticeSeq = (s.mgmt.noticeSeq + 1) % 2 ^ 32 ∧ t = { s with dict := t.dict, mgmt := t.mgmt } ∧
      (let full := 100 ≤ s.mgmt.noticeNow ∧ s.mgmt.noticeSecond = s.now / ticksPerSec
       (full ∨ s.mgmt.stopped = true → t.mgmt.sent = s.mgmt.sent ∧ t.ent 0x1100 0xD = (s.ent 0x1100 0xD + 1) % 2 ^ 64) ∧
       (¬ full → s.mgmt.stopped = false → ∃ d, t.mgmt.sent = s.mgmt.sent ++ [d] ∧ field d.bytes 3 1 = 3 ∧ field d.bytes 4 4 = t.mgmt.noticeSeq ∧ field d.bytes 24 1 = 1 ∧
         field d.bytes 28 1 = s.moduleIndex % 256 ∧ field d.bytes 29 1 = s.wakeStage % 256)))) ∧
    (s.powered = true → s.mgmt.stopped = false → answers .duplicateAddress s (fun t => t.mgmt.stopped = true ∧ t.busUp = false ∧ logged t 0x2104 ∧ workKept s t)) ∧
    (s.mgmt.stopped = true → completes .duplicateAddress s s)

/-- The journal (18_transcript.md R484 to R493, R499, R500). -/
def Obligations.JournalCommitsInBothCopies : Prop :=
  ∀ (s : State) (kind key bad k2 key2 c off : Nat) (body : Bytes) (q : JSub) (rest : List JSub) (x : JRec) (todo : List JRec) (temps : List Int),
    let n := jRecLen body.length
    let waits := Instr.journalSubmit kind key body
    let g := s.tr.segment
    let seg (l : List (List JSlot)) (i : Nat) : List JSlot := l.getD i []
    let oldKept (t : State) : Prop := workKept s t ∧ seg t.tr.copyA g = seg s.tr.copyA g ∧ seg t.tr.copyB g = seg s.tr.copyB g
    (kind = 0 ∨ 12 < kind ∨ 4060 < body.length → completes waits s s) ∧
    (1 ≤ kind → kind ≤ 12 → body.length ≤ 4060 → key < 2 ^ 64 →
      (queueBytes s.tr.queue + n ≤ 3145728 → completes waits s { s with tr := { s.tr with queue := s.tr.queue ++ [{ kind, key, body }] } }) ∧
      (3145728 < queueBytes s.tr.queue + n →
        (kind ∈ [5, 6, 7] → answers waits s (fun t => t.ent 0x2700 9 = (s.ent 0x2700 9 + 1) % 2 ^ 64 ∧ t.tr = s.tr ∧ workKept s t ∧ (sget 0 s.flt.lastLogged 0x2206 = 0 → logged t 0x2206))) ∧
        (kind ∉ [5, 6, 7] → completes waits s s))) ∧
    (s.tr.queue = [] ∨ s.tr.up = false ∨ s.pwr.save ≠ none → completes (.journalWrite bad) s s) ∧
    (s.tr.queue = q :: rest → segmentLen < s.tr.fill + jRecLen q.body.length → completes (.journalWrite bad) s s) ∧
    (s.tr.queue = q :: rest → s.tr.up = true → s.pwr.save = none → 5 ≤ q.kind → q.body.length ≤ 4060 → (∀ y ∈ seg s.tr.copyA g, y.off < s.tr.fill ∧ y.record.seq < s.tr.nextSeq) →
      (∀ y ∈ seg s.tr.copyB g, y.off < s.tr.fill) → g < s.tr.copyA.length → g < s.tr.copyB.length →
      let w := jRecLen q.body.length
      let r : JRec := { kind := q.kind, flags := if q.replayed then 2 else 0, seq := s.tr.nextSeq, key := q.key, body := q.body }
      (bad ≤ 3 → s.tr.fill + (bad + 1) * w ≤ segmentLen → answers (.journalWrite bad) s (fun t => workKept s t ∧ t.tr.queue = rest ∧ t.tr.nextSeq = s.tr.nextSeq + 1 ∧
        t.tr.fill = s.tr.fill + (bad + 1) * w ∧ { off := s.tr.fill + bad * w, record := r } ∈ seg t.tr.copyA g ∧
        seg t.tr.copyB g = seg s.tr.copyB g ++ [{ off := s.tr.fill + bad * w, record := r }] ∧ t.fact q.kind q.key = some r ∧
        ((k2, key2) ≠ (q.kind, q.key) → t.fact k2 key2 = s.fact k2 key2))) ∧
      (3 < bad → s.tr.fill + 4 * w ≤ segmentLen → answers (.journalWrite bad) s (fun t => workKept s t ∧ t.tr.queue = rest ∧ seg t.tr.copyB g = seg s.tr.copyB g ∧
        t.fact k2 key2 = s.fact k2 key2))) ∧
    (s.tr.up = false → completes .compactionSlice s s) ∧
    (s.tr.up = true →
      answers .compactionSlice s oldKept ∧
      (s.tr.compact = none → s.tr.fill + 1310720 ≤ segmentLen → completes .compactionSlice s s) ∧
      (s.tr.compact = none → s.tr.fill ≤ segmentLen → segmentLen < s.tr.fill + 1310720 → answers .compactionSlice s (fun t => seg t.tr.copyA (1 - g) = [] ∧ seg t.tr.copyB (1 - g) = [] ∧
        t.tr.compact = some (s.tr.nextSeq - 1, checkpointOf s.records, 0))) ∧
      (s.tr.compact = some (c, x :: todo, off) → answers .compactionSlice s (fun t => ∃ done_, t.tr.compact = some (c, (x :: todo).drop 100, done_) ∧ off < done_ ∧ t.tr.segment = g)) ∧
      (s.tr.compact = some (c, [], off) → s.tr.anchors.length = 2 → answers .compactionSlice s (fun t => t.tr.segment = 1 - g ∧ t.tr.compact = none ∧ t.tr.nextSeq = s.tr.nextSeq ∧
        ∃ i a, t.governing = some (i, a) ∧ a.segment = 1 - g ∧ a.seqFloor = s.tr.nextSeq ∧ a.ckptLen = off))) ∧
    (s.tr.up = false ∨ s.pwr.save ≠ none → completes .scrub s s) ∧
    (s.tr.up = true → s.pwr.save = none → answers .scrub s (fun t => workKept s t ∧ field (t.blob 0x2700 0xB) 0 8 = s.now % 2 ^ 64 ∧
      (g < s.tr.copyA.length → g < s.tr.copyB.length → ∃ good stop, seg t.tr.copyA g = good ++ (seg s.tr.copyA g).filter (fun y => decide (stop ≤ y.off)) ∧
        seg t.tr.copyB g = good ++ (seg s.tr.copyB g).filter (fun y => decide (stop ≤ y.off)) ∧ ∀ y ∈ good, y.whole = true))) ∧
    (s.tr.up = false → completes (.wearUpdate temps) s s) ∧
    (s.tr.up = true → temps.length = 37 → answers (.wearUpdate temps) s (fun t => workKept s t ∧
      (∀ u ∈ wearUnits, (sget {} t.tr.wear u).hours = (sget ({} : WearSt) s.tr.wear u).hours + 1) ∧ (∀ u, u ∉ wearUnits → sget {} t.tr.wear u = sget ({} : WearSt) s.tr.wear u) ∧
      (∀ d, d < 25 → t.ent (0x3000 + d) 0xD = (sget ({} : WearSt) s.tr.wear d).hours + 1) ∧
      (s.tr.queue = [] → 3 ≤ s.proctors.length → t.tr.queue.length = 37 ∧ ∀ y ∈ t.tr.queue, y.kind = 7 ∧ y.body.length = 48)))

/-- A failed fetch and what follows it (19_host_interface.md R515). -/
def Obligations.FailedFetchStopsItsRing : Prop :=
  ∀ (s : State) (k fn : Nat) (v : Word64) (entry data : Option Bytes) (bufs : List (Nat × Option Bytes)) (pr : List (Nat × Nat)), k < 16384 → fn < 2 →
    let r := s.ring k
    let x := v.toNat
    let named (e : Bytes) : Prop := field (padTo 64 e) 8 8 ≠ 0 ∧ 1 ≤ field (padTo 64 e) 0x10 4 ∧ field (padTo 64 e) 0x10 4 ≤ 268435456
    (s.mayFetch k = true → entry = none ∨ (∃ e, entry = some e ∧ named e ∧ data = none) →
      answers (.submissionFetch k entry data bufs pr) s (fun t =>
        t.ring k = { r with error := true, enable := false } ∧ (∀ q, (s.ring q).kind = 3 → t.ring q = s.ring q) ∧
        t.host.heldDone = s.host.heldDone ∧ t.host.answer = s.host.answer ∧ logged t 0x2301 ∧ workKept s t)) ∧
    (let put : State := s.onRing k (fun q => { q with
        kind := bits x 7 0, sizeLog2 := bits x 12 8, link := bits x 13 13, irq := x.testBit 15, vector := bits x 25 16, cq := bits x 45 32 })
     (s.fn fn).up = true → r.enable = false → x.testBit 14 = true → put.enableReason k (put.ring k) = 0 →
      answers (.ringContextWrite fn k 2 v) s (fun t => (t.ring k).enable = true ∧ (t.ring k).cons = r.cons ∧ (t.ring k).prod = r.prod ∧
        (t.ring k).base = r.base ∧ ∀ q, q ≠ k → t.ring q = s.ring q))

/-- Rings and aperture (19_host_interface.md R506 to R515, R517 to R521; 06_memory_tiers.md R154). -/
def Obligations.HostRingsAndTheAperture : Prop :=
  ∀ (s : State) (fn k w off n c : Nat) (v : Word64) (e b : Bytes) (d : Option Bytes) (bufs : List (Nat × Option Bytes)) (pr : List (Nat × Nat)), fn < 2 → k < 16384 →
    let r := s.ring k
    let x := v.toNat
    let lone (g : Ring → Ring) : State := s.onRing k g
    ((s.fn fn).up = false → completes (.doorbell fn k c) s s ∧ completes (.ringContextWrite fn k w v) s s ∧ completes (.apertureBaseWrite fn v) s s ∧
      (off < 2 ^ 37 → completes (.apertureRead fn off n) s s ∧ completes (.apertureWrite fn off b) s s)) ∧
    (r.enable = false ∨ s.mayFetch k = false → completes (.submissionFetch k (some e) d bufs pr) s s) ∧
    (r.enable = false ∨ r.irq = false ∨ r.unsignalled = 0 → completes (.coalesceTimeout k) s s) ∧
    (r.enable = true → r.irq = true → 0 < r.unsignalled → answers (.coalesceTimeout k) s (fun t => (t.ring k) = { r with unsignalled := 0 } ∧ t = { s with host := t.host } ∧
      (msixWord (s.fn r.link) (4 * r.vector + 3) % 2 = 0 → t.host.signals = s.host.signals ++ [(r.link, r.vector)]) ∧
      (msixWord (s.fn r.link) (4 * r.vector + 3) % 2 = 1 → t.host.signals = s.host.signals ∧ r.vector ∈ (t.fn r.link).pendingBits))) ∧
    ((s.fn fn).up = true →
      (let y := c % 2 ^ 32
       let ahead := (y + 2 ^ 32 - r.cons) % 2 ^ 32
       let behind := (r.prod + 2 ^ 32 - y) % 2 ^ 32
       (r.enable = true → r.kind = 2 → ringHeld r ≤ ahead → ahead ≤ 2 ^ r.sizeLog2 → completes (.doorbell fn k c) s (lone (fun q => { q with prod := y }))) ∧
       (r.enable = true → r.kind ≠ 2 → behind ≤ ringHeld r → completes (.doorbell fn k c) s (lone (fun q => { q with cons := y }))) ∧
       (r.enable = false ∨ (r.kind = 2 ∧ (ahead < ringHeld r ∨ 2 ^ r.sizeLog2 < ahead)) ∨ (r.kind ≠ 2 ∧ ringHeld r < behind) → answers (.doorbell fn k c) s (fun t =>
         (t.ring k).cons = r.cons ∧ (r.kind ≠ 4 → (t.ring k).prod = r.prod ∨ r.kind = 5) ∧ logged t 0x2304 ∧ workKept s t))) ∧
      (let put (q : Ring) : Ring := { q with kind := bits x 7 0, sizeLog2 := bits x 12 8, link := bits x 13 13, irq := x.testBit 15, vector := bits x 25 16, cq := bits x 45 32 }
       let cmd := Instr.ringContextWrite fn k
       (r.enable = false → completes (cmd 0 v) s (lone (fun q => { q with base := x })) ∧ completes (cmd 1 v) s (lone (fun q => { q with shadow := x })) ∧
         completes (cmd 3 v) s (lone (fun q => { q with prod := x % 2 ^ 32, cons := x / 2 ^ 32 })) ∧ (x.testBit 14 = false → completes (cmd 2 v) s (lone put)) ∧
         (x.testBit 14 = true → ((lone put).enableReason k (put r) = 0 → completes (cmd 2 v) s (lone (fun q => { put q with enable := true, unsignalled := 0, gap := false }))) ∧
           ((lone put).enableReason k (put r) ≠ 0 → answers (cmd 2 v) s (fun t => (t.ring k).enable = false ∧ (t.fn fn).errReason = (lone put).enableReason k (put r) ∧
             (t.fn fn).errRing = k ∧ (t.fn fn).errValid = true ∧ logged t 0x2302 ∧ workKept s t)) ∧
           (bits x 7 0 ∉ kindsOf k → (lone put).enableReason k (put r) = 1) ∧
           (k < 12288 → bits x 7 0 = 1 → 6 ≤ bits x 12 8 → bits x 12 8 ≤ 20 → bits x 13 13 = 0 → r.base % 64 = 0 → r.shadow % 8 = 0 → r.coalCount = 0 → r.coalTime = 0 →
             (lone put).enableReason k (put r) = 0))) ∧
       (r.enable = true → (∀ i ∈ [0, 1, 3, 5, 6, 7], answers (cmd i v) s (fun t => t = { s with host := { s.host with rings := t.host.rings } } ∧ ∀ j, t.ring j = s.ring j)) ∧
         (let few (q : Ring) : Ring := { q with irq := x.testBit 15, vector := bits x 25 16 }
          (x.testBit 14 = true → completes (cmd 2 v) s (lone few)) ∧
          (x.testBit 14 = false → r.kind = 2 ∨ (r.kind = 1 ∧ r.assigned = none) → completes (cmd 2 v) s (lone (fun q => { few q with enable := false }))) ∧
          (x.testBit 14 = false → r.kind = 1 → r.assigned ≠ none → answers (cmd 2 v) s (fun t => t.ring k = few r ∧ (t.fn fn).errReason = 7 ∧ logged t 0x2302))))) ∧
      completes (.apertureBaseWrite fn v) s (s.onFn fn (fun q => { q with apertureBase := bits x 48 30 * 2 ^ 30 })) ∧
      (let a := (s.fn fn).apertureBase + off
       let page := s.page (offPage a)
       off < 2 ^ 37 → a < 2 ^ 48 → 1 ≤ n → a % 4096 + n ≤ 4096 → b.length = n → page.holder ≠ 0x3FF2 →
         (page.state ≠ .free → s.mem.failedGranules = [] → s.mem.late = [] → answers (.apertureRead fn off n) s (fun t => t = { s with host := t.host, free := t.free } ∧ t.host.answer = getBytes s.mem.bytes a n ∧
           t.host.answerEp.length = (a % 64 + n + 63) / 64)) ∧
         (page.state = .free → answers (.apertureRead fn off n) s (fun t => t.mem = s.mem ∧ t.host.answer = List.replicate n 0xFF#8 ∧ (∀ p ∈ t.host.answerEp, p = true) ∧ logged t 0x1608) ∧
           answers (.apertureWrite fn off b) s (fun t => workKept s t ∧ logged t 0x1608)) ∧
         (page.state = .owned → s.mem.waitingWrites = [] → answers (.apertureWrite fn off b) s (fun t => t = { s with mem := t.mem } ∧
           getBytes t.mem.bytes a n = b ∧ outside a n s.mem.bytes t.mem.bytes ∧ (t.page (offPage a)).state = .owned)) ∧
         (page.state = .sealed → (s.inst (pageInst (offPage a))).bind.state = .serving → answers (.apertureWrite fn off b) s (fun t => workKept s t ∧ logged t 0x1606)) ∧
         (page.state = .sealed → (s.inst (pageInst (offPage a))).bind.state ≠ .serving → page.refs ≤ 1 → page.tier = .hbm → s.mem.waitingWrites = [] → answers (.apertureWrite fn off b) s (fun t =>
           t = { s with mem := t.mem } ∧ getBytes t.mem.bytes a n = b ∧ outside a n s.mem.bytes t.mem.bytes ∧ (t.page (offPage a)).state = .owned)))) ∧
    (s.mayFetch k = true →
      (e.length = 64 → field e 8 8 = 0 → r.cq ≠ k →
        (opcodeRow (field e 0 2) = none → answers (.submissionFetch k (some e) d bufs pr) s (fun t => workKept s t ∧ (t.ring k).cons = (r.cons + 1) % 2 ^ 32 ∧ (t.ring k).prod = r.prod ∧
          field t.host.answer 0 4 = field e 4 4 ∧ field t.host.answer 6 2 = 0x1001)) ∧
        (s.fw.negotiated = false → opcodeRow (field e 0 2) ≠ none → field e 0 2 ≠ 1 → answers (.submissionFetch k (some e) d bufs pr) s (fun t => workKept s t ∧
          (t.ring k).cons = (r.cons + 1) % 2 ^ 32 ∧ field t.host.answer 6 2 = 0x0E07))))

/-- Negotiation, the debug lock, SPDM, the session and IDE (14_firmware.md R399, R415; 19_host_interface.md R525 to R527). The
SPDM message codes and the order of its states are the model's, from the DMTF's specification (log entry 45). -/
def Obligations.NegotiationSessionsAndTheDebugLock : Prop :=
  ∀ (s : State) (fn major minor features k slot index ver : Nat) (ok : Bool) (token key b e : Bytes) (ref : CmdRef) (bufs : List (Nat × Option Bytes)) (pr : List (Nat × Nat)) (r : Request),
    k < 64 → fn < 2 → ref.fn < 2 →
    let link := if ref.secured then ref.fn else (s.ring ref.sq).link
    let x := s.fn fn
    let same (t : State) : Prop := t = { s with host := { s.host with fns := t.host.fns }, free := t.free } ∧ (t.fn (1 - fn)) = s.fn (1 - fn) ∧ (t.fn fn).up = x.up
    let said (code spdm : Nat) (session : Bool) (t : State) : Prop := same t ∧ (t.fn fn).spdm = spdm ∧ (t.fn fn).session = session ∧ field (t.fn fn).answer 1 1 = code
    let stays (code : Nat) : State → Prop := said code x.spdm x.session
    let refused (c : Instr) : Prop := answers c s (fun t => (t.fn fn).spdm = x.spdm ∧ (t.fn fn).session = x.session ∧ (t.fn fn).ideKeys = x.ideKeys ∧
      field (t.fn fn).answer 1 1 = 0x7F ∧ t.fw.debugOpen = s.fw.debugOpen ∧ t.mgmt.queue = s.mgmt.queue ∧ workKept s t)
    let vendor (p : Bytes) := Instr.vendorDefinedRequest fn true p bufs pr
    (major ≠ 1 → completes (.negotiate major minor features ref) s (s.complete ref 0x0E07)) ∧
    answers (.negotiate 1 minor features ref) s (fun t => t = { s with fw := t.fw, host := t.host } ∧ t.fw.negotiated = true ∧ field t.host.answer 6 2 = 0 ∧
      (t.fw.granted.testBit k = true ↔ features.testBit k = true ∧ k < 12 ∧ (k = 9 → s.library = true) ∧ (k = 8 → (s.fn link).session = true) ∧
        (s.ent 0x2500 6 = 1 → k ∈ [0, 1, 2, 6, 9, 10, 11]))) ∧
    (ref.secured = false → completes (.debugUnlock token ref) s (s.complete ref 0x1004)) ∧
    (ref.secured = true → answers (.debugUnlock token ref) s (fun t => (Config.tokenHolds token = false → t = s.complete ref 0x1002) ∧
      (Config.tokenHolds token = true → t.fw.debugOpen = true ∧
        (s.busy ≠ [] → ∀ d, d < 16 → t.flt.fenced.testBit d = true) ∧ (s.busy = [] → t = { s with fw := { s.fw with debugOpen := true }, host := t.host })))) ∧
    answers (.debugLock ref) s (fun t => t = { s with fw := { s.fw with debugOpen := false }, host := t.host } ∧ field t.host.answer 6 2 = 0) ∧
    (s.doeUp fn = false → ∀ c ∈ [Instr.getVersion fn, .getCapabilities fn ver, .negotiateAlgorithms fn ok, .getDigests fn, .getCertificate fn slot, .challenge fn slot,
      .getMeasurements fn index, .keyExchange fn, .finish fn ok, .keyUpdate fn, .spdmHeartbeat fn, .endSession fn, vendor b, .ideKm fn key], completes c s s) ∧
    (s.doeUp fn = true →
      answers (.getVersion fn) s (said 0x04 (if x.session then x.spdm else 1) x.session) ∧
      (x.spdm = 1 → (ver = 0x12 ∨ ver = 0x13) → answers (.getCapabilities fn ver) s (fun t => said 0x61 2 x.session t ∧ (t.fn fn).spdmVersion = ver)) ∧
      (x.spdm ≠ 1 ∨ (ver ≠ 0x12 ∧ ver ≠ 0x13) → refused (.getCapabilities fn ver)) ∧
      (x.spdm = 2 → answers (.negotiateAlgorithms fn true) s (said 0x63 3 x.session)) ∧ (x.spdm ≠ 2 ∨ ok = false → refused (.negotiateAlgorithms fn ok)) ∧
      (3 ≤ x.spdm → answers (.getDigests fn) s (stays 0x01)) ∧
      (3 ≤ x.spdm → slot < 2 → answers (.getCertificate fn slot) s (stays 0x02) ∧ answers (.challenge fn slot) s (stays 0x03)) ∧
      (3 ≤ x.spdm → index = 0x22 → answers (.getMeasurements fn index) s (fun t => stays 0x60 t ∧ field (t.fn fn).answer 4 1 = 0x22 ∧ field (t.fn fn).answer 5 1 = bitOf s.fw.debugOpen)) ∧
      (3 ≤ x.spdm → index ∈ measurementIndices → answers (.getMeasurements fn index) s (stays 0x60)) ∧
      (x.spdm < 3 → ∀ c ∈ [Instr.getDigests fn, .getCertificate fn slot, .challenge fn slot, .getMeasurements fn index], refused c) ∧
      (2 ≤ slot → refused (.getCertificate fn slot) ∧ refused (.challenge fn slot)) ∧
      (x.spdm = 3 → x.session = false → answers (.keyExchange fn) s (said 0x64 4 false)) ∧ (x.spdm ≠ 3 ∨ x.session = true → refused (.keyExchange fn)) ∧
      (x.spdm = 4 → x.session = false → answers (.finish fn true) s (said 0x65 4 true)) ∧ (x.spdm ≠ 4 ∨ x.session = true → refused (.finish fn ok)) ∧
      (x.spdm = 4 → x.session = false → answers (.finish fn false) s (fun t => (t.fn fn).session = false ∧ (t.fn fn).spdm = 3 ∧ workKept s t)) ∧
      (x.session = true → answers (.keyUpdate fn) s (fun t => stays 0x69 t ∧ (t.fn fn).keyGen = x.keyGen + 1) ∧ answers (.spdmHeartbeat fn) s (stays 0x68) ∧
        answers (.endSession fn) s (said 0x6C 3 false) ∧
        (field b 0 1 = 1 → answers (vendor b) s (fun t => completes (.secureCommand fn (slice b 1 64) (b.drop 65) bufs pr) s t)) ∧
        (field b 0 1 = 2 → answers (vendor b) s (fun t => completes (.secureMirror fn (b.drop 1)) s t)) ∧
        (s.fw.granted.testBit 8 = true → key.length = 32 → answers (.ideKm fn key) s (fun t => same t ∧ t.fn fn = { x with ideKeys := some key, ideSecure := true })) ∧
        (s.fw.granted.testBit 8 = false ∨ key.length ≠ 32 → refused (.ideKm fn key))) ∧
      (x.session = false → ∀ c ∈ [Instr.keyUpdate fn, .spdmHeartbeat fn, .endSession fn, vendor b, .ideKm fn key], refused c)) ∧
    (x.session = false → completes (.secureCommand fn e b bufs pr) s s ∧ completes (.secureMirror fn b) s s) ∧
    (x.session = true → e.length = 64 → s.fw.negotiated = true → field e 0 2 = 0x0602 → (∀ i, 2 ≤ i → i < 64 → i < 4 ∨ 8 ≤ i → e.getD i 0 = 0) →
      answers (.secureCommand fn e [] bufs pr) s (fun t => t.fw.debugOpen = false ∧ t = { s with fw := t.fw, host := t.host } ∧
        field (t.fn fn).answer 0 4 = field e 4 4 ∧ field (t.fn fn).answer 6 2 = 0 ∧ field (t.fn fn).answer 8 2 = 0x0602)) ∧
    (x.session = true → (s.comp 8).restarting = false → parseRequest b = some r → b.length ≤ 1452 → r.flags.testBit 0 = false → r.authSeq = 0 →
      (s.fw.granted.testBit 1 = true → answers (.secureMirror fn b) s (fun t => t = { s with mgmt := { s.mgmt with queue := t.mgmt.queue } } ∧
        t.mgmt.queue.length = s.mgmt.queue.length + 1 ∧ ∃ q ∈ t.mgmt.queue, q.path = .secured fn ∧ q.reqId = r.reqId ∧ q.ops = r.ops ∧ q.answers = [])) ∧
      (s.fw.granted.testBit 1 = false → answers (.secureMirror fn b) s (fun t => t.mgmt = s.mgmt ∧ field (t.fn fn).answer 12 2 = 0x0C07))) ∧
    (x.ideSecure = false → completes (.ideStreamFailed fn) s s) ∧
    (x.ideSecure = true → answers (.ideStreamFailed fn) s (fun t => (t.fn fn).ideSecure = false ∧ (t.fn fn).up = false ∧ t.mem = s.mem ∧ (s.insts = [] → logged t 0x2306)))

/-- What reset leaves (03_cores_and_slates.md R97; 06_memory_tiers.md R167), and the canonical form of memory there. -/
def Obligations.ResetMemoryIsCanonical : Prop :=
  let s := State.reset
  Memory.wf s.mem.bytes = true ∧ s.pending = [] ∧ (∀ p, (s.page p).state = .free) ∧
  ∀ c, let k := s.core c
    k.run = false ∧ k.fenced = false ∧ k.release = false ∧ k.switchClear = false ∧ k.instValid = false ∧ k.inst = 0 ∧ k.epoch = 0 ∧
    k.seqRunning = false ∧ k.seqWait = .none ∧ k.loadWait = .none ∧ k.mathWait = .none ∧ k.storeWait = .none ∧
    k.loadQ = [] ∧ k.mathQ = [] ∧ k.storeQ = [] ∧ k.waitLimit = 0xFFFF ∧ k.faultCause = 0 ∧ k.faultOwner = 0x3FFF ∧ k.faultSlot = 0 ∧
    k.staleCount = 0 ∧ k.arrivalPoison = 0 ∧ (∀ n, k.count n = 0) ∧ k.conflictEnable = true ∧ k.portMask = 0xFF ∧
    (∀ b, sget 0 k.conflict b = 0) ∧ ∀ i, k.slot i = { tag := .empty, filling := false, owner := 0x3FFF }

/-- The canonical form of memory is an invariant of every step. -/
def Obligations.StepsKeepMemoryCanonical : Prop := kept (fun s => Memory.wf s.mem.bytes = true)

/-- Reading is the inverse of the layout of 17_object_dictionary.md R468 and R469, and refuses lengths that disagree. -/
def Obligations.ManagementRequestsRoundTrip : Prop :=
  ∀ (r : Request) (tag : Bytes), requestFits r tag →
    parseRequest (requestBytes 0x4442 1 1 r tag) = some r ∧
    (∀ x : Bytes, x ≠ [] → parseRequest (requestBytes 0x4442 1 1 r tag ++ x) = none) ∧
    (∀ n, n < (requestBytes 0x4442 1 1 r tag).length → parseRequest ((requestBytes 0x4442 1 1 r tag).take n) = none) ∧
    (∀ magic version kind, magic < 2 ^ 16 → version < 2 ^ 8 → kind < 2 ^ 8 → (magic, version, kind) ≠ (0x4442, 1, 1) →
      parseRequest (requestBytes magic version kind r tag) = none)
end

