-- ==== Sys2Proof/Laws/Ops.lean ====
section
/-! SUPPORT. What the operations over sparse tables, memory and the parts of the state do: read after write, the
canonical form, and the lookups of an updated state. -/

namespace Sys2Proof.Machine

variable {α : Type}

/-! ## Lookup in a sparse table -/

@[simp] theorem sget_nil (d : α) (k : Nat) : sget d ([] : Sparse α) k = d := rfl

theorem sget_sins_same (d : α) (m : Sparse α) (k : Nat) (v : α) : sget d (sins m k v) k = v := by
  induction m with
  | nil => simp [sins, sget]
  | cons a r ih =>
    obtain ⟨j, w⟩ := a
    unfold sins
    split
    · simp [sget]
    · split
      · simp [sget]
      · simp [sget, ih, Ne.symm ‹¬k = j›]

theorem sget_sins_other (d : α) (m : Sparse α) (k k' : Nat) (v : α) (h : k' ≠ k) : sget d (sins m k v) k' = sget d m k' := by
  induction m with
  | nil => simp [sins, sget, h.symm]
  | cons a r ih =>
    obtain ⟨j, w⟩ := a
    unfold sins
    split
    · simp [sget, h.symm]
    · split
      · subst_vars; simp [sget, h.symm]
      · simp only [sget, ih]

theorem sget_serase_same (d : α) (m : Sparse α) (k : Nat) : sget d (serase m k) k = d := by
  induction m with
  | nil => rfl
  | cons a r ih =>
    obtain ⟨j, w⟩ := a
    by_cases h : j = k
    · subst h; simpa [serase] using ih
    · have : serase ((j, w) :: r) k = (j, w) :: serase r k := by simp [serase, h]
      simp [this, sget, h, ih]

theorem sget_serase_other (d : α) (m : Sparse α) (k k' : Nat) (h : k' ≠ k) : sget d (serase m k) k' = sget d m k' := by
  induction m with
  | nil => rfl
  | cons a r ih =>
    obtain ⟨j, w⟩ := a
    by_cases hj : j = k
    · subst hj
      have : serase ((j, w) :: r) j = serase r j := by simp [serase]
      simp [this, sget, h.symm, ih]
    · have : serase ((j, w) :: r) k = (j, w) :: serase r k := by simp [serase, hj]
      simp [this, sget, ih]

/-- A read of a table after a write gives the value written. -/
@[simp] theorem sget_sset_same [DecidableEq α] (d : α) (m : Sparse α) (k : Nat) (v : α) : sget d (sset d m k v) k = v := by
  unfold sset
  split
  · rw [sget_serase_same]; exact Eq.symm ‹_›
  · exact sget_sins_same d m k v

/-- A write leaves every other key alone. -/
theorem sget_sset_other [DecidableEq α] (d : α) (m : Sparse α) (k k' : Nat) (v : α) (h : k' ≠ k) :
    sget d (sset d m k v) k' = sget d m k' := by
  unfold sset
  split
  · exact sget_serase_other d m k k' h
  · exact sget_sins_other d m k k' v h

@[simp] theorem sget_supd_same [DecidableEq α] (d : α) (m : Sparse α) (k : Nat) (f : α → α) :
    sget d (supd d m k f) k = f (sget d m k) := sget_sset_same d m k _

theorem sget_supd_other [DecidableEq α] (d : α) (m : Sparse α) (k k' : Nat) (f : α → α) (h : k' ≠ k) :
    sget d (supd d m k f) k' = sget d m k' := sget_sset_other d m k k' _ h

/-! ## The canonical form of a table -/

theorem rising_cons (a : Nat × α) (m : Sparse α) : rising (a :: m) = true ↔ (∀ b ∈ m.head?, a.1 < b.1) ∧ rising m = true := by
  cases m <;> simp [rising]

theorem rising_iff_pairwise (m : Sparse α) : rising m = true ↔ m.Pairwise (fun a b => a.1 < b.1) := by
  induction m with
  | nil => simp [rising]
  | cons a r ih =>
    cases r with
    | nil => simp [rising]
    | cons b r =>
      rw [rising_cons, ih, List.pairwise_cons]
      simp only [List.head?_cons, Option.mem_def, Option.some.injEq, forall_eq', List.mem_cons, forall_eq_or_imp,
        List.pairwise_cons]
      constructor
      · rintro ⟨hab, hb, hr⟩
        exact ⟨⟨hab, fun c hc => Nat.lt_trans hab (hb c hc)⟩, hb, hr⟩
      · rintro ⟨⟨hab, -⟩, hb, hr⟩
        exact ⟨hab, hb, hr⟩

/-- A filtered table stays canonical. -/
theorem Sparse.wf_filter [DecidableEq α] (d : α) (p : Nat × α → Bool) (m : Sparse α) (h : Sparse.wf d m = true) :
    Sparse.wf d (m.filter p) = true := by
  simp only [Sparse.wf, Bool.and_eq_true, rising_iff_pairwise, List.all_eq_true] at h ⊢
  exact ⟨h.1.filter p, fun e he => h.2 e (List.mem_filter.mp he).1⟩

theorem mem_sins (m : Sparse α) (k : Nat) (v : α) (e : Nat × α) (h : e ∈ sins m k v) : e = (k, v) ∨ e ∈ m := by
  induction m with
  | nil => simpa [sins] using h
  | cons a r ih =>
    obtain ⟨j, w⟩ := a
    unfold sins at h
    split at h
    · simpa using h
    · split at h
      · rcases List.mem_cons.mp h with h | h
        · exact .inl h
        · exact .inr (List.mem_cons_of_mem _ h)
      · rcases List.mem_cons.mp h with h | h
        · exact .inr (h ▸ List.mem_cons_self)
        · rcases ih h with h | h
          · exact .inl h
          · exact .inr (List.mem_cons_of_mem _ h)

theorem sins_pairwise (m : Sparse α) (k : Nat) (v : α) (h : m.Pairwise (fun a b => a.1 < b.1)) :
    (sins m k v).Pairwise (fun a b => a.1 < b.1) := by
  induction m with
  | nil => simp [sins]
  | cons a r ih =>
    obtain ⟨j, w⟩ := a
    obtain ⟨ha, hr⟩ := List.pairwise_cons.mp h
    unfold sins
    split
    · refine List.pairwise_cons.mpr ⟨fun b hb => ?_, h⟩
      rcases List.mem_cons.mp hb with hb | hb
      · subst hb; assumption
      · exact Nat.lt_trans ‹k < j› (ha b hb)
    · split
      · subst_vars; exact List.pairwise_cons.mpr ⟨ha, hr⟩
      · refine List.pairwise_cons.mpr ⟨fun b hb => ?_, ih hr⟩
        rcases mem_sins r k v b hb with hb | hb
        · subst hb; show j < k; omega
        · exact ha b hb

/-- A write keeps the canonical form. -/
theorem Sparse.wf_sset [DecidableEq α] (d : α) (m : Sparse α) (k : Nat) (v : α) (h : Sparse.wf d m = true) :
    Sparse.wf d (sset d m k v) = true := by
  unfold sset
  split
  · exact Sparse.wf_filter d _ m h
  · simp only [Sparse.wf, Bool.and_eq_true, rising_iff_pairwise, List.all_eq_true] at h ⊢
    refine ⟨sins_pairwise m k v h.1, fun e he => ?_⟩
    rcases mem_sins m k v e he with he | he
    · subst he; simpa using ‹¬v = d›
    · exact h.2 e he

theorem Sparse.wf_supd [DecidableEq α] (d : α) (m : Sparse α) (k : Nat) (f : α → α) (h : Sparse.wf d m = true) :
    Sparse.wf d (supd d m k f) = true := Sparse.wf_sset d m k _ h

/-! ## Memory -/

/-- The byte written is the byte read. -/
@[simp] theorem byteAt_putByte_same (m : List Host.Cell) (a : Nat) (b : Byte) : byteAt (putByte m a b) a = b :=
  sget_sset_same _ _ _ _

/-- A write of one byte leaves every other byte alone. -/
theorem byteAt_putByte_other (m : List Host.Cell) (a a' : Nat) (b : Byte) (h : a' ≠ a) :
    byteAt (putByte m a b) a' = byteAt m a' := sget_sset_other _ _ _ _ _ h

/-- Bytes outside a stored run read as before. -/
theorem byteAt_putBytes_outside (m : List Host.Cell) (a a' : Nat) (l : Bytes) (h : a' < a ∨ a + l.length ≤ a') :
    byteAt (putBytes m a l) a' = byteAt m a' := by
  induction l generalizing m a with
  | nil => rfl
  | cons b r ih =>
    simp only [List.length_cons] at h
    rw [putBytes, ih _ _ (by omega), byteAt_putByte_other _ _ _ _ (by omega)]

/-- Byte `i` of a stored run is the byte stored. -/
theorem byteAt_putBytes_inside (m : List Host.Cell) (a i : Nat) (l : Bytes) (h : i < l.length) :
    byteAt (putBytes m a l) (a + i) = l[i] := by
  induction l generalizing m a i with
  | nil => simp at h
  | cons b r ih =>
    cases i with
    | zero => rw [putBytes, Nat.add_zero, byteAt_putBytes_outside _ _ _ _ (by omega)]; simp
    | succ i => rw [putBytes, show a + (i + 1) = a + 1 + i by omega, ih _ _ _ (by simpa using h)]; rfl

/-- Reading a run just stored gives the bytes stored. -/
theorem getBytes_putBytes (m : List Host.Cell) (a : Nat) (l : Bytes) : getBytes (putBytes m a l) a l.length = l := by
  induction l generalizing m a with
  | nil => rfl
  | cons b r ih =>
    rw [List.length_cons, getBytes, putBytes, ih, byteAt_putBytes_outside _ _ _ _ (by omega), byteAt_putByte_same]

/-- Every memory operation keeps the canonical form. -/
theorem Memory.wf_putByte (m : List Host.Cell) (a : Nat) (b : Byte) (h : Memory.wf m = true) : Memory.wf (putByte m a b) = true :=
  Sparse.wf_sset _ _ _ _ h

theorem Memory.wf_putBytes (m : List Host.Cell) (a : Nat) (l : Bytes) (h : Memory.wf m = true) :
    Memory.wf (putBytes m a l) = true := by
  induction l generalizing m a with
  | nil => exact h
  | cons b r ih => exact ih _ _ (Memory.wf_putByte m a b h)

theorem Memory.wf_clearBytes (m : List Host.Cell) (a n : Nat) (h : Memory.wf m = true) : Memory.wf (clearBytes m a n) = true :=
  Sparse.wf_filter _ _ _ h

/-! ## Little-endian bytes -/

@[simp] theorem length_le (n x : Nat) : (le n x).length = n := by
  induction n generalizing x with
  | zero => rfl
  | succ n ih => simp [le, ih]

/-- A number of at most `n` bytes is read back from its bytes. -/
theorem unle_le (n x : Nat) (h : x < 256 ^ n) : unle (le n x) = x := by
  induction n generalizing x with
  | zero => simp at h; simp [le, unle, h]
  | succ n ih =>
    rw [le, unle, ih _ (by rw [Nat.pow_succ] at h; omega)]
    simp
    omega

/-! ## Parts of an updated state -/

@[simp] theorem State.core_onCore_same (s : State) (c : Nat) (f : CoreSt → CoreSt) : (s.onCore c f).core c = f (s.core c) :=
  sget_supd_same _ _ _ _

theorem State.core_onCore_other (s : State) (c d : Nat) (f : CoreSt → CoreSt) (h : d ≠ c) : (s.onCore c f).core d = s.core d :=
  sget_supd_other _ _ _ _ _ h

@[simp] theorem State.inst_onInst_same (s : State) (n : Nat) (f : InstSt → InstSt) : (s.onInst n f).inst n = f (s.inst n) :=
  sget_supd_same _ _ _ _

theorem State.inst_onInst_other (s : State) (n m : Nat) (f : InstSt → InstSt) (h : m ≠ n) : (s.onInst n f).inst m = s.inst m :=
  sget_supd_other _ _ _ _ _ h

@[simp] theorem State.inst_onBind_same (s : State) (n : Nat) (f : BindSt → BindSt) :
    (s.onBind n f).inst n = { s.inst n with bind := f (s.inst n).bind } := State.inst_onInst_same s n _

@[simp] theorem State.inst_onRoster_same (s : State) (n : Nat) (f : RosterSt → RosterSt) :
    (s.onRoster n f).inst n = { s.inst n with roster := f (s.inst n).roster } := State.inst_onInst_same s n _

@[simp] theorem State.inst_onKv_same (s : State) (n : Nat) (f : KvSt → KvSt) :
    (s.onKv n f).inst n = { s.inst n with kv := f (s.inst n).kv } := State.inst_onInst_same s n _

@[simp] theorem State.inst_onReq_same (s : State) (n : Nat) (f : ReqSt → ReqSt) :
    (s.onReq n f).inst n = { s.inst n with req := f (s.inst n).req } := State.inst_onInst_same s n _

@[simp] theorem State.inst_onLock_same (s : State) (n : Nat) (f : LockSt → LockSt) :
    (s.onLock n f).inst n = { s.inst n with lock := f (s.inst n).lock } := State.inst_onInst_same s n _

@[simp] theorem State.entry_onEntry_same (s : State) (n e : Nat) (f : RosterEntry → RosterEntry) :
    (s.onEntry n e f).entry n e = f (s.entry n e) := by
  simp [State.onEntry, State.entry]

@[simp] theorem State.ring_onRing_same (s : State) (r : Nat) (f : Ring → Ring) : (s.onRing r f).ring r = f (s.ring r) :=
  sget_supd_same _ _ _ _

theorem State.ring_onRing_other (s : State) (r q : Nat) (f : Ring → Ring) (h : q ≠ r) : (s.onRing r f).ring q = s.ring q :=
  sget_supd_other _ _ _ _ _ h

@[simp] theorem State.fn_onFn_same (s : State) (k : Nat) (f : FnSt → FnSt) : (s.onFn k f).fn k = f (s.fn k) :=
  sget_supd_same _ _ _ _

theorem State.fn_onFn_other (s : State) (k j : Nat) (f : FnSt → FnSt) (h : j ≠ k) : (s.onFn k f).fn j = s.fn j :=
  sget_supd_other _ _ _ _ _ h

@[simp] theorem State.port_onPort_same (s : State) (p : Nat) (f : PortSt → PortSt) : (s.onPort p f).port p = f (s.port p) :=
  sget_supd_same _ _ _ _

theorem State.port_onPort_other (s : State) (p q : Nat) (f : PortSt → PortSt) (h : q ≠ p) : (s.onPort p f).port q = s.port q :=
  sget_supd_other _ _ _ _ _ h

@[simp] theorem State.page_onPage_same (s : State) (p : Nat) (f : PageDesc → PageDesc) : (s.onPage p f).page p = f (s.page p) :=
  sget_supd_same _ _ _ _

theorem State.page_onPage_other (s : State) (p q : Nat) (f : PageDesc → PageDesc) (h : q ≠ p) : (s.onPage p f).page q = s.page q :=
  sget_supd_other _ _ _ _ _ h

@[simp] theorem State.comp_onComp_same (s : State) (p : Nat) (f : CompSt → CompSt) : (s.onComp p f).comp p = f (s.comp p) :=
  sget_supd_same _ _ _ _

theorem State.comp_onComp_other (s : State) (p q : Nat) (f : CompSt → CompSt) (h : q ≠ p) : (s.onComp p f).comp q = s.comp q :=
  sget_supd_other _ _ _ _ _ h

end Sys2Proof.Machine
end

