-- ==== Sys2Proof/Laws/State.lean ====
section
/-! SUPPORT. One lemma per field per named update of the state. -/

namespace Sys2Proof.Machine

@[simp] theorem State.onCore_dict (s : State) (c : Nat) (f : CoreSt → CoreSt) : (s.onCore c f).dict = s.dict := rfl
@[simp] theorem State.onCore_blobs (s : State) (c : Nat) (f : CoreSt → CoreSt) : (s.onCore c f).blobs = s.blobs := rfl
@[simp] theorem State.onCore_library (s : State) (c : Nat) (f : CoreSt → CoreSt) : (s.onCore c f).library = s.library := rfl
@[simp] theorem State.onCore_corridor (s : State) (c : Nat) (f : CoreSt → CoreSt) : (s.onCore c f).corridor = s.corridor := rfl
@[simp] theorem State.onCore_tiles (s : State) (c : Nat) (f : CoreSt → CoreSt) : (s.onCore c f).tiles = s.tiles := rfl
@[simp] theorem State.onCore_mem (s : State) (c : Nat) (f : CoreSt → CoreSt) : (s.onCore c f).mem = s.mem := rfl
@[simp] theorem State.onCore_insts (s : State) (c : Nat) (f : CoreSt → CoreSt) : (s.onCore c f).insts = s.insts := rfl
@[simp] theorem State.onCore_binder (s : State) (c : Nat) (f : CoreSt → CoreSt) : (s.onCore c f).binder = s.binder := rfl
@[simp] theorem State.onCore_lastInst (s : State) (c : Nat) (f : CoreSt → CoreSt) : (s.onCore c f).lastInst = s.lastInst := rfl
@[simp] theorem State.onCore_fab (s : State) (c : Nat) (f : CoreSt → CoreSt) : (s.onCore c f).fab = s.fab := rfl
@[simp] theorem State.onCore_wt (s : State) (c : Nat) (f : CoreSt → CoreSt) : (s.onCore c f).wt = s.wt := rfl
@[simp] theorem State.onCore_pwr (s : State) (c : Nat) (f : CoreSt → CoreSt) : (s.onCore c f).pwr = s.pwr := rfl
@[simp] theorem State.onCore_bell (s : State) (c : Nat) (f : CoreSt → CoreSt) : (s.onCore c f).bell = s.bell := rfl
@[simp] theorem State.onCore_fw (s : State) (c : Nat) (f : CoreSt → CoreSt) : (s.onCore c f).fw = s.fw := rfl
@[simp] theorem State.onCore_wake (s : State) (c : Nat) (f : CoreSt → CoreSt) : (s.onCore c f).wake = s.wake := rfl
@[simp] theorem State.onCore_flt (s : State) (c : Nat) (f : CoreSt → CoreSt) : (s.onCore c f).flt = s.flt := rfl
@[simp] theorem State.onCore_mgmt (s : State) (c : Nat) (f : CoreSt → CoreSt) : (s.onCore c f).mgmt = s.mgmt := rfl
@[simp] theorem State.onCore_tr (s : State) (c : Nat) (f : CoreSt → CoreSt) : (s.onCore c f).tr = s.tr := rfl
@[simp] theorem State.onCore_host (s : State) (c : Nat) (f : CoreSt → CoreSt) : (s.onCore c f).host = s.host := rfl
@[simp] theorem State.onCore_phys (s : State) (c : Nat) (f : CoreSt → CoreSt) : (s.onCore c f).phys = s.phys := rfl
@[simp] theorem State.onCore_free (s : State) (c : Nat) (f : CoreSt → CoreSt) : (s.onCore c f).free = s.free := rfl
@[simp] theorem State.onCore_pending (s : State) (c : Nat) (f : CoreSt → CoreSt) : (s.onCore c f).pending = s.pending := rfl
@[simp] theorem State.onInst_dict (s : State) (n : Nat) (f : InstSt → InstSt) : (s.onInst n f).dict = s.dict := rfl
@[simp] theorem State.onInst_blobs (s : State) (n : Nat) (f : InstSt → InstSt) : (s.onInst n f).blobs = s.blobs := rfl
@[simp] theorem State.onInst_library (s : State) (n : Nat) (f : InstSt → InstSt) : (s.onInst n f).library = s.library := rfl
@[simp] theorem State.onInst_corridor (s : State) (n : Nat) (f : InstSt → InstSt) : (s.onInst n f).corridor = s.corridor := rfl
@[simp] theorem State.onInst_cores (s : State) (n : Nat) (f : InstSt → InstSt) : (s.onInst n f).cores = s.cores := rfl
@[simp] theorem State.onInst_tiles (s : State) (n : Nat) (f : InstSt → InstSt) : (s.onInst n f).tiles = s.tiles := rfl
@[simp] theorem State.onInst_mem (s : State) (n : Nat) (f : InstSt → InstSt) : (s.onInst n f).mem = s.mem := rfl
@[simp] theorem State.onInst_binder (s : State) (n : Nat) (f : InstSt → InstSt) : (s.onInst n f).binder = s.binder := rfl
@[simp] theorem State.onInst_lastInst (s : State) (n : Nat) (f : InstSt → InstSt) : (s.onInst n f).lastInst = s.lastInst := rfl
@[simp] theorem State.onInst_fab (s : State) (n : Nat) (f : InstSt → InstSt) : (s.onInst n f).fab = s.fab := rfl
@[simp] theorem State.onInst_wt (s : State) (n : Nat) (f : InstSt → InstSt) : (s.onInst n f).wt = s.wt := rfl
@[simp] theorem State.onInst_pwr (s : State) (n : Nat) (f : InstSt → InstSt) : (s.onInst n f).pwr = s.pwr := rfl
@[simp] theorem State.onInst_bell (s : State) (n : Nat) (f : InstSt → InstSt) : (s.onInst n f).bell = s.bell := rfl
@[simp] theorem State.onInst_fw (s : State) (n : Nat) (f : InstSt → InstSt) : (s.onInst n f).fw = s.fw := rfl
@[simp] theorem State.onInst_wake (s : State) (n : Nat) (f : InstSt → InstSt) : (s.onInst n f).wake = s.wake := rfl
@[simp] theorem State.onInst_flt (s : State) (n : Nat) (f : InstSt → InstSt) : (s.onInst n f).flt = s.flt := rfl
@[simp] theorem State.onInst_mgmt (s : State) (n : Nat) (f : InstSt → InstSt) : (s.onInst n f).mgmt = s.mgmt := rfl
@[simp] theorem State.onInst_tr (s : State) (n : Nat) (f : InstSt → InstSt) : (s.onInst n f).tr = s.tr := rfl
@[simp] theorem State.onInst_host (s : State) (n : Nat) (f : InstSt → InstSt) : (s.onInst n f).host = s.host := rfl
@[simp] theorem State.onInst_phys (s : State) (n : Nat) (f : InstSt → InstSt) : (s.onInst n f).phys = s.phys := rfl
@[simp] theorem State.onInst_free (s : State) (n : Nat) (f : InstSt → InstSt) : (s.onInst n f).free = s.free := rfl
@[simp] theorem State.onInst_pending (s : State) (n : Nat) (f : InstSt → InstSt) : (s.onInst n f).pending = s.pending := rfl
@[simp] theorem State.onBind_dict (s : State) (n : Nat) (f : BindSt → BindSt) : (s.onBind n f).dict = s.dict := rfl
@[simp] theorem State.onBind_blobs (s : State) (n : Nat) (f : BindSt → BindSt) : (s.onBind n f).blobs = s.blobs := rfl
@[simp] theorem State.onBind_library (s : State) (n : Nat) (f : BindSt → BindSt) : (s.onBind n f).library = s.library := rfl
@[simp] theorem State.onBind_corridor (s : State) (n : Nat) (f : BindSt → BindSt) : (s.onBind n f).corridor = s.corridor := rfl
@[simp] theorem State.onBind_cores (s : State) (n : Nat) (f : BindSt → BindSt) : (s.onBind n f).cores = s.cores := rfl
@[simp] theorem State.onBind_tiles (s : State) (n : Nat) (f : BindSt → BindSt) : (s.onBind n f).tiles = s.tiles := rfl
@[simp] theorem State.onBind_mem (s : State) (n : Nat) (f : BindSt → BindSt) : (s.onBind n f).mem = s.mem := rfl
@[simp] theorem State.onBind_binder (s : State) (n : Nat) (f : BindSt → BindSt) : (s.onBind n f).binder = s.binder := rfl
@[simp] theorem State.onBind_lastInst (s : State) (n : Nat) (f : BindSt → BindSt) : (s.onBind n f).lastInst = s.lastInst := rfl
@[simp] theorem State.onBind_fab (s : State) (n : Nat) (f : BindSt → BindSt) : (s.onBind n f).fab = s.fab := rfl
@[simp] theorem State.onBind_wt (s : State) (n : Nat) (f : BindSt → BindSt) : (s.onBind n f).wt = s.wt := rfl
@[simp] theorem State.onBind_pwr (s : State) (n : Nat) (f : BindSt → BindSt) : (s.onBind n f).pwr = s.pwr := rfl
@[simp] theorem State.onBind_bell (s : State) (n : Nat) (f : BindSt → BindSt) : (s.onBind n f).bell = s.bell := rfl
@[simp] theorem State.onBind_fw (s : State) (n : Nat) (f : BindSt → BindSt) : (s.onBind n f).fw = s.fw := rfl
@[simp] theorem State.onBind_wake (s : State) (n : Nat) (f : BindSt → BindSt) : (s.onBind n f).wake = s.wake := rfl
@[simp] theorem State.onBind_flt (s : State) (n : Nat) (f : BindSt → BindSt) : (s.onBind n f).flt = s.flt := rfl
@[simp] theorem State.onBind_mgmt (s : State) (n : Nat) (f : BindSt → BindSt) : (s.onBind n f).mgmt = s.mgmt := rfl
@[simp] theorem State.onBind_tr (s : State) (n : Nat) (f : BindSt → BindSt) : (s.onBind n f).tr = s.tr := rfl
@[simp] theorem State.onBind_host (s : State) (n : Nat) (f : BindSt → BindSt) : (s.onBind n f).host = s.host := rfl
@[simp] theorem State.onBind_phys (s : State) (n : Nat) (f : BindSt → BindSt) : (s.onBind n f).phys = s.phys := rfl
@[simp] theorem State.onBind_free (s : State) (n : Nat) (f : BindSt → BindSt) : (s.onBind n f).free = s.free := rfl
@[simp] theorem State.onBind_pending (s : State) (n : Nat) (f : BindSt → BindSt) : (s.onBind n f).pending = s.pending := rfl
@[simp] theorem State.onRoster_dict (s : State) (n : Nat) (f : RosterSt → RosterSt) : (s.onRoster n f).dict = s.dict := rfl
@[simp] theorem State.onRoster_blobs (s : State) (n : Nat) (f : RosterSt → RosterSt) : (s.onRoster n f).blobs = s.blobs := rfl
@[simp] theorem State.onRoster_library (s : State) (n : Nat) (f : RosterSt → RosterSt) : (s.onRoster n f).library = s.library := rfl
@[simp] theorem State.onRoster_corridor (s : State) (n : Nat) (f : RosterSt → RosterSt) : (s.onRoster n f).corridor = s.corridor := rfl
@[simp] theorem State.onRoster_cores (s : State) (n : Nat) (f : RosterSt → RosterSt) : (s.onRoster n f).cores = s.cores := rfl
@[simp] theorem State.onRoster_tiles (s : State) (n : Nat) (f : RosterSt → RosterSt) : (s.onRoster n f).tiles = s.tiles := rfl
@[simp] theorem State.onRoster_mem (s : State) (n : Nat) (f : RosterSt → RosterSt) : (s.onRoster n f).mem = s.mem := rfl
@[simp] theorem State.onRoster_binder (s : State) (n : Nat) (f : RosterSt → RosterSt) : (s.onRoster n f).binder = s.binder := rfl
@[simp] theorem State.onRoster_lastInst (s : State) (n : Nat) (f : RosterSt → RosterSt) : (s.onRoster n f).lastInst = s.lastInst := rfl
@[simp] theorem State.onRoster_fab (s : State) (n : Nat) (f : RosterSt → RosterSt) : (s.onRoster n f).fab = s.fab := rfl
@[simp] theorem State.onRoster_wt (s : State) (n : Nat) (f : RosterSt → RosterSt) : (s.onRoster n f).wt = s.wt := rfl
@[simp] theorem State.onRoster_pwr (s : State) (n : Nat) (f : RosterSt → RosterSt) : (s.onRoster n f).pwr = s.pwr := rfl
@[simp] theorem State.onRoster_bell (s : State) (n : Nat) (f : RosterSt → RosterSt) : (s.onRoster n f).bell = s.bell := rfl
@[simp] theorem State.onRoster_fw (s : State) (n : Nat) (f : RosterSt → RosterSt) : (s.onRoster n f).fw = s.fw := rfl
@[simp] theorem State.onRoster_wake (s : State) (n : Nat) (f : RosterSt → RosterSt) : (s.onRoster n f).wake = s.wake := rfl
@[simp] theorem State.onRoster_flt (s : State) (n : Nat) (f : RosterSt → RosterSt) : (s.onRoster n f).flt = s.flt := rfl
@[simp] theorem State.onRoster_mgmt (s : State) (n : Nat) (f : RosterSt → RosterSt) : (s.onRoster n f).mgmt = s.mgmt := rfl
@[simp] theorem State.onRoster_tr (s : State) (n : Nat) (f : RosterSt → RosterSt) : (s.onRoster n f).tr = s.tr := rfl
@[simp] theorem State.onRoster_host (s : State) (n : Nat) (f : RosterSt → RosterSt) : (s.onRoster n f).host = s.host := rfl
@[simp] theorem State.onRoster_phys (s : State) (n : Nat) (f : RosterSt → RosterSt) : (s.onRoster n f).phys = s.phys := rfl
@[simp] theorem State.onRoster_free (s : State) (n : Nat) (f : RosterSt → RosterSt) : (s.onRoster n f).free = s.free := rfl
@[simp] theorem State.onRoster_pending (s : State) (n : Nat) (f : RosterSt → RosterSt) : (s.onRoster n f).pending = s.pending := rfl
@[simp] theorem State.onKv_dict (s : State) (n : Nat) (f : KvSt → KvSt) : (s.onKv n f).dict = s.dict := rfl
@[simp] theorem State.onKv_blobs (s : State) (n : Nat) (f : KvSt → KvSt) : (s.onKv n f).blobs = s.blobs := rfl
@[simp] theorem State.onKv_library (s : State) (n : Nat) (f : KvSt → KvSt) : (s.onKv n f).library = s.library := rfl
@[simp] theorem State.onKv_corridor (s : State) (n : Nat) (f : KvSt → KvSt) : (s.onKv n f).corridor = s.corridor := rfl
@[simp] theorem State.onKv_cores (s : State) (n : Nat) (f : KvSt → KvSt) : (s.onKv n f).cores = s.cores := rfl
@[simp] theorem State.onKv_tiles (s : State) (n : Nat) (f : KvSt → KvSt) : (s.onKv n f).tiles = s.tiles := rfl
@[simp] theorem State.onKv_mem (s : State) (n : Nat) (f : KvSt → KvSt) : (s.onKv n f).mem = s.mem := rfl
@[simp] theorem State.onKv_binder (s : State) (n : Nat) (f : KvSt → KvSt) : (s.onKv n f).binder = s.binder := rfl
@[simp] theorem State.onKv_lastInst (s : State) (n : Nat) (f : KvSt → KvSt) : (s.onKv n f).lastInst = s.lastInst := rfl
@[simp] theorem State.onKv_fab (s : State) (n : Nat) (f : KvSt → KvSt) : (s.onKv n f).fab = s.fab := rfl
@[simp] theorem State.onKv_wt (s : State) (n : Nat) (f : KvSt → KvSt) : (s.onKv n f).wt = s.wt := rfl
@[simp] theorem State.onKv_pwr (s : State) (n : Nat) (f : KvSt → KvSt) : (s.onKv n f).pwr = s.pwr := rfl
@[simp] theorem State.onKv_bell (s : State) (n : Nat) (f : KvSt → KvSt) : (s.onKv n f).bell = s.bell := rfl
@[simp] theorem State.onKv_fw (s : State) (n : Nat) (f : KvSt → KvSt) : (s.onKv n f).fw = s.fw := rfl
@[simp] theorem State.onKv_wake (s : State) (n : Nat) (f : KvSt → KvSt) : (s.onKv n f).wake = s.wake := rfl
@[simp] theorem State.onKv_flt (s : State) (n : Nat) (f : KvSt → KvSt) : (s.onKv n f).flt = s.flt := rfl
@[simp] theorem State.onKv_mgmt (s : State) (n : Nat) (f : KvSt → KvSt) : (s.onKv n f).mgmt = s.mgmt := rfl
@[simp] theorem State.onKv_tr (s : State) (n : Nat) (f : KvSt → KvSt) : (s.onKv n f).tr = s.tr := rfl
@[simp] theorem State.onKv_host (s : State) (n : Nat) (f : KvSt → KvSt) : (s.onKv n f).host = s.host := rfl
@[simp] theorem State.onKv_phys (s : State) (n : Nat) (f : KvSt → KvSt) : (s.onKv n f).phys = s.phys := rfl
@[simp] theorem State.onKv_free (s : State) (n : Nat) (f : KvSt → KvSt) : (s.onKv n f).free = s.free := rfl
@[simp] theorem State.onKv_pending (s : State) (n : Nat) (f : KvSt → KvSt) : (s.onKv n f).pending = s.pending := rfl
@[simp] theorem State.onReq_dict (s : State) (n : Nat) (f : ReqSt → ReqSt) : (s.onReq n f).dict = s.dict := rfl
@[simp] theorem State.onReq_blobs (s : State) (n : Nat) (f : ReqSt → ReqSt) : (s.onReq n f).blobs = s.blobs := rfl
@[simp] theorem State.onReq_library (s : State) (n : Nat) (f : ReqSt → ReqSt) : (s.onReq n f).library = s.library := rfl
@[simp] theorem State.onReq_corridor (s : State) (n : Nat) (f : ReqSt → ReqSt) : (s.onReq n f).corridor = s.corridor := rfl
@[simp] theorem State.onReq_cores (s : State) (n : Nat) (f : ReqSt → ReqSt) : (s.onReq n f).cores = s.cores := rfl
@[simp] theorem State.onReq_tiles (s : State) (n : Nat) (f : ReqSt → ReqSt) : (s.onReq n f).tiles = s.tiles := rfl
@[simp] theorem State.onReq_mem (s : State) (n : Nat) (f : ReqSt → ReqSt) : (s.onReq n f).mem = s.mem := rfl
@[simp] theorem State.onReq_binder (s : State) (n : Nat) (f : ReqSt → ReqSt) : (s.onReq n f).binder = s.binder := rfl
@[simp] theorem State.onReq_lastInst (s : State) (n : Nat) (f : ReqSt → ReqSt) : (s.onReq n f).lastInst = s.lastInst := rfl
@[simp] theorem State.onReq_fab (s : State) (n : Nat) (f : ReqSt → ReqSt) : (s.onReq n f).fab = s.fab := rfl
@[simp] theorem State.onReq_wt (s : State) (n : Nat) (f : ReqSt → ReqSt) : (s.onReq n f).wt = s.wt := rfl
@[simp] theorem State.onReq_pwr (s : State) (n : Nat) (f : ReqSt → ReqSt) : (s.onReq n f).pwr = s.pwr := rfl
@[simp] theorem State.onReq_bell (s : State) (n : Nat) (f : ReqSt → ReqSt) : (s.onReq n f).bell = s.bell := rfl
@[simp] theorem State.onReq_fw (s : State) (n : Nat) (f : ReqSt → ReqSt) : (s.onReq n f).fw = s.fw := rfl
@[simp] theorem State.onReq_wake (s : State) (n : Nat) (f : ReqSt → ReqSt) : (s.onReq n f).wake = s.wake := rfl
@[simp] theorem State.onReq_flt (s : State) (n : Nat) (f : ReqSt → ReqSt) : (s.onReq n f).flt = s.flt := rfl
@[simp] theorem State.onReq_mgmt (s : State) (n : Nat) (f : ReqSt → ReqSt) : (s.onReq n f).mgmt = s.mgmt := rfl
@[simp] theorem State.onReq_tr (s : State) (n : Nat) (f : ReqSt → ReqSt) : (s.onReq n f).tr = s.tr := rfl
@[simp] theorem State.onReq_host (s : State) (n : Nat) (f : ReqSt → ReqSt) : (s.onReq n f).host = s.host := rfl
@[simp] theorem State.onReq_phys (s : State) (n : Nat) (f : ReqSt → ReqSt) : (s.onReq n f).phys = s.phys := rfl
@[simp] theorem State.onReq_free (s : State) (n : Nat) (f : ReqSt → ReqSt) : (s.onReq n f).free = s.free := rfl
@[simp] theorem State.onReq_pending (s : State) (n : Nat) (f : ReqSt → ReqSt) : (s.onReq n f).pending = s.pending := rfl
@[simp] theorem State.onLock_dict (s : State) (n : Nat) (f : LockSt → LockSt) : (s.onLock n f).dict = s.dict := rfl
@[simp] theorem State.onLock_blobs (s : State) (n : Nat) (f : LockSt → LockSt) : (s.onLock n f).blobs = s.blobs := rfl
@[simp] theorem State.onLock_library (s : State) (n : Nat) (f : LockSt → LockSt) : (s.onLock n f).library = s.library := rfl
@[simp] theorem State.onLock_corridor (s : State) (n : Nat) (f : LockSt → LockSt) : (s.onLock n f).corridor = s.corridor := rfl
@[simp] theorem State.onLock_cores (s : State) (n : Nat) (f : LockSt → LockSt) : (s.onLock n f).cores = s.cores := rfl
@[simp] theorem State.onLock_tiles (s : State) (n : Nat) (f : LockSt → LockSt) : (s.onLock n f).tiles = s.tiles := rfl
@[simp] theorem State.onLock_mem (s : State) (n : Nat) (f : LockSt → LockSt) : (s.onLock n f).mem = s.mem := rfl
@[simp] theorem State.onLock_binder (s : State) (n : Nat) (f : LockSt → LockSt) : (s.onLock n f).binder = s.binder := rfl
@[simp] theorem State.onLock_lastInst (s : State) (n : Nat) (f : LockSt → LockSt) : (s.onLock n f).lastInst = s.lastInst := rfl
@[simp] theorem State.onLock_fab (s : State) (n : Nat) (f : LockSt → LockSt) : (s.onLock n f).fab = s.fab := rfl
@[simp] theorem State.onLock_wt (s : State) (n : Nat) (f : LockSt → LockSt) : (s.onLock n f).wt = s.wt := rfl
@[simp] theorem State.onLock_pwr (s : State) (n : Nat) (f : LockSt → LockSt) : (s.onLock n f).pwr = s.pwr := rfl
@[simp] theorem State.onLock_bell (s : State) (n : Nat) (f : LockSt → LockSt) : (s.onLock n f).bell = s.bell := rfl
@[simp] theorem State.onLock_fw (s : State) (n : Nat) (f : LockSt → LockSt) : (s.onLock n f).fw = s.fw := rfl
@[simp] theorem State.onLock_wake (s : State) (n : Nat) (f : LockSt → LockSt) : (s.onLock n f).wake = s.wake := rfl
@[simp] theorem State.onLock_flt (s : State) (n : Nat) (f : LockSt → LockSt) : (s.onLock n f).flt = s.flt := rfl
@[simp] theorem State.onLock_mgmt (s : State) (n : Nat) (f : LockSt → LockSt) : (s.onLock n f).mgmt = s.mgmt := rfl
@[simp] theorem State.onLock_tr (s : State) (n : Nat) (f : LockSt → LockSt) : (s.onLock n f).tr = s.tr := rfl
@[simp] theorem State.onLock_host (s : State) (n : Nat) (f : LockSt → LockSt) : (s.onLock n f).host = s.host := rfl
@[simp] theorem State.onLock_phys (s : State) (n : Nat) (f : LockSt → LockSt) : (s.onLock n f).phys = s.phys := rfl
@[simp] theorem State.onLock_free (s : State) (n : Nat) (f : LockSt → LockSt) : (s.onLock n f).free = s.free := rfl
@[simp] theorem State.onLock_pending (s : State) (n : Nat) (f : LockSt → LockSt) : (s.onLock n f).pending = s.pending := rfl
@[simp] theorem State.onStep_dict (s : State) (n : Nat) (f : StepSt → StepSt) : (s.onStep n f).dict = s.dict := rfl
@[simp] theorem State.onStep_blobs (s : State) (n : Nat) (f : StepSt → StepSt) : (s.onStep n f).blobs = s.blobs := rfl
@[simp] theorem State.onStep_library (s : State) (n : Nat) (f : StepSt → StepSt) : (s.onStep n f).library = s.library := rfl
@[simp] theorem State.onStep_corridor (s : State) (n : Nat) (f : StepSt → StepSt) : (s.onStep n f).corridor = s.corridor := rfl
@[simp] theorem State.onStep_cores (s : State) (n : Nat) (f : StepSt → StepSt) : (s.onStep n f).cores = s.cores := rfl
@[simp] theorem State.onStep_tiles (s : State) (n : Nat) (f : StepSt → StepSt) : (s.onStep n f).tiles = s.tiles := rfl
@[simp] theorem State.onStep_mem (s : State) (n : Nat) (f : StepSt → StepSt) : (s.onStep n f).mem = s.mem := rfl
@[simp] theorem State.onStep_binder (s : State) (n : Nat) (f : StepSt → StepSt) : (s.onStep n f).binder = s.binder := rfl
@[simp] theorem State.onStep_lastInst (s : State) (n : Nat) (f : StepSt → StepSt) : (s.onStep n f).lastInst = s.lastInst := rfl
@[simp] theorem State.onStep_fab (s : State) (n : Nat) (f : StepSt → StepSt) : (s.onStep n f).fab = s.fab := rfl
@[simp] theorem State.onStep_wt (s : State) (n : Nat) (f : StepSt → StepSt) : (s.onStep n f).wt = s.wt := rfl
@[simp] theorem State.onStep_pwr (s : State) (n : Nat) (f : StepSt → StepSt) : (s.onStep n f).pwr = s.pwr := rfl
@[simp] theorem State.onStep_bell (s : State) (n : Nat) (f : StepSt → StepSt) : (s.onStep n f).bell = s.bell := rfl
@[simp] theorem State.onStep_fw (s : State) (n : Nat) (f : StepSt → StepSt) : (s.onStep n f).fw = s.fw := rfl
@[simp] theorem State.onStep_wake (s : State) (n : Nat) (f : StepSt → StepSt) : (s.onStep n f).wake = s.wake := rfl
@[simp] theorem State.onStep_flt (s : State) (n : Nat) (f : StepSt → StepSt) : (s.onStep n f).flt = s.flt := rfl
@[simp] theorem State.onStep_mgmt (s : State) (n : Nat) (f : StepSt → StepSt) : (s.onStep n f).mgmt = s.mgmt := rfl
@[simp] theorem State.onStep_tr (s : State) (n : Nat) (f : StepSt → StepSt) : (s.onStep n f).tr = s.tr := rfl
@[simp] theorem State.onStep_host (s : State) (n : Nat) (f : StepSt → StepSt) : (s.onStep n f).host = s.host := rfl
@[simp] theorem State.onStep_phys (s : State) (n : Nat) (f : StepSt → StepSt) : (s.onStep n f).phys = s.phys := rfl
@[simp] theorem State.onStep_free (s : State) (n : Nat) (f : StepSt → StepSt) : (s.onStep n f).free = s.free := rfl
@[simp] theorem State.onStep_pending (s : State) (n : Nat) (f : StepSt → StepSt) : (s.onStep n f).pending = s.pending := rfl
@[simp] theorem State.onEntry_dict (s : State) (n e : Nat) (f : RosterEntry → RosterEntry) : (s.onEntry n e f).dict = s.dict := rfl
@[simp] theorem State.onEntry_blobs (s : State) (n e : Nat) (f : RosterEntry → RosterEntry) : (s.onEntry n e f).blobs = s.blobs := rfl
@[simp] theorem State.onEntry_library (s : State) (n e : Nat) (f : RosterEntry → RosterEntry) : (s.onEntry n e f).library = s.library := rfl
@[simp] theorem State.onEntry_corridor (s : State) (n e : Nat) (f : RosterEntry → RosterEntry) : (s.onEntry n e f).corridor = s.corridor := rfl
@[simp] theorem State.onEntry_cores (s : State) (n e : Nat) (f : RosterEntry → RosterEntry) : (s.onEntry n e f).cores = s.cores := rfl
@[simp] theorem State.onEntry_tiles (s : State) (n e : Nat) (f : RosterEntry → RosterEntry) : (s.onEntry n e f).tiles = s.tiles := rfl
@[simp] theorem State.onEntry_mem (s : State) (n e : Nat) (f : RosterEntry → RosterEntry) : (s.onEntry n e f).mem = s.mem := rfl
@[simp] theorem State.onEntry_binder (s : State) (n e : Nat) (f : RosterEntry → RosterEntry) : (s.onEntry n e f).binder = s.binder := rfl
@[simp] theorem State.onEntry_lastInst (s : State) (n e : Nat) (f : RosterEntry → RosterEntry) : (s.onEntry n e f).lastInst = s.lastInst := rfl
@[simp] theorem State.onEntry_fab (s : State) (n e : Nat) (f : RosterEntry → RosterEntry) : (s.onEntry n e f).fab = s.fab := rfl
@[simp] theorem State.onEntry_wt (s : State) (n e : Nat) (f : RosterEntry → RosterEntry) : (s.onEntry n e f).wt = s.wt := rfl
@[simp] theorem State.onEntry_pwr (s : State) (n e : Nat) (f : RosterEntry → RosterEntry) : (s.onEntry n e f).pwr = s.pwr := rfl
@[simp] theorem State.onEntry_bell (s : State) (n e : Nat) (f : RosterEntry → RosterEntry) : (s.onEntry n e f).bell = s.bell := rfl
@[simp] theorem State.onEntry_fw (s : State) (n e : Nat) (f : RosterEntry → RosterEntry) : (s.onEntry n e f).fw = s.fw := rfl
@[simp] theorem State.onEntry_wake (s : State) (n e : Nat) (f : RosterEntry → RosterEntry) : (s.onEntry n e f).wake = s.wake := rfl
@[simp] theorem State.onEntry_flt (s : State) (n e : Nat) (f : RosterEntry → RosterEntry) : (s.onEntry n e f).flt = s.flt := rfl
@[simp] theorem State.onEntry_mgmt (s : State) (n e : Nat) (f : RosterEntry → RosterEntry) : (s.onEntry n e f).mgmt = s.mgmt := rfl
@[simp] theorem State.onEntry_tr (s : State) (n e : Nat) (f : RosterEntry → RosterEntry) : (s.onEntry n e f).tr = s.tr := rfl
@[simp] theorem State.onEntry_host (s : State) (n e : Nat) (f : RosterEntry → RosterEntry) : (s.onEntry n e f).host = s.host := rfl
@[simp] theorem State.onEntry_phys (s : State) (n e : Nat) (f : RosterEntry → RosterEntry) : (s.onEntry n e f).phys = s.phys := rfl
@[simp] theorem State.onEntry_free (s : State) (n e : Nat) (f : RosterEntry → RosterEntry) : (s.onEntry n e f).free = s.free := rfl
@[simp] theorem State.onEntry_pending (s : State) (n e : Nat) (f : RosterEntry → RosterEntry) : (s.onEntry n e f).pending = s.pending := rfl
@[simp] theorem State.onRing_dict (s : State) (r : Nat) (f : Ring → Ring) : (s.onRing r f).dict = s.dict := rfl
@[simp] theorem State.onRing_blobs (s : State) (r : Nat) (f : Ring → Ring) : (s.onRing r f).blobs = s.blobs := rfl
@[simp] theorem State.onRing_library (s : State) (r : Nat) (f : Ring → Ring) : (s.onRing r f).library = s.library := rfl
@[simp] theorem State.onRing_corridor (s : State) (r : Nat) (f : Ring → Ring) : (s.onRing r f).corridor = s.corridor := rfl
@[simp] theorem State.onRing_cores (s : State) (r : Nat) (f : Ring → Ring) : (s.onRing r f).cores = s.cores := rfl
@[simp] theorem State.onRing_tiles (s : State) (r : Nat) (f : Ring → Ring) : (s.onRing r f).tiles = s.tiles := rfl
@[simp] theorem State.onRing_mem (s : State) (r : Nat) (f : Ring → Ring) : (s.onRing r f).mem = s.mem := rfl
@[simp] theorem State.onRing_insts (s : State) (r : Nat) (f : Ring → Ring) : (s.onRing r f).insts = s.insts := rfl
@[simp] theorem State.onRing_binder (s : State) (r : Nat) (f : Ring → Ring) : (s.onRing r f).binder = s.binder := rfl
@[simp] theorem State.onRing_lastInst (s : State) (r : Nat) (f : Ring → Ring) : (s.onRing r f).lastInst = s.lastInst := rfl
@[simp] theorem State.onRing_fab (s : State) (r : Nat) (f : Ring → Ring) : (s.onRing r f).fab = s.fab := rfl
@[simp] theorem State.onRing_wt (s : State) (r : Nat) (f : Ring → Ring) : (s.onRing r f).wt = s.wt := rfl
@[simp] theorem State.onRing_pwr (s : State) (r : Nat) (f : Ring → Ring) : (s.onRing r f).pwr = s.pwr := rfl
@[simp] theorem State.onRing_bell (s : State) (r : Nat) (f : Ring → Ring) : (s.onRing r f).bell = s.bell := rfl
@[simp] theorem State.onRing_fw (s : State) (r : Nat) (f : Ring → Ring) : (s.onRing r f).fw = s.fw := rfl
@[simp] theorem State.onRing_wake (s : State) (r : Nat) (f : Ring → Ring) : (s.onRing r f).wake = s.wake := rfl
@[simp] theorem State.onRing_flt (s : State) (r : Nat) (f : Ring → Ring) : (s.onRing r f).flt = s.flt := rfl
@[simp] theorem State.onRing_mgmt (s : State) (r : Nat) (f : Ring → Ring) : (s.onRing r f).mgmt = s.mgmt := rfl
@[simp] theorem State.onRing_tr (s : State) (r : Nat) (f : Ring → Ring) : (s.onRing r f).tr = s.tr := rfl
@[simp] theorem State.onRing_phys (s : State) (r : Nat) (f : Ring → Ring) : (s.onRing r f).phys = s.phys := rfl
@[simp] theorem State.onRing_free (s : State) (r : Nat) (f : Ring → Ring) : (s.onRing r f).free = s.free := rfl
@[simp] theorem State.onRing_pending (s : State) (r : Nat) (f : Ring → Ring) : (s.onRing r f).pending = s.pending := rfl
@[simp] theorem State.onRing_host_fns (s : State) (r : Nat) (f : Ring → Ring) : (s.onRing r f).host.fns = s.host.fns := rfl
@[simp] theorem State.onRing_host_image (s : State) (r : Nat) (f : Ring → Ring) : (s.onRing r f).host.image = s.host.image := rfl
@[simp] theorem State.onRing_host_heldDone (s : State) (r : Nat) (f : Ring → Ring) : (s.onRing r f).host.heldDone = s.host.heldDone := rfl
@[simp] theorem State.onRing_host_signals (s : State) (r : Nat) (f : Ring → Ring) : (s.onRing r f).host.signals = s.host.signals := rfl
@[simp] theorem State.onRing_host_eventSeq (s : State) (r : Nat) (f : Ring → Ring) : (s.onRing r f).host.eventSeq = s.host.eventSeq := rfl
@[simp] theorem State.onRing_host_answer (s : State) (r : Nat) (f : Ring → Ring) : (s.onRing r f).host.answer = s.host.answer := rfl
@[simp] theorem State.onRing_host_answerEp (s : State) (r : Nat) (f : Ring → Ring) : (s.onRing r f).host.answerEp = s.host.answerEp := rfl
@[simp] theorem State.onFn_dict (s : State) (k : Nat) (f : FnSt → FnSt) : (s.onFn k f).dict = s.dict := rfl
@[simp] theorem State.onFn_blobs (s : State) (k : Nat) (f : FnSt → FnSt) : (s.onFn k f).blobs = s.blobs := rfl
@[simp] theorem State.onFn_library (s : State) (k : Nat) (f : FnSt → FnSt) : (s.onFn k f).library = s.library := rfl
@[simp] theorem State.onFn_corridor (s : State) (k : Nat) (f : FnSt → FnSt) : (s.onFn k f).corridor = s.corridor := rfl
@[simp] theorem State.onFn_cores (s : State) (k : Nat) (f : FnSt → FnSt) : (s.onFn k f).cores = s.cores := rfl
@[simp] theorem State.onFn_tiles (s : State) (k : Nat) (f : FnSt → FnSt) : (s.onFn k f).tiles = s.tiles := rfl
@[simp] theorem State.onFn_mem (s : State) (k : Nat) (f : FnSt → FnSt) : (s.onFn k f).mem = s.mem := rfl
@[simp] theorem State.onFn_insts (s : State) (k : Nat) (f : FnSt → FnSt) : (s.onFn k f).insts = s.insts := rfl
@[simp] theorem State.onFn_binder (s : State) (k : Nat) (f : FnSt → FnSt) : (s.onFn k f).binder = s.binder := rfl
@[simp] theorem State.onFn_lastInst (s : State) (k : Nat) (f : FnSt → FnSt) : (s.onFn k f).lastInst = s.lastInst := rfl
@[simp] theorem State.onFn_fab (s : State) (k : Nat) (f : FnSt → FnSt) : (s.onFn k f).fab = s.fab := rfl
@[simp] theorem State.onFn_wt (s : State) (k : Nat) (f : FnSt → FnSt) : (s.onFn k f).wt = s.wt := rfl
@[simp] theorem State.onFn_pwr (s : State) (k : Nat) (f : FnSt → FnSt) : (s.onFn k f).pwr = s.pwr := rfl
@[simp] theorem State.onFn_bell (s : State) (k : Nat) (f : FnSt → FnSt) : (s.onFn k f).bell = s.bell := rfl
@[simp] theorem State.onFn_fw (s : State) (k : Nat) (f : FnSt → FnSt) : (s.onFn k f).fw = s.fw := rfl
@[simp] theorem State.onFn_wake (s : State) (k : Nat) (f : FnSt → FnSt) : (s.onFn k f).wake = s.wake := rfl
@[simp] theorem State.onFn_flt (s : State) (k : Nat) (f : FnSt → FnSt) : (s.onFn k f).flt = s.flt := rfl
@[simp] theorem State.onFn_mgmt (s : State) (k : Nat) (f : FnSt → FnSt) : (s.onFn k f).mgmt = s.mgmt := rfl
@[simp] theorem State.onFn_tr (s : State) (k : Nat) (f : FnSt → FnSt) : (s.onFn k f).tr = s.tr := rfl
@[simp] theorem State.onFn_phys (s : State) (k : Nat) (f : FnSt → FnSt) : (s.onFn k f).phys = s.phys := rfl
@[simp] theorem State.onFn_free (s : State) (k : Nat) (f : FnSt → FnSt) : (s.onFn k f).free = s.free := rfl
@[simp] theorem State.onFn_pending (s : State) (k : Nat) (f : FnSt → FnSt) : (s.onFn k f).pending = s.pending := rfl
@[simp] theorem State.onFn_host_rings (s : State) (k : Nat) (f : FnSt → FnSt) : (s.onFn k f).host.rings = s.host.rings := rfl
@[simp] theorem State.onFn_host_image (s : State) (k : Nat) (f : FnSt → FnSt) : (s.onFn k f).host.image = s.host.image := rfl
@[simp] theorem State.onFn_host_heldDone (s : State) (k : Nat) (f : FnSt → FnSt) : (s.onFn k f).host.heldDone = s.host.heldDone := rfl
@[simp] theorem State.onFn_host_signals (s : State) (k : Nat) (f : FnSt → FnSt) : (s.onFn k f).host.signals = s.host.signals := rfl
@[simp] theorem State.onFn_host_eventSeq (s : State) (k : Nat) (f : FnSt → FnSt) : (s.onFn k f).host.eventSeq = s.host.eventSeq := rfl
@[simp] theorem State.onFn_host_answer (s : State) (k : Nat) (f : FnSt → FnSt) : (s.onFn k f).host.answer = s.host.answer := rfl
@[simp] theorem State.onFn_host_answerEp (s : State) (k : Nat) (f : FnSt → FnSt) : (s.onFn k f).host.answerEp = s.host.answerEp := rfl
@[simp] theorem State.onPort_dict (s : State) (p : Nat) (f : PortSt → PortSt) : (s.onPort p f).dict = s.dict := rfl
@[simp] theorem State.onPort_blobs (s : State) (p : Nat) (f : PortSt → PortSt) : (s.onPort p f).blobs = s.blobs := rfl
@[simp] theorem State.onPort_library (s : State) (p : Nat) (f : PortSt → PortSt) : (s.onPort p f).library = s.library := rfl
@[simp] theorem State.onPort_corridor (s : State) (p : Nat) (f : PortSt → PortSt) : (s.onPort p f).corridor = s.corridor := rfl
@[simp] theorem State.onPort_cores (s : State) (p : Nat) (f : PortSt → PortSt) : (s.onPort p f).cores = s.cores := rfl
@[simp] theorem State.onPort_tiles (s : State) (p : Nat) (f : PortSt → PortSt) : (s.onPort p f).tiles = s.tiles := rfl
@[simp] theorem State.onPort_mem (s : State) (p : Nat) (f : PortSt → PortSt) : (s.onPort p f).mem = s.mem := rfl
@[simp] theorem State.onPort_insts (s : State) (p : Nat) (f : PortSt → PortSt) : (s.onPort p f).insts = s.insts := rfl
@[simp] theorem State.onPort_binder (s : State) (p : Nat) (f : PortSt → PortSt) : (s.onPort p f).binder = s.binder := rfl
@[simp] theorem State.onPort_lastInst (s : State) (p : Nat) (f : PortSt → PortSt) : (s.onPort p f).lastInst = s.lastInst := rfl
@[simp] theorem State.onPort_wt (s : State) (p : Nat) (f : PortSt → PortSt) : (s.onPort p f).wt = s.wt := rfl
@[simp] theorem State.onPort_pwr (s : State) (p : Nat) (f : PortSt → PortSt) : (s.onPort p f).pwr = s.pwr := rfl
@[simp] theorem State.onPort_bell (s : State) (p : Nat) (f : PortSt → PortSt) : (s.onPort p f).bell = s.bell := rfl
@[simp] theorem State.onPort_fw (s : State) (p : Nat) (f : PortSt → PortSt) : (s.onPort p f).fw = s.fw := rfl
@[simp] theorem State.onPort_wake (s : State) (p : Nat) (f : PortSt → PortSt) : (s.onPort p f).wake = s.wake := rfl
@[simp] theorem State.onPort_flt (s : State) (p : Nat) (f : PortSt → PortSt) : (s.onPort p f).flt = s.flt := rfl
@[simp] theorem State.onPort_mgmt (s : State) (p : Nat) (f : PortSt → PortSt) : (s.onPort p f).mgmt = s.mgmt := rfl
@[simp] theorem State.onPort_tr (s : State) (p : Nat) (f : PortSt → PortSt) : (s.onPort p f).tr = s.tr := rfl
@[simp] theorem State.onPort_host (s : State) (p : Nat) (f : PortSt → PortSt) : (s.onPort p f).host = s.host := rfl
@[simp] theorem State.onPort_phys (s : State) (p : Nat) (f : PortSt → PortSt) : (s.onPort p f).phys = s.phys := rfl
@[simp] theorem State.onPort_free (s : State) (p : Nat) (f : PortSt → PortSt) : (s.onPort p f).free = s.free := rfl
@[simp] theorem State.onPort_pending (s : State) (p : Nat) (f : PortSt → PortSt) : (s.onPort p f).pending = s.pending := rfl
@[simp] theorem State.onPort_fab_nodes (s : State) (p : Nat) (f : PortSt → PortSt) : (s.onPort p f).fab.nodes = s.fab.nodes := rfl
@[simp] theorem State.onPort_fab_incarnations (s : State) (p : Nat) (f : PortSt → PortSt) : (s.onPort p f).fab.incarnations = s.fab.incarnations := rfl
@[simp] theorem State.onPort_fab_liveSince (s : State) (p : Nat) (f : PortSt → PortSt) : (s.onPort p f).fab.liveSince = s.fab.liveSince := rfl
@[simp] theorem State.onPort_fab_suspectSince (s : State) (p : Nat) (f : PortSt → PortSt) : (s.onPort p f).fab.suspectSince = s.fab.suspectSince := rfl
@[simp] theorem State.onPort_fab_heldRequests (s : State) (p : Nat) (f : PortSt → PortSt) : (s.onPort p f).fab.heldRequests = s.fab.heldRequests := rfl
@[simp] theorem State.onPort_fab_timeoutHold (s : State) (p : Nat) (f : PortSt → PortSt) : (s.onPort p f).fab.timeoutHold = s.fab.timeoutHold := rfl
@[simp] theorem State.onPort_fab_outstanding (s : State) (p : Nat) (f : PortSt → PortSt) : (s.onPort p f).fab.outstanding = s.fab.outstanding := rfl
@[simp] theorem State.onPort_fab_quarantined (s : State) (p : Nat) (f : PortSt → PortSt) : (s.onPort p f).fab.quarantined = s.fab.quarantined := rfl
@[simp] theorem State.onPort_fab_badVias (s : State) (p : Nat) (f : PortSt → PortSt) : (s.onPort p f).fab.badVias = s.fab.badVias := rfl
@[simp] theorem State.onPort_fab_draining (s : State) (p : Nat) (f : PortSt → PortSt) : (s.onPort p f).fab.draining = s.fab.draining := rfl
@[simp] theorem State.onPort_fab_drainQueue (s : State) (p : Nat) (f : PortSt → PortSt) : (s.onPort p f).fab.drainQueue = s.fab.drainQueue := rfl
@[simp] theorem State.onPort_fab_paths (s : State) (p : Nat) (f : PortSt → PortSt) : (s.onPort p f).fab.paths = s.fab.paths := rfl
@[simp] theorem State.onPort_fab_mailbox (s : State) (p : Nat) (f : PortSt → PortSt) : (s.onPort p f).fab.mailbox = s.fab.mailbox := rfl
@[simp] theorem State.onPort_fab_sent (s : State) (p : Nat) (f : PortSt → PortSt) : (s.onPort p f).fab.sent = s.fab.sent := rfl
@[simp] theorem State.onPort_fab_sentLinks (s : State) (p : Nat) (f : PortSt → PortSt) : (s.onPort p f).fab.sentLinks = s.fab.sentLinks := rfl
@[simp] theorem State.onPage_dict (s : State) (p : Nat) (f : PageDesc → PageDesc) : (s.onPage p f).dict = s.dict := rfl
@[simp] theorem State.onPage_blobs (s : State) (p : Nat) (f : PageDesc → PageDesc) : (s.onPage p f).blobs = s.blobs := rfl
@[simp] theorem State.onPage_library (s : State) (p : Nat) (f : PageDesc → PageDesc) : (s.onPage p f).library = s.library := rfl
@[simp] theorem State.onPage_corridor (s : State) (p : Nat) (f : PageDesc → PageDesc) : (s.onPage p f).corridor = s.corridor := rfl
@[simp] theorem State.onPage_cores (s : State) (p : Nat) (f : PageDesc → PageDesc) : (s.onPage p f).cores = s.cores := rfl
@[simp] theorem State.onPage_tiles (s : State) (p : Nat) (f : PageDesc → PageDesc) : (s.onPage p f).tiles = s.tiles := rfl
@[simp] theorem State.onPage_insts (s : State) (p : Nat) (f : PageDesc → PageDesc) : (s.onPage p f).insts = s.insts := rfl
@[simp] theorem State.onPage_binder (s : State) (p : Nat) (f : PageDesc → PageDesc) : (s.onPage p f).binder = s.binder := rfl
@[simp] theorem State.onPage_lastInst (s : State) (p : Nat) (f : PageDesc → PageDesc) : (s.onPage p f).lastInst = s.lastInst := rfl
@[simp] theorem State.onPage_fab (s : State) (p : Nat) (f : PageDesc → PageDesc) : (s.onPage p f).fab = s.fab := rfl
@[simp] theorem State.onPage_wt (s : State) (p : Nat) (f : PageDesc → PageDesc) : (s.onPage p f).wt = s.wt := rfl
@[simp] theorem State.onPage_pwr (s : State) (p : Nat) (f : PageDesc → PageDesc) : (s.onPage p f).pwr = s.pwr := rfl
@[simp] theorem State.onPage_bell (s : State) (p : Nat) (f : PageDesc → PageDesc) : (s.onPage p f).bell = s.bell := rfl
@[simp] theorem State.onPage_fw (s : State) (p : Nat) (f : PageDesc → PageDesc) : (s.onPage p f).fw = s.fw := rfl
@[simp] theorem State.onPage_wake (s : State) (p : Nat) (f : PageDesc → PageDesc) : (s.onPage p f).wake = s.wake := rfl
@[simp] theorem State.onPage_flt (s : State) (p : Nat) (f : PageDesc → PageDesc) : (s.onPage p f).flt = s.flt := rfl
@[simp] theorem State.onPage_mgmt (s : State) (p : Nat) (f : PageDesc → PageDesc) : (s.onPage p f).mgmt = s.mgmt := rfl
@[simp] theorem State.onPage_tr (s : State) (p : Nat) (f : PageDesc → PageDesc) : (s.onPage p f).tr = s.tr := rfl
@[simp] theorem State.onPage_host (s : State) (p : Nat) (f : PageDesc → PageDesc) : (s.onPage p f).host = s.host := rfl
@[simp] theorem State.onPage_phys (s : State) (p : Nat) (f : PageDesc → PageDesc) : (s.onPage p f).phys = s.phys := rfl
@[simp] theorem State.onPage_free (s : State) (p : Nat) (f : PageDesc → PageDesc) : (s.onPage p f).free = s.free := rfl
@[simp] theorem State.onPage_pending (s : State) (p : Nat) (f : PageDesc → PageDesc) : (s.onPage p f).pending = s.pending := rfl
@[simp] theorem State.onPage_mem_bytes (s : State) (p : Nat) (f : PageDesc → PageDesc) : (s.onPage p f).mem.bytes = s.mem.bytes := rfl
@[simp] theorem State.onPage_mem_poison (s : State) (p : Nat) (f : PageDesc → PageDesc) : (s.onPage p f).mem.poison = s.mem.poison := rfl
@[simp] theorem State.onPage_mem_pools (s : State) (p : Nat) (f : PageDesc → PageDesc) : (s.onPage p f).mem.pools = s.mem.pools := rfl
@[simp] theorem State.onPage_mem_books (s : State) (p : Nat) (f : PageDesc → PageDesc) : (s.onPage p f).mem.books = s.mem.books := rfl
@[simp] theorem State.onPage_mem_inflight (s : State) (p : Nat) (f : PageDesc → PageDesc) : (s.onPage p f).mem.inflight = s.mem.inflight := rfl
@[simp] theorem State.onPage_mem_queued (s : State) (p : Nat) (f : PageDesc → PageDesc) : (s.onPage p f).mem.queued = s.mem.queued := rfl
@[simp] theorem State.onPage_mem_lastGrant (s : State) (p : Nat) (f : PageDesc → PageDesc) : (s.onPage p f).mem.lastGrant = s.mem.lastGrant := rfl
@[simp] theorem State.onPage_mem_claim (s : State) (p : Nat) (f : PageDesc → PageDesc) : (s.onPage p f).mem.claim = s.mem.claim := rfl
@[simp] theorem State.onPage_mem_moves (s : State) (p : Nat) (f : PageDesc → PageDesc) : (s.onPage p f).mem.moves = s.mem.moves := rfl
@[simp] theorem State.onPage_mem_waitingWrites (s : State) (p : Nat) (f : PageDesc → PageDesc) : (s.onPage p f).mem.waitingWrites = s.mem.waitingWrites := rfl
@[simp] theorem State.onPage_mem_failedGranules (s : State) (p : Nat) (f : PageDesc → PageDesc) : (s.onPage p f).mem.failedGranules = s.mem.failedGranules := rfl
@[simp] theorem State.onPage_mem_suspect (s : State) (p : Nat) (f : PageDesc → PageDesc) : (s.onPage p f).mem.suspect = s.mem.suspect := rfl
@[simp] theorem State.onPage_mem_late (s : State) (p : Nat) (f : PageDesc → PageDesc) : (s.onPage p f).mem.late = s.mem.late := rfl
@[simp] theorem State.onPage_mem_retired (s : State) (p : Nat) (f : PageDesc → PageDesc) : (s.onPage p f).mem.retired = s.mem.retired := rfl
@[simp] theorem State.onPage_mem_retiredHbm (s : State) (p : Nat) (f : PageDesc → PageDesc) : (s.onPage p f).mem.retiredHbm = s.mem.retiredHbm := rfl
@[simp] theorem State.onPage_mem_retiredLib (s : State) (p : Nat) (f : PageDesc → PageDesc) : (s.onPage p f).mem.retiredLib = s.mem.retiredLib := rfl
@[simp] theorem State.onPage_mem_draining (s : State) (p : Nat) (f : PageDesc → PageDesc) : (s.onPage p f).mem.draining = s.mem.draining := rfl
@[simp] theorem State.onPage_mem_ways (s : State) (p : Nat) (f : PageDesc → PageDesc) : (s.onPage p f).mem.ways = s.mem.ways := rfl
@[simp] theorem State.onPage_mem_answer (s : State) (p : Nat) (f : PageDesc → PageDesc) : (s.onPage p f).mem.answer = s.mem.answer := rfl
@[simp] theorem State.onPage_mem_answerPage (s : State) (p : Nat) (f : PageDesc → PageDesc) : (s.onPage p f).mem.answerPage = s.mem.answerPage := rfl
@[simp] theorem State.onComp_dict (s : State) (p : Nat) (f : CompSt → CompSt) : (s.onComp p f).dict = s.dict := rfl
@[simp] theorem State.onComp_blobs (s : State) (p : Nat) (f : CompSt → CompSt) : (s.onComp p f).blobs = s.blobs := rfl
@[simp] theorem State.onComp_library (s : State) (p : Nat) (f : CompSt → CompSt) : (s.onComp p f).library = s.library := rfl
@[simp] theorem State.onComp_corridor (s : State) (p : Nat) (f : CompSt → CompSt) : (s.onComp p f).corridor = s.corridor := rfl
@[simp] theorem State.onComp_cores (s : State) (p : Nat) (f : CompSt → CompSt) : (s.onComp p f).cores = s.cores := rfl
@[simp] theorem State.onComp_tiles (s : State) (p : Nat) (f : CompSt → CompSt) : (s.onComp p f).tiles = s.tiles := rfl
@[simp] theorem State.onComp_mem (s : State) (p : Nat) (f : CompSt → CompSt) : (s.onComp p f).mem = s.mem := rfl
@[simp] theorem State.onComp_insts (s : State) (p : Nat) (f : CompSt → CompSt) : (s.onComp p f).insts = s.insts := rfl
@[simp] theorem State.onComp_binder (s : State) (p : Nat) (f : CompSt → CompSt) : (s.onComp p f).binder = s.binder := rfl
@[simp] theorem State.onComp_lastInst (s : State) (p : Nat) (f : CompSt → CompSt) : (s.onComp p f).lastInst = s.lastInst := rfl
@[simp] theorem State.onComp_fab (s : State) (p : Nat) (f : CompSt → CompSt) : (s.onComp p f).fab = s.fab := rfl
@[simp] theorem State.onComp_wt (s : State) (p : Nat) (f : CompSt → CompSt) : (s.onComp p f).wt = s.wt := rfl
@[simp] theorem State.onComp_pwr (s : State) (p : Nat) (f : CompSt → CompSt) : (s.onComp p f).pwr = s.pwr := rfl
@[simp] theorem State.onComp_bell (s : State) (p : Nat) (f : CompSt → CompSt) : (s.onComp p f).bell = s.bell := rfl
@[simp] theorem State.onComp_wake (s : State) (p : Nat) (f : CompSt → CompSt) : (s.onComp p f).wake = s.wake := rfl
@[simp] theorem State.onComp_flt (s : State) (p : Nat) (f : CompSt → CompSt) : (s.onComp p f).flt = s.flt := rfl
@[simp] theorem State.onComp_mgmt (s : State) (p : Nat) (f : CompSt → CompSt) : (s.onComp p f).mgmt = s.mgmt := rfl
@[simp] theorem State.onComp_tr (s : State) (p : Nat) (f : CompSt → CompSt) : (s.onComp p f).tr = s.tr := rfl
@[simp] theorem State.onComp_host (s : State) (p : Nat) (f : CompSt → CompSt) : (s.onComp p f).host = s.host := rfl
@[simp] theorem State.onComp_phys (s : State) (p : Nat) (f : CompSt → CompSt) : (s.onComp p f).phys = s.phys := rfl
@[simp] theorem State.onComp_free (s : State) (p : Nat) (f : CompSt → CompSt) : (s.onComp p f).free = s.free := rfl
@[simp] theorem State.onComp_pending (s : State) (p : Nat) (f : CompSt → CompSt) : (s.onComp p f).pending = s.pending := rfl
@[simp] theorem State.onComp_fw_blocked (s : State) (p : Nat) (f : CompSt → CompSt) : (s.onComp p f).fw.blocked = s.fw.blocked := rfl
@[simp] theorem State.onComp_fw_log (s : State) (p : Nat) (f : CompSt → CompSt) : (s.onComp p f).fw.log = s.fw.log := rfl
@[simp] theorem State.onComp_fw_logSeq (s : State) (p : Nat) (f : CompSt → CompSt) : (s.onComp p f).fw.logSeq = s.fw.logSeq := rfl
@[simp] theorem State.onComp_fw_logSkipped (s : State) (p : Nat) (f : CompSt → CompSt) : (s.onComp p f).fw.logSkipped = s.fw.logSkipped := rfl
@[simp] theorem State.onComp_fw_logHeld (s : State) (p : Nat) (f : CompSt → CompSt) : (s.onComp p f).fw.logHeld = s.fw.logHeld := rfl
@[simp] theorem State.onComp_fw_traceNow (s : State) (p : Nat) (f : CompSt → CompSt) : (s.onComp p f).fw.traceNow = s.fw.traceNow := rfl
@[simp] theorem State.onComp_fw_traceMs (s : State) (p : Nat) (f : CompSt → CompSt) : (s.onComp p f).fw.traceMs = s.fw.traceMs := rfl
@[simp] theorem State.onComp_fw_traceGap (s : State) (p : Nat) (f : CompSt → CompSt) : (s.onComp p f).fw.traceGap = s.fw.traceGap := rfl
@[simp] theorem State.onComp_fw_trace (s : State) (p : Nat) (f : CompSt → CompSt) : (s.onComp p f).fw.trace = s.fw.trace := rfl
@[simp] theorem State.onComp_fw_banks (s : State) (p : Nat) (f : CompSt → CompSt) : (s.onComp p f).fw.banks = s.fw.banks := rfl
@[simp] theorem State.onComp_fw_active (s : State) (p : Nat) (f : CompSt → CompSt) : (s.onComp p f).fw.active = s.fw.active := rfl
@[simp] theorem State.onComp_fw_parts (s : State) (p : Nat) (f : CompSt → CompSt) : (s.onComp p f).fw.parts = s.fw.parts := rfl
@[simp] theorem State.onComp_fw_staged (s : State) (p : Nat) (f : CompSt → CompSt) : (s.onComp p f).fw.staged = s.fw.staged := rfl
@[simp] theorem State.onComp_fw_stageNext (s : State) (p : Nat) (f : CompSt → CompSt) : (s.onComp p f).fw.stageNext = s.fw.stageNext := rfl
@[simp] theorem State.onComp_fw_revertible (s : State) (p : Nat) (f : CompSt → CompSt) : (s.onComp p f).fw.revertible = s.fw.revertible := rfl
@[simp] theorem State.onComp_fw_termId (s : State) (p : Nat) (f : CompSt → CompSt) : (s.onComp p f).fw.termId = s.fw.termId := rfl
@[simp] theorem State.onComp_fw_todo (s : State) (p : Nat) (f : CompSt → CompSt) : (s.onComp p f).fw.todo = s.fw.todo := rfl
@[simp] theorem State.onComp_fw_changed (s : State) (p : Nat) (f : CompSt → CompSt) : (s.onComp p f).fw.changed = s.fw.changed := rfl
@[simp] theorem State.onComp_fw_loaded (s : State) (p : Nat) (f : CompSt → CompSt) : (s.onComp p f).fw.loaded = s.fw.loaded := rfl
@[simp] theorem State.onComp_fw_late (s : State) (p : Nat) (f : CompSt → CompSt) : (s.onComp p f).fw.late = s.fw.late := rfl
@[simp] theorem State.onComp_fw_back (s : State) (p : Nat) (f : CompSt → CompSt) : (s.onComp p f).fw.back = s.fw.back := rfl
@[simp] theorem State.onComp_fw_backHeld (s : State) (p : Nat) (f : CompSt → CompSt) : (s.onComp p f).fw.backHeld = s.fw.backHeld := rfl
@[simp] theorem State.onComp_fw_granted (s : State) (p : Nat) (f : CompSt → CompSt) : (s.onComp p f).fw.granted = s.fw.granted := rfl
@[simp] theorem State.onComp_fw_negotiated (s : State) (p : Nat) (f : CompSt → CompSt) : (s.onComp p f).fw.negotiated = s.fw.negotiated := rfl
@[simp] theorem State.onComp_fw_hostMinor (s : State) (p : Nat) (f : CompSt → CompSt) : (s.onComp p f).fw.hostMinor = s.fw.hostMinor := rfl
@[simp] theorem State.onComp_fw_grantFn (s : State) (p : Nat) (f : CompSt → CompSt) : (s.onComp p f).fw.grantFn = s.fw.grantFn := rfl
@[simp] theorem State.onComp_fw_warned (s : State) (p : Nat) (f : CompSt → CompSt) : (s.onComp p f).fw.warned = s.fw.warned := rfl
@[simp] theorem State.onComp_fw_debugOpen (s : State) (p : Nat) (f : CompSt → CompSt) : (s.onComp p f).fw.debugOpen = s.fw.debugOpen := rfl
@[simp] theorem State.reach_dict (s : State) (t : Nat) : (s.reach t).dict = s.dict := rfl
@[simp] theorem State.reach_blobs (s : State) (t : Nat) : (s.reach t).blobs = s.blobs := rfl
@[simp] theorem State.reach_library (s : State) (t : Nat) : (s.reach t).library = s.library := rfl
@[simp] theorem State.reach_corridor (s : State) (t : Nat) : (s.reach t).corridor = s.corridor := rfl
@[simp] theorem State.reach_cores (s : State) (t : Nat) : (s.reach t).cores = s.cores := rfl
@[simp] theorem State.reach_tiles (s : State) (t : Nat) : (s.reach t).tiles = s.tiles := rfl
@[simp] theorem State.reach_mem (s : State) (t : Nat) : (s.reach t).mem = s.mem := rfl
@[simp] theorem State.reach_insts (s : State) (t : Nat) : (s.reach t).insts = s.insts := rfl
@[simp] theorem State.reach_binder (s : State) (t : Nat) : (s.reach t).binder = s.binder := rfl
@[simp] theorem State.reach_lastInst (s : State) (t : Nat) : (s.reach t).lastInst = s.lastInst := rfl
@[simp] theorem State.reach_fab (s : State) (t : Nat) : (s.reach t).fab = s.fab := rfl
@[simp] theorem State.reach_wt (s : State) (t : Nat) : (s.reach t).wt = s.wt := rfl
@[simp] theorem State.reach_pwr (s : State) (t : Nat) : (s.reach t).pwr = s.pwr := rfl
@[simp] theorem State.reach_fw (s : State) (t : Nat) : (s.reach t).fw = s.fw := rfl
@[simp] theorem State.reach_wake (s : State) (t : Nat) : (s.reach t).wake = s.wake := rfl
@[simp] theorem State.reach_flt (s : State) (t : Nat) : (s.reach t).flt = s.flt := rfl
@[simp] theorem State.reach_mgmt (s : State) (t : Nat) : (s.reach t).mgmt = s.mgmt := rfl
@[simp] theorem State.reach_tr (s : State) (t : Nat) : (s.reach t).tr = s.tr := rfl
@[simp] theorem State.reach_host (s : State) (t : Nat) : (s.reach t).host = s.host := rfl
@[simp] theorem State.reach_phys (s : State) (t : Nat) : (s.reach t).phys = s.phys := rfl
@[simp] theorem State.reach_free (s : State) (t : Nat) : (s.reach t).free = s.free := rfl
@[simp] theorem State.reach_pending (s : State) (t : Nat) : (s.reach t).pending = s.pending := rfl
@[simp] theorem State.reach_bell_state (s : State) (t : Nat) : (s.reach t).bell.state = s.bell.state := rfl
@[simp] theorem State.reach_bell_since (s : State) (t : Nat) : (s.reach t).bell.since = s.bell.since := rfl
@[simp] theorem State.reach_bell_slewFrom (s : State) (t : Nat) : (s.reach t).bell.slewFrom = s.bell.slewFrom := rfl
@[simp] theorem State.reach_bell_lastCount (s : State) (t : Nat) : (s.reach t).bell.lastCount = s.bell.lastCount := rfl
@[simp] theorem State.reach_bell_lastAt (s : State) (t : Nat) : (s.reach t).bell.lastAt = s.bell.lastAt := rfl
@[simp] theorem State.reach_bell_goodRun (s : State) (t : Nat) : (s.reach t).bell.goodRun = s.bell.goodRun := rfl
@[simp] theorem State.reach_bell_badRun (s : State) (t : Nat) : (s.reach t).bell.badRun = s.bell.badRun := rfl
@[simp] theorem State.reach_bell_slew (s : State) (t : Nat) : (s.reach t).bell.slew = s.bell.slew := rfl
@[simp] theorem State.reach_bell_discontinuity (s : State) (t : Nat) : (s.reach t).bell.discontinuity = s.bell.discontinuity := rfl
@[simp] theorem State.reach_bell_offsetPs (s : State) (t : Nat) : (s.reach t).bell.offsetPs = s.bell.offsetPs := rfl
@[simp] theorem State.reach_bell_table (s : State) (t : Nat) : (s.reach t).bell.table = s.bell.table := rfl
@[simp] theorem State.reach_bell_sweeps (s : State) (t : Nat) : (s.reach t).bell.sweeps = s.bell.sweeps := rfl
@[simp] theorem State.reach_bell_ownSample (s : State) (t : Nat) : (s.reach t).bell.ownSample = s.bell.ownSample := rfl
@[simp] theorem State.reach_bell_heldSamples (s : State) (t : Nat) : (s.reach t).bell.heldSamples = s.bell.heldSamples := rfl
@[simp] theorem State.fresh_dict (s : State) : s.fresh.dict = s.dict := rfl
@[simp] theorem State.fresh_blobs (s : State) : s.fresh.blobs = s.blobs := rfl
@[simp] theorem State.fresh_library (s : State) : s.fresh.library = s.library := rfl
@[simp] theorem State.fresh_corridor (s : State) : s.fresh.corridor = s.corridor := rfl
@[simp] theorem State.fresh_cores (s : State) : s.fresh.cores = s.cores := rfl
@[simp] theorem State.fresh_tiles (s : State) : s.fresh.tiles = s.tiles := rfl
@[simp] theorem State.fresh_mem (s : State) : s.fresh.mem = s.mem := rfl
@[simp] theorem State.fresh_insts (s : State) : s.fresh.insts = s.insts := rfl
@[simp] theorem State.fresh_binder (s : State) : s.fresh.binder = s.binder := rfl
@[simp] theorem State.fresh_lastInst (s : State) : s.fresh.lastInst = s.lastInst := rfl
@[simp] theorem State.fresh_fab (s : State) : s.fresh.fab = s.fab := rfl
@[simp] theorem State.fresh_wt (s : State) : s.fresh.wt = s.wt := rfl
@[simp] theorem State.fresh_pwr (s : State) : s.fresh.pwr = s.pwr := rfl
@[simp] theorem State.fresh_bell (s : State) : s.fresh.bell = s.bell := rfl
@[simp] theorem State.fresh_fw (s : State) : s.fresh.fw = s.fw := rfl
@[simp] theorem State.fresh_wake (s : State) : s.fresh.wake = s.wake := rfl
@[simp] theorem State.fresh_flt (s : State) : s.fresh.flt = s.flt := rfl
@[simp] theorem State.fresh_mgmt (s : State) : s.fresh.mgmt = s.mgmt := rfl
@[simp] theorem State.fresh_tr (s : State) : s.fresh.tr = s.tr := rfl
@[simp] theorem State.fresh_host (s : State) : s.fresh.host = s.host := rfl
@[simp] theorem State.fresh_phys (s : State) : s.fresh.phys = s.phys := rfl
@[simp] theorem State.fresh_pending (s : State) : s.fresh.pending = s.pending := rfl
@[simp] theorem State.inst_onCore (s : State) (c : Nat) (f : CoreSt → CoreSt) (m : Nat) : (s.onCore c f).inst m = s.inst m := rfl
@[simp] theorem State.entry_onCore (s : State) (c : Nat) (f : CoreSt → CoreSt) (m d : Nat) : (s.onCore c f).entry m d = s.entry m d := rfl
@[simp] theorem State.ring_onCore (s : State) (c : Nat) (f : CoreSt → CoreSt) (q : Nat) : (s.onCore c f).ring q = s.ring q := rfl
@[simp] theorem State.fn_onCore (s : State) (c : Nat) (f : CoreSt → CoreSt) (j : Nat) : (s.onCore c f).fn j = s.fn j := rfl
@[simp] theorem State.port_onCore (s : State) (c : Nat) (f : CoreSt → CoreSt) (q : Nat) : (s.onCore c f).port q = s.port q := rfl
@[simp] theorem State.page_onCore (s : State) (c : Nat) (f : CoreSt → CoreSt) (q : Nat) : (s.onCore c f).page q = s.page q := rfl
@[simp] theorem State.comp_onCore (s : State) (c : Nat) (f : CoreSt → CoreSt) (q : Nat) : (s.onCore c f).comp q = s.comp q := rfl
@[simp] theorem State.now_onCore (s : State) (c : Nat) (f : CoreSt → CoreSt) : (s.onCore c f).now = s.now := rfl
@[simp] theorem State.core_onInst (s : State) (n : Nat) (f : InstSt → InstSt) (d : Nat) : (s.onInst n f).core d = s.core d := rfl
@[simp] theorem State.ring_onInst (s : State) (n : Nat) (f : InstSt → InstSt) (q : Nat) : (s.onInst n f).ring q = s.ring q := rfl
@[simp] theorem State.fn_onInst (s : State) (n : Nat) (f : InstSt → InstSt) (j : Nat) : (s.onInst n f).fn j = s.fn j := rfl
@[simp] theorem State.port_onInst (s : State) (n : Nat) (f : InstSt → InstSt) (q : Nat) : (s.onInst n f).port q = s.port q := rfl
@[simp] theorem State.page_onInst (s : State) (n : Nat) (f : InstSt → InstSt) (q : Nat) : (s.onInst n f).page q = s.page q := rfl
@[simp] theorem State.comp_onInst (s : State) (n : Nat) (f : InstSt → InstSt) (q : Nat) : (s.onInst n f).comp q = s.comp q := rfl
@[simp] theorem State.now_onInst (s : State) (n : Nat) (f : InstSt → InstSt) : (s.onInst n f).now = s.now := rfl
@[simp] theorem State.core_onBind (s : State) (n : Nat) (f : BindSt → BindSt) (d : Nat) : (s.onBind n f).core d = s.core d := rfl
@[simp] theorem State.ring_onBind (s : State) (n : Nat) (f : BindSt → BindSt) (q : Nat) : (s.onBind n f).ring q = s.ring q := rfl
@[simp] theorem State.fn_onBind (s : State) (n : Nat) (f : BindSt → BindSt) (j : Nat) : (s.onBind n f).fn j = s.fn j := rfl
@[simp] theorem State.port_onBind (s : State) (n : Nat) (f : BindSt → BindSt) (q : Nat) : (s.onBind n f).port q = s.port q := rfl
@[simp] theorem State.page_onBind (s : State) (n : Nat) (f : BindSt → BindSt) (q : Nat) : (s.onBind n f).page q = s.page q := rfl
@[simp] theorem State.comp_onBind (s : State) (n : Nat) (f : BindSt → BindSt) (q : Nat) : (s.onBind n f).comp q = s.comp q := rfl
@[simp] theorem State.now_onBind (s : State) (n : Nat) (f : BindSt → BindSt) : (s.onBind n f).now = s.now := rfl
@[simp] theorem State.core_onRoster (s : State) (n : Nat) (f : RosterSt → RosterSt) (d : Nat) : (s.onRoster n f).core d = s.core d := rfl
@[simp] theorem State.ring_onRoster (s : State) (n : Nat) (f : RosterSt → RosterSt) (q : Nat) : (s.onRoster n f).ring q = s.ring q := rfl
@[simp] theorem State.fn_onRoster (s : State) (n : Nat) (f : RosterSt → RosterSt) (j : Nat) : (s.onRoster n f).fn j = s.fn j := rfl
@[simp] theorem State.port_onRoster (s : State) (n : Nat) (f : RosterSt → RosterSt) (q : Nat) : (s.onRoster n f).port q = s.port q := rfl
@[simp] theorem State.page_onRoster (s : State) (n : Nat) (f : RosterSt → RosterSt) (q : Nat) : (s.onRoster n f).page q = s.page q := rfl
@[simp] theorem State.comp_onRoster (s : State) (n : Nat) (f : RosterSt → RosterSt) (q : Nat) : (s.onRoster n f).comp q = s.comp q := rfl
@[simp] theorem State.now_onRoster (s : State) (n : Nat) (f : RosterSt → RosterSt) : (s.onRoster n f).now = s.now := rfl
@[simp] theorem State.core_onKv (s : State) (n : Nat) (f : KvSt → KvSt) (d : Nat) : (s.onKv n f).core d = s.core d := rfl
@[simp] theorem State.ring_onKv (s : State) (n : Nat) (f : KvSt → KvSt) (q : Nat) : (s.onKv n f).ring q = s.ring q := rfl
@[simp] theorem State.fn_onKv (s : State) (n : Nat) (f : KvSt → KvSt) (j : Nat) : (s.onKv n f).fn j = s.fn j := rfl
@[simp] theorem State.port_onKv (s : State) (n : Nat) (f : KvSt → KvSt) (q : Nat) : (s.onKv n f).port q = s.port q := rfl
@[simp] theorem State.page_onKv (s : State) (n : Nat) (f : KvSt → KvSt) (q : Nat) : (s.onKv n f).page q = s.page q := rfl
@[simp] theorem State.comp_onKv (s : State) (n : Nat) (f : KvSt → KvSt) (q : Nat) : (s.onKv n f).comp q = s.comp q := rfl
@[simp] theorem State.now_onKv (s : State) (n : Nat) (f : KvSt → KvSt) : (s.onKv n f).now = s.now := rfl
@[simp] theorem State.core_onReq (s : State) (n : Nat) (f : ReqSt → ReqSt) (d : Nat) : (s.onReq n f).core d = s.core d := rfl
@[simp] theorem State.ring_onReq (s : State) (n : Nat) (f : ReqSt → ReqSt) (q : Nat) : (s.onReq n f).ring q = s.ring q := rfl
@[simp] theorem State.fn_onReq (s : State) (n : Nat) (f : ReqSt → ReqSt) (j : Nat) : (s.onReq n f).fn j = s.fn j := rfl
@[simp] theorem State.port_onReq (s : State) (n : Nat) (f : ReqSt → ReqSt) (q : Nat) : (s.onReq n f).port q = s.port q := rfl
@[simp] theorem State.page_onReq (s : State) (n : Nat) (f : ReqSt → ReqSt) (q : Nat) : (s.onReq n f).page q = s.page q := rfl
@[simp] theorem State.comp_onReq (s : State) (n : Nat) (f : ReqSt → ReqSt) (q : Nat) : (s.onReq n f).comp q = s.comp q := rfl
@[simp] theorem State.now_onReq (s : State) (n : Nat) (f : ReqSt → ReqSt) : (s.onReq n f).now = s.now := rfl
@[simp] theorem State.core_onLock (s : State) (n : Nat) (f : LockSt → LockSt) (d : Nat) : (s.onLock n f).core d = s.core d := rfl
@[simp] theorem State.ring_onLock (s : State) (n : Nat) (f : LockSt → LockSt) (q : Nat) : (s.onLock n f).ring q = s.ring q := rfl
@[simp] theorem State.fn_onLock (s : State) (n : Nat) (f : LockSt → LockSt) (j : Nat) : (s.onLock n f).fn j = s.fn j := rfl
@[simp] theorem State.port_onLock (s : State) (n : Nat) (f : LockSt → LockSt) (q : Nat) : (s.onLock n f).port q = s.port q := rfl
@[simp] theorem State.page_onLock (s : State) (n : Nat) (f : LockSt → LockSt) (q : Nat) : (s.onLock n f).page q = s.page q := rfl
@[simp] theorem State.comp_onLock (s : State) (n : Nat) (f : LockSt → LockSt) (q : Nat) : (s.onLock n f).comp q = s.comp q := rfl
@[simp] theorem State.now_onLock (s : State) (n : Nat) (f : LockSt → LockSt) : (s.onLock n f).now = s.now := rfl
@[simp] theorem State.core_onStep (s : State) (n : Nat) (f : StepSt → StepSt) (d : Nat) : (s.onStep n f).core d = s.core d := rfl
@[simp] theorem State.ring_onStep (s : State) (n : Nat) (f : StepSt → StepSt) (q : Nat) : (s.onStep n f).ring q = s.ring q := rfl
@[simp] theorem State.fn_onStep (s : State) (n : Nat) (f : StepSt → StepSt) (j : Nat) : (s.onStep n f).fn j = s.fn j := rfl
@[simp] theorem State.port_onStep (s : State) (n : Nat) (f : StepSt → StepSt) (q : Nat) : (s.onStep n f).port q = s.port q := rfl
@[simp] theorem State.page_onStep (s : State) (n : Nat) (f : StepSt → StepSt) (q : Nat) : (s.onStep n f).page q = s.page q := rfl
@[simp] theorem State.comp_onStep (s : State) (n : Nat) (f : StepSt → StepSt) (q : Nat) : (s.onStep n f).comp q = s.comp q := rfl
@[simp] theorem State.now_onStep (s : State) (n : Nat) (f : StepSt → StepSt) : (s.onStep n f).now = s.now := rfl
@[simp] theorem State.core_onEntry (s : State) (n e : Nat) (f : RosterEntry → RosterEntry) (d : Nat) : (s.onEntry n e f).core d = s.core d := rfl
@[simp] theorem State.ring_onEntry (s : State) (n e : Nat) (f : RosterEntry → RosterEntry) (q : Nat) : (s.onEntry n e f).ring q = s.ring q := rfl
@[simp] theorem State.fn_onEntry (s : State) (n e : Nat) (f : RosterEntry → RosterEntry) (j : Nat) : (s.onEntry n e f).fn j = s.fn j := rfl
@[simp] theorem State.port_onEntry (s : State) (n e : Nat) (f : RosterEntry → RosterEntry) (q : Nat) : (s.onEntry n e f).port q = s.port q := rfl
@[simp] theorem State.page_onEntry (s : State) (n e : Nat) (f : RosterEntry → RosterEntry) (q : Nat) : (s.onEntry n e f).page q = s.page q := rfl
@[simp] theorem State.comp_onEntry (s : State) (n e : Nat) (f : RosterEntry → RosterEntry) (q : Nat) : (s.onEntry n e f).comp q = s.comp q := rfl
@[simp] theorem State.now_onEntry (s : State) (n e : Nat) (f : RosterEntry → RosterEntry) : (s.onEntry n e f).now = s.now := rfl
@[simp] theorem State.core_onRing (s : State) (r : Nat) (f : Ring → Ring) (d : Nat) : (s.onRing r f).core d = s.core d := rfl
@[simp] theorem State.inst_onRing (s : State) (r : Nat) (f : Ring → Ring) (m : Nat) : (s.onRing r f).inst m = s.inst m := rfl
@[simp] theorem State.entry_onRing (s : State) (r : Nat) (f : Ring → Ring) (m d : Nat) : (s.onRing r f).entry m d = s.entry m d := rfl
@[simp] theorem State.fn_onRing (s : State) (r : Nat) (f : Ring → Ring) (j : Nat) : (s.onRing r f).fn j = s.fn j := rfl
@[simp] theorem State.port_onRing (s : State) (r : Nat) (f : Ring → Ring) (q : Nat) : (s.onRing r f).port q = s.port q := rfl
@[simp] theorem State.page_onRing (s : State) (r : Nat) (f : Ring → Ring) (q : Nat) : (s.onRing r f).page q = s.page q := rfl
@[simp] theorem State.comp_onRing (s : State) (r : Nat) (f : Ring → Ring) (q : Nat) : (s.onRing r f).comp q = s.comp q := rfl
@[simp] theorem State.now_onRing (s : State) (r : Nat) (f : Ring → Ring) : (s.onRing r f).now = s.now := rfl
@[simp] theorem State.core_onFn (s : State) (k : Nat) (f : FnSt → FnSt) (d : Nat) : (s.onFn k f).core d = s.core d := rfl
@[simp] theorem State.inst_onFn (s : State) (k : Nat) (f : FnSt → FnSt) (m : Nat) : (s.onFn k f).inst m = s.inst m := rfl
@[simp] theorem State.entry_onFn (s : State) (k : Nat) (f : FnSt → FnSt) (m d : Nat) : (s.onFn k f).entry m d = s.entry m d := rfl
@[simp] theorem State.ring_onFn (s : State) (k : Nat) (f : FnSt → FnSt) (q : Nat) : (s.onFn k f).ring q = s.ring q := rfl
@[simp] theorem State.port_onFn (s : State) (k : Nat) (f : FnSt → FnSt) (q : Nat) : (s.onFn k f).port q = s.port q := rfl
@[simp] theorem State.page_onFn (s : State) (k : Nat) (f : FnSt → FnSt) (q : Nat) : (s.onFn k f).page q = s.page q := rfl
@[simp] theorem State.comp_onFn (s : State) (k : Nat) (f : FnSt → FnSt) (q : Nat) : (s.onFn k f).comp q = s.comp q := rfl
@[simp] theorem State.now_onFn (s : State) (k : Nat) (f : FnSt → FnSt) : (s.onFn k f).now = s.now := rfl
@[simp] theorem State.core_onPort (s : State) (p : Nat) (f : PortSt → PortSt) (d : Nat) : (s.onPort p f).core d = s.core d := rfl
@[simp] theorem State.inst_onPort (s : State) (p : Nat) (f : PortSt → PortSt) (m : Nat) : (s.onPort p f).inst m = s.inst m := rfl
@[simp] theorem State.entry_onPort (s : State) (p : Nat) (f : PortSt → PortSt) (m d : Nat) : (s.onPort p f).entry m d = s.entry m d := rfl
@[simp] theorem State.ring_onPort (s : State) (p : Nat) (f : PortSt → PortSt) (q : Nat) : (s.onPort p f).ring q = s.ring q := rfl
@[simp] theorem State.fn_onPort (s : State) (p : Nat) (f : PortSt → PortSt) (j : Nat) : (s.onPort p f).fn j = s.fn j := rfl
@[simp] theorem State.page_onPort (s : State) (p : Nat) (f : PortSt → PortSt) (q : Nat) : (s.onPort p f).page q = s.page q := rfl
@[simp] theorem State.comp_onPort (s : State) (p : Nat) (f : PortSt → PortSt) (q : Nat) : (s.onPort p f).comp q = s.comp q := rfl
@[simp] theorem State.now_onPort (s : State) (p : Nat) (f : PortSt → PortSt) : (s.onPort p f).now = s.now := rfl
@[simp] theorem State.core_onPage (s : State) (p : Nat) (f : PageDesc → PageDesc) (d : Nat) : (s.onPage p f).core d = s.core d := rfl
@[simp] theorem State.inst_onPage (s : State) (p : Nat) (f : PageDesc → PageDesc) (m : Nat) : (s.onPage p f).inst m = s.inst m := rfl
@[simp] theorem State.entry_onPage (s : State) (p : Nat) (f : PageDesc → PageDesc) (m d : Nat) : (s.onPage p f).entry m d = s.entry m d := rfl
@[simp] theorem State.ring_onPage (s : State) (p : Nat) (f : PageDesc → PageDesc) (q : Nat) : (s.onPage p f).ring q = s.ring q := rfl
@[simp] theorem State.fn_onPage (s : State) (p : Nat) (f : PageDesc → PageDesc) (j : Nat) : (s.onPage p f).fn j = s.fn j := rfl
@[simp] theorem State.port_onPage (s : State) (p : Nat) (f : PageDesc → PageDesc) (q : Nat) : (s.onPage p f).port q = s.port q := rfl
@[simp] theorem State.comp_onPage (s : State) (p : Nat) (f : PageDesc → PageDesc) (q : Nat) : (s.onPage p f).comp q = s.comp q := rfl
@[simp] theorem State.now_onPage (s : State) (p : Nat) (f : PageDesc → PageDesc) : (s.onPage p f).now = s.now := rfl
@[simp] theorem State.core_onComp (s : State) (p : Nat) (f : CompSt → CompSt) (d : Nat) : (s.onComp p f).core d = s.core d := rfl
@[simp] theorem State.inst_onComp (s : State) (p : Nat) (f : CompSt → CompSt) (m : Nat) : (s.onComp p f).inst m = s.inst m := rfl
@[simp] theorem State.entry_onComp (s : State) (p : Nat) (f : CompSt → CompSt) (m d : Nat) : (s.onComp p f).entry m d = s.entry m d := rfl
@[simp] theorem State.ring_onComp (s : State) (p : Nat) (f : CompSt → CompSt) (q : Nat) : (s.onComp p f).ring q = s.ring q := rfl
@[simp] theorem State.fn_onComp (s : State) (p : Nat) (f : CompSt → CompSt) (j : Nat) : (s.onComp p f).fn j = s.fn j := rfl
@[simp] theorem State.port_onComp (s : State) (p : Nat) (f : CompSt → CompSt) (q : Nat) : (s.onComp p f).port q = s.port q := rfl
@[simp] theorem State.page_onComp (s : State) (p : Nat) (f : CompSt → CompSt) (q : Nat) : (s.onComp p f).page q = s.page q := rfl
@[simp] theorem State.now_onComp (s : State) (p : Nat) (f : CompSt → CompSt) : (s.onComp p f).now = s.now := rfl
@[simp] theorem State.core_reach (s : State) (t : Nat) (d : Nat) : (s.reach t).core d = s.core d := rfl
@[simp] theorem State.inst_reach (s : State) (t : Nat) (m : Nat) : (s.reach t).inst m = s.inst m := rfl
@[simp] theorem State.entry_reach (s : State) (t : Nat) (m d : Nat) : (s.reach t).entry m d = s.entry m d := rfl
@[simp] theorem State.ring_reach (s : State) (t : Nat) (q : Nat) : (s.reach t).ring q = s.ring q := rfl
@[simp] theorem State.fn_reach (s : State) (t : Nat) (j : Nat) : (s.reach t).fn j = s.fn j := rfl
@[simp] theorem State.port_reach (s : State) (t : Nat) (q : Nat) : (s.reach t).port q = s.port q := rfl
@[simp] theorem State.page_reach (s : State) (t : Nat) (q : Nat) : (s.reach t).page q = s.page q := rfl
@[simp] theorem State.comp_reach (s : State) (t : Nat) (q : Nat) : (s.reach t).comp q = s.comp q := rfl
@[simp] theorem State.core_fresh (s : State) (d : Nat) : (s.fresh).core d = s.core d := rfl
@[simp] theorem State.inst_fresh (s : State) (m : Nat) : (s.fresh).inst m = s.inst m := rfl
@[simp] theorem State.entry_fresh (s : State) (m d : Nat) : (s.fresh).entry m d = s.entry m d := rfl
@[simp] theorem State.ring_fresh (s : State) (q : Nat) : (s.fresh).ring q = s.ring q := rfl
@[simp] theorem State.fn_fresh (s : State) (j : Nat) : (s.fresh).fn j = s.fn j := rfl
@[simp] theorem State.port_fresh (s : State) (q : Nat) : (s.fresh).port q = s.port q := rfl
@[simp] theorem State.page_fresh (s : State) (q : Nat) : (s.fresh).page q = s.page q := rfl
@[simp] theorem State.comp_fresh (s : State) (q : Nat) : (s.fresh).comp q = s.comp q := rfl
@[simp] theorem State.now_fresh (s : State) : (s.fresh).now = s.now := rfl

/-! The updated part itself -/

@[simp] theorem State.reach_now (s : State) (t : Nat) : (s.reach t).now = max s.now t := rfl
@[simp] theorem State.fresh_free (s : State) : s.fresh.free = s.free + 1 := rfl

end Sys2Proof.Machine
end

