-- ==== Sys2Proof/WellFormed.lean ====
section
/-! DEFINITION. Which commands are well formed: every number of a unit names a unit the module has (00_scope.md R14, R15,
01_architecture.md R16 to R18, 19_host_interface.md R509). -/

namespace Sys2Proof

/-- Every unit that the command names exists. -/
def Instr.wellFormed : Instr → Bool
  | .bind inst _ _ _ _ => decide (inst < 64)
  | .bindingRun => true
  | .bindingDone => true
  | .bindingClaimTimeout => true
  | .start inst _ _ _ => decide (inst < 64)
  | .release inst _ => decide (inst < 64)
  | .dismiss inst _ => decide (inst < 64)
  | .reservationTimeout inst => decide (inst < 64)
  | .fallbackRecomputeDone inst => decide (inst < 64)
  | .nop core => decide (core < 19200)
  | .li core _ _ => decide (core < 19200)
  | .add core _ _ _ _ => decide (core < 19200)
  | .sub core _ _ _ => decide (core < 19200)
  | .and core _ _ _ => decide (core < 19200)
  | .or core _ _ _ => decide (core < 19200)
  | .xor core _ _ _ => decide (core < 19200)
  | .shl core _ _ _ => decide (core < 19200)
  | .shr core _ _ _ => decide (core < 19200)
  | .mul core _ _ _ => decide (core < 19200)
  | .bnz core _ _ => decide (core < 19200)
  | .bz core _ _ => decide (core < 19200)
  | .blt core _ _ _ => decide (core < 19200)
  | .cmd core _ _ => decide (core < 19200)
  | .cmdStallEnd core => decide (core < 19200)
  | .waitc core _ _ => decide (core < 19200)
  | .waitcSatisfied core => decide (core < 19200)
  | .waitt core _ => decide (core < 19200)
  | .rel core _ _ => decide (core < 19200)
  | .mark core _ _ => decide (core < 19200)
  | .setc core _ _ => decide (core < 19200)
  | .rdc core _ _ => decide (core < 19200)
  | .sync core _ => decide (core < 19200)
  | .syncComplete core => decide (core < 19200)
  | .rdctl core _ _ => decide (core < 19200)
  | .wrctl core _ _ => decide (core < 19200)
  | .endKernel core => decide (core < 19200)
  | .blockedAccessResume core _ => decide (core < 19200)
  | .loadCommand core _ => decide (core < 19200)
  | .storeCommand core _ => decide (core < 19200)
  | .matrixCommand core _ => decide (core < 19200)
  | .vectorCommand core _ => decide (core < 19200)
  | .loadSlotCommit core _ slot _ => decide (core < 19200) && decide (slot < 768)
  | .storeAck core _ _ => decide (core < 19200)
  | .landingWrite _ => true
  | .remoteSlateRead core slot _ _ => decide (core < 19200) && decide (slot < 768)
  | .remoteReadRetry core _ slot => decide (core < 19200) && decide (slot < 768)
  | .waitLimit core => decide (core < 19200)
  | .coreRelease core => decide (core < 19200)
  | .releaseDrained core => decide (core < 19200)
  | .switchClear core inst _ => decide (core < 19200) && decide (inst < 64)
  | .conflictClear core => decide (core < 19200)
  | .tagWrite core slot _ => decide (core < 19200) && decide (slot < 768)
  | .registerWrite _ _ => true
  | .dispatchRecord die tile _ => decide (die < 25) && decide (tile < 48)
  | .kernelDispatch inst _ die tile _ => decide (inst < 64) && decide (die < 25) && decide (tile < 48)
  | .sentinelCheck core inst _ => decide (core < 19200) && decide (inst < 64)
  | .telemetryClear inst _ => decide (inst < 64)
  | .alloc _ inst _ _ _ _ => decide (inst < 64)
  | .free _ inst _ => decide (inst < 64)
  | .ref _ inst => decide (inst < 64)
  | .unref _ inst => decide (inst < 64)
  | .pin _ inst => decide (inst < 64)
  | .seal _ inst => decide (inst < 64)
  | .unseal _ => true
  | .move _ _ _ => true
  | .promotedWriteApply _ => true
  | .lowerTierReadFailed _ _ _ _ => true
  | .lowerTierLate _ _ _ => true
  | .migrationSwitch _ => true
  | .migrationFailed _ => true
  | .sourceFrameReturn _ => true
  | .bookAudit _ => true
  | .channelDrainDone _ _ => true
  | .floorWrite _ _ _ => true
  | .appendRecord inst entry _ _ _ _ _ _ => decide (inst < 64) && decide (entry < 12288)
  | .cowCopyCommit inst entry _ _ _ => decide (inst < 64) && decide (entry < 12288)
  | .swapInPageDone _ => true
  | .swapInFailed _ => true
  | .stepStart inst _ _ => decide (inst < 64)
  | .promptReadFailed inst entry => decide (inst < 64) && decide (entry < 12288)
  | .maskReadFailed inst entry => decide (inst < 64) && decide (entry < 12288)
  | .layerDispatch => true
  | .sampleDraw inst entry => decide (inst < 64) && decide (entry < 12288)
  | .ringWriteFailed ring => decide (ring < 16384)
  | .roundASend inst => decide (inst < 64)
  | .digestReceive _ _ => true
  | .roundACommit inst => decide (inst < 64)
  | .dismissalComplete inst => decide (inst < 64)
  | .roundBApply inst _ _ => decide (inst < 64)
  | .rosterAdmit inst _ _ _ _ => decide (inst < 64)
  | .rosterEnd inst _ _ => decide (inst < 64)
  | .park inst _ _ => decide (inst < 64)
  | .resume inst _ _ => decide (inst < 64)
  | .priority inst _ _ _ => decide (inst < 64)
  | .interleave inst _ _ => decide (inst < 64)
  | .notServing inst _ => decide (inst < 64)
  | .firstStepDigestTimeout inst => decide (inst < 64)
  | .lessonLoad inst _ _ _ => decide (inst < 64)
  | .lessonUnload inst _ _ => decide (inst < 64)
  | .budgetSet inst _ _ => decide (inst < 64)
  | .budgetAudit => true
  | .load _ => true
  | .store _ => true
  | .addI32 _ => true
  | .addI64 _ => true
  | .addF32 _ => true
  | .minS32 _ => true
  | .minU32 _ => true
  | .minS64 _ => true
  | .minU64 _ => true
  | .minF32 _ => true
  | .maxS32 _ => true
  | .maxU32 _ => true
  | .maxS64 _ => true
  | .maxU64 _ => true
  | .maxF32 _ => true
  | .cas32 _ => true
  | .cas64 _ => true
  | .cas128 _ => true
  | .response _ => true
  | .completion _ => true
  | .notice _ => true
  | .tolgilRelease _ _ => true
  | .control _ => true
  | .hostBridgeRequest _ _ => true
  | .hallPass port _ _ _ => decide (port < 16)
  | .heartbeat port _ _ _ _ => decide (port < 16)
  | .audit port _ _ _ _ _ _ => decide (port < 16)
  | .hallPassAuditSend port => decide (port < 16)
  | .width port _ => decide (port < 16)
  | .heartbeatSend port => decide (port < 16)
  | .flitReceive port _ _ _ => decide (port < 16)
  | .portLossOfTraining port => decide (port < 16)
  | .portSilenceTimeout port => decide (port < 16)
  | .portRetrain port _ _ _ _ _ => decide (port < 16)
  | .laneFailure port lane => decide (port < 16) && decide (lane < 4)
  | .retrainDone port _ => decide (port < 16)
  | .supervisorTimeout _ => true
  | .nodeLiveAgain _ _ => true
  | .tagQuarantineEnd die _ => decide (die < 25)
  | .routeEntryWrite _ _ _ => true
  | .routeChangeDrainEnd die _ _ => decide (die < 25)
  | .viaNoRouteEnd _ _ => true
  | .collectiveDescriptor die _ _ _ => decide (die < 25)
  | .moduleIndexWrite _ _ => true
  | .keyLoad slot _ _ _ _ _ => decide (slot < 16)
  | .keyErase slot _ => decide (slot < 16)
  | .pkgRegister _ _ _ slot _ _ _ => decide (slot < 16)
  | .pkgUnregister _ _ => true
  | .ingest _ _ _ _ _ _ _ => true
  | .segmentHostRead _ _ _ => true
  | .segmentReceive _ _ _ _ => true
  | .bufferCredit _ die => decide (die < 25)
  | .stagingAdmit inst _ => decide (inst < 64)
  | .ingestEnd _ => true
  | .memberStatus _ _ => true
  | .restore _ _ _ _ => true
  | .restoreTimeout _ => true
  | .powerLoop1us _ _ _ => true
  | .powerLoop10us _ => true
  | .sagExit => true
  | .supplyLoss => true
  | .saveComplete _ => true
  | .droopDetect die => decide (die < 25)
  | .droopRelease _ => true
  | .droopMarginFall die => decide (die < 25)
  | .junctionTrip die => decide (die < 25)
  | .hbmTrip stack => decide (stack < 12)
  | .overVoltageDisconnect => true
  | .overCurrentDisconnect => true
  | .thermalSave => true
  | .thermalHoldExit => true
  | .flowLow => true
  | .bankTest => true
  | .bankTestDone _ => true
  | .bankChargeComplete => true
  | .bankChargeTimeout => true
  | .silenceCap => true
  | .powerModeWrite _ _ => true
  | .capChange entry => decide (entry < 512)
  | .bellFrame _ => true
  | .bellLock => true
  | .bellLost => true
  | .holdoverExpired => true
  | .realign _ _ => true
  | .timetableWrite entry _ _ => decide (entry < 512)
  | .periodChange entry => decide (entry < 512)
  | .leave inst _ => decide (inst < 64)
  | .readySend inst => decide (inst < 64)
  | .ready inst _ => decide (inst < 64)
  | .lockstepResume inst _ => decide (inst < 64)
  | .cancel inst => decide (inst < 64)
  | .rollCall entry => decide (entry < 512)
  | .rollCallSampleRetry => true
  | .rollCallSample _ => true
  | .sweepClose _ => true
  | .componentMessage _ _ _ => true
  | .inboxSendTimeout _ => true
  | .watchdogMiss part => decide (part < 256)
  | .componentRestartDone part => decide (part < 256)
  | .domainViolation part => decide (part < 256)
  | .proctorCoreLost core => decide (core < 19200)
  | .logRecord part _ _ _ => decide (part < 256)
  | .tracePoint _ core _ => decide (core < 19200)
  | .termStage _ _ _ _ => true
  | .termPrepare _ _ _ => true
  | .successorLoadDone _ => true
  | .handover entry _ _ => decide (entry < 512)
  | .handBack _ _ => true
  | .handBackRetry _ _ => true
  | .termAbort _ => true
  | .termRevert _ => true
  | .negotiate _ _ _ _ => true
  | .debugUnlock _ _ => true
  | .debugLock _ => true
  | .inputInRange => true
  | .wakeW0 => true
  | .wakeW1 => true
  | .wakeW2 _ => true
  | .wakeW3 => true
  | .wakeW4 => true
  | .wakeW5 _ => true
  | .wakeW6 _ _ => true
  | .wakeW7 _ => true
  | .wakeW8 _ => true
  | .wakeW9 _ _ => true
  | .wakeW10 _ => true
  | .wakeW11 => true
  | .wakeStageTimeout => true
  | .wakeRetry => true
  | .recoveryImage _ _ _ => true
  | .perst => true
  | .moduleReset _ _ => true
  | .coreReset _ _ => true
  | .functionLevelReset fn => decide (fn < 2)
  | .d3hot fn => decide (fn < 2)
  | .dieFault die _ => decide (die < 25)
  | .saveAreaCopyDone => true
  | .coreSpare core => decide (core < 19200)
  | .frameRetire _ _ => true
  | .hostLinkLost fn => decide (fn < 2)
  | .hostLinkUp fn => decide (fn < 2)
  | .clearWindows _ _ => true
  | .read _ _ _ => true
  | .write _ _ _ => true
  | .writeIf _ _ _ => true
  | .readPart _ _ _ => true
  | .writePart _ _ _ => true
  | .describe _ _ _ => true
  | .next _ _ _ => true
  | .partStagingExpiry _ _ _ => true
  | .responseCacheExpiry _ _ => true
  | .presenceNotice => true
  | .neighbourDiscovery _ => true
  | .icmpv6Echo _ _ => true
  | .duplicateAddress => true
  | .restoreDefaults _ _ => true
  | .managementKeyWrite fn _ _ => decide (fn < 2)
  | .journalSubmit _ _ _ => true
  | .journalWrite _ => true
  | .compactionSlice => true
  | .scrub => true
  | .reformat _ _ => true
  | .wearUpdate _ => true
  | .doorbell fn ring _ => decide (fn < 2) && decide (ring < 16384)
  | .ringContextWrite fn ring _ _ => decide (fn < 2) && decide (ring < 16384)
  | .submissionFetch ring _ _ _ _ => decide (ring < 16384)
  | .coalesceTimeout ring => decide (ring < 16384)
  | .apertureBaseWrite fn _ => decide (fn < 2)
  | .apertureRead fn _ _ => decide (fn < 2)
  | .apertureWrite fn _ _ => decide (fn < 2)
  | .secureCommand fn _ _ _ _ => decide (fn < 2)
  | .secureMirror fn _ => decide (fn < 2)
  | .getVersion fn => decide (fn < 2)
  | .getCapabilities fn _ => decide (fn < 2)
  | .negotiateAlgorithms fn _ => decide (fn < 2)
  | .getDigests fn => decide (fn < 2)
  | .getCertificate fn slot => decide (fn < 2) && decide (slot < 8)
  | .challenge fn slot => decide (fn < 2) && decide (slot < 8)
  | .getMeasurements fn _ => decide (fn < 2)
  | .keyExchange fn => decide (fn < 2)
  | .finish fn _ => decide (fn < 2)
  | .keyUpdate fn => decide (fn < 2)
  | .spdmHeartbeat fn => decide (fn < 2)
  | .endSession fn => decide (fn < 2)
  | .vendorDefinedRequest fn _ _ _ _ => decide (fn < 2)
  | .ideKm fn _ => decide (fn < 2)
  | .ideStreamFailed fn => decide (fn < 2)
  | .mateClose => true
  | .mateOpen => true
  | .leakWet => true
  | .leakSensorOpen => true
  | .bypass _ => true
  | .idcode _ => true
  | .samplePreload _ => true
  | .extest _ => true
  | .extestPulse _ => true
  | .extestTrain _ => true
  | .portTrained port _ _ _ _ => decide (port < 16)
  | .perstDeasserted => true
  | .managementDatagram _ port _ _ => decide (port < 65536)
  | .delayedRestart part => decide (part < 256)

end Sys2Proof
end

