-- ==== Sys2Proof/Tests/Slice0.lean ====
section
/-! SUPPORT. Tests: an ill-formed command for each check of WellFormed, a witness for the hypotheses of each statement, and
results worked out by hand from the spec. -/

set_option autoImplicit false
set_option Elab.async false

namespace Sys2Proof.Tests

open Machine Safety

/-! ## States that tests start from -/

/-- The state after reset with this core 0. -/
def withCore (k : CoreSt) : State := { State.reset with cores := [(0, k)] }

/-- The state after reset with this index 0. -/
def withInst (i : InstSt) : State := { State.reset with insts := [(0, i)] }

/-- The state after reset with these dictionary values: index, sub-index, value. -/
def withEnt (l : List (Nat × Nat × Nat)) : State := l.foldl (fun s e => s.setEnt e.1 e.2.1 e.2.2) State.reset

/-- A property of the next state, tested. -/
def after (c : Instr) (s : State) (p : State → Bool) : Bool :=
  match exec c s with
  | .next t => p t
  | _ => false

/-- A module whose wake has reached SERVING_READY. -/
def ready : State := withEnt [(0x2550, 1, 0x21)]

/-- A command's origin: submission ring 12288, identifier 7. -/
def origin : CmdRef := { sq := 12288, cmdId := 7, opcode := 0x0101 }

/-! ## Well-formedness refuses a unit that the module does not have -/

theorem test_wf_core : (Instr.nop 19199).wellFormed = true ∧ (Instr.nop 19200).wellFormed = false := by decide
theorem test_wf_index : (Instr.dismiss 63 origin).wellFormed = true ∧ (Instr.dismiss 64 origin).wellFormed = false := by decide
theorem test_wf_slate_slot : (Instr.tagWrite 0 767 0).wellFormed = true ∧ (Instr.tagWrite 0 768 0).wellFormed = false := by decide
theorem test_wf_both_checked : (Instr.tagWrite 19200 0 0).wellFormed = false ∧ (Instr.promptReadFailed 64 0).wellFormed = false := by decide
theorem test_wf_roster_entry : (Instr.promptReadFailed 0 12287).wellFormed = true ∧ (Instr.promptReadFailed 0 12288).wellFormed = false := by decide
theorem test_wf_timetable_entry : (Instr.capChange 511).wellFormed = true ∧ (Instr.capChange 512).wellFormed = false := by decide
theorem test_wf_function : (Instr.getDigests 1).wellFormed = true ∧ (Instr.getDigests 2).wellFormed = false := by decide
theorem test_wf_certificate_slot : (Instr.getCertificate 0 7).wellFormed = true ∧ (Instr.getCertificate 0 8).wellFormed = false := by decide
theorem test_wf_key_slot : (Instr.keyErase 15 origin).wellFormed = true ∧ (Instr.keyErase 16 origin).wellFormed = false := by decide
theorem test_wf_die : (Instr.droopDetect 24).wellFormed = true ∧ (Instr.droopDetect 25).wellFormed = false := by decide
theorem test_wf_tile : (Instr.kernelDispatch 0 0 15 47 1).wellFormed = true ∧ (Instr.kernelDispatch 0 0 15 48 1).wellFormed = false := by decide
theorem test_wf_stack : (Instr.hbmTrip 11).wellFormed = true ∧ (Instr.hbmTrip 12).wellFormed = false := by decide
theorem test_wf_port : (Instr.heartbeatSend 15).wellFormed = true ∧ (Instr.heartbeatSend 16).wellFormed = false := by decide
theorem test_wf_lane : (Instr.laneFailure 0 3).wellFormed = true ∧ (Instr.laneFailure 0 4).wellFormed = false := by decide
theorem test_wf_part : (Instr.delayedRestart 255).wellFormed = true ∧ (Instr.delayedRestart 256).wellFormed = false := by decide
theorem test_wf_ring : (Instr.coalesceTimeout 16383).wellFormed = true ∧ (Instr.coalesceTimeout 16384).wellFormed = false := by decide
theorem test_wf_udp_port : (Instr.managementDatagram 0 65535 false []).wellFormed = true ∧
    (Instr.managementDatagram 0 65536 false []).wellFormed = false := by decide

/-- Every command of a core names one of 19,200. -/
theorem test_wf_core_commands : ([.li 19200 0 0, .add 19200 0 0 0 0, .bnz 19200 0 0, .cmd 19200 0 0, .cmdStallEnd 19200, .waitc 19200 0 0, .setc 19200 0 0,
    .sync 19200 0, .rdctl 19200 0 0, .wrctl 19200 0 0, .endKernel 19200, .loadCommand 19200 {}, .storeAck 19200 0 0, .waitLimit 19200, .coreRelease 19200,
    .switchClear 19200 0 0, .conflictClear 19200, .sentinelCheck 19200 0 []] : List Instr).all (fun i => !i.wellFormed) = true := by decide

/-! ## Steps and bindings -/

theorem witness_StepRunsFrontCommandOrTicks : State.reset.pending = [] ∧ State.reset.powered = false ∧ ({ State.reset with pwr := { State.reset.pwr with switchClosed := true } } : State).powered = true := by decide +kernel

theorem test_tick_wraps :
    let on : State := { State.reset with pwr := { State.reset.pwr with switchClosed := true } }
    step { on with bell := { on.bell with counter := 2 ^ 64 - 1 } } = .next on ∧ step State.reset = .next State.reset := ⟨rfl, rfl⟩

/-- A Syllabus of one tensor, one kernel of kind 12, one template and the resource needs, laid out from R33 to R46, with its CRC-32C. -/
def syllabus : Bytes :=
  le 10 0x24000400001424C5953 ++ zeros 6 ++ le 1 0x4 ++ zeros 23 ++ le 4 0x808A50BA ++ zeros 20 ++ le 5 0x100010002 ++ zeros 3 ++ le 1 0xC0 ++ zeros 7 ++ le 1 0x80 ++
  zeros 7 ++ le 5 0x100010003 ++ zeros 3 ++ le 2 0x140 ++ zeros 6 ++ le 1 0x80 ++ zeros 7 ++ le 5 0x100010004 ++ zeros 3 ++ le 2 0x1C0 ++ zeros 6 ++ le 1 0x20 ++
  zeros 7 ++ le 5 0x100010005 ++ zeros 4 ++ le 1 0x2 ++ zeros 6 ++ le 1 0x40 ++ zeros 43 ++ le 8 0xFF00FF00000E0101 ++ zeros 4 ++ le 1 0x1 ++ zeros 7 ++ le 1 0x1 ++
  zeros 7 ++ le 1 0x1 ++ zeros 7 ++ le 1 0x1 ++ zeros 7 ++ le 1 0x1 ++ zeros 7 ++ le 1 0x1 ++ zeros 9 ++ le 6 0xFFFFFFFF3F80 ++ zeros 12 ++ le 4 0xFFFFFFFF ++ zeros 44 ++ le 1 0xC ++ zeros 7 ++
  le 28 0xFFFFFFFFFFFFFFFFFFFFFFFFFFFFFFFFFFFFFFFFFFFFFFFFFFFFFFFF ++ zeros 5 ++ le 1 0xE ++ zeros 10 ++ le 1 0x1 ++ zeros 71 ++ le 1 0x2 ++ zeros 7 ++ le 1 0x1 ++
  zeros 87 ++ le 1 0x1 ++ zeros 31

/-- A placement request on one module of index 0, laid out from R522. -/
def placement : Bytes :=
  le 7 0x100014C434C50 ++ zeros 3 ++ le 5 0x100010001 ++ zeros 9 ++ le 4 0xFFFFFFFF ++ zeros 20 ++ le 1 0x1 ++ zeros 71 ++ zeros 1 ++ List.replicate 119 0xFF#8 ++ zeros 16 ++
  le 1 0x1 ++ zeros 127

def bindJob : BindJob := ⟨some syllabus, some placement, 0, origin⟩

/-- Index 0 `BINDING` with the Syllabus above, HBM frames in the books. -/
def binding : State :=
  { withEnt [(0x2550, 1, 0x21), (0x2300, 1, 0)] with
    binder := [0], insts := [(0, { bind := { state := .binding, job := some bindJob } })]
    mem := { State.reset.mem with books := List.replicate 8 ⟨0, 0, 0, 1000000⟩ } }


/-- The Syllabus with its CRC field zero. -/
def syllabusZeroed : Bytes := syllabus.take 0x28 ++ zeros 4 ++ syllabus.drop 0x2C

/-- 64 bytes of CRC-32C at a time. -/
def crcRun (k : Nat) (c : BitVec 32) : BitVec 32 := ((syllabusZeroed.drop (64 * k)).take 64).foldl crcByte c

theorem crc_split (k : Nat) (c : BitVec 32) : (syllabusZeroed.drop (64 * k)).foldl crcByte c = (syllabusZeroed.drop (64 * (k + 1))).foldl crcByte (crcRun k c) := by
  have h := List.take_append_drop 64 (syllabusZeroed.drop (64 * k))
  rw [List.drop_drop] at h
  rw [show 64 * (k + 1) = 64 * k + 64 from by omega]
  calc (syllabusZeroed.drop (64 * k)).foldl crcByte c
      = ((syllabusZeroed.drop (64 * k)).take 64 ++ syllabusZeroed.drop (64 * k + 64)).foldl crcByte c := by rw [h]
    _ = (syllabusZeroed.drop (64 * k + 64)).foldl crcByte (crcRun k c) := List.foldl_append

theorem crc_0 : crcRun 0 0xFFFFFFFF#32 = 0x7F09F54C#32 := by decide +kernel
theorem crc_1 : crcRun 1 0x7F09F54C#32 = 0xE1909A7C#32 := by decide +kernel
theorem crc_2 : crcRun 2 0xE1909A7C#32 = 0x2586A5BE#32 := by decide +kernel
theorem crc_3 : crcRun 3 0x2586A5BE#32 = 0x077693C7#32 := by decide +kernel
theorem crc_4 : crcRun 4 0x077693C7#32 = 0x9C9A47C3#32 := by decide +kernel
theorem crc_5 : crcRun 5 0x9C9A47C3#32 = 0xF2E60B8F#32 := by decide +kernel
theorem crc_6 : crcRun 6 0xF2E60B8F#32 = 0x507E6CAF#32 := by decide +kernel
theorem crc_7 : crcRun 7 0x507E6CAF#32 = 0xC84B0AF7#32 := by decide +kernel
theorem crc_8 : crcRun 8 0xC84B0AF7#32 = 0x7F75AF45#32 := by decide +kernel

theorem syllabus_crc : crc32c syllabusZeroed = 0x808A50BA := by
  have h : syllabusZeroed.foldl crcByte 0xFFFFFFFF#32 = 0x7F75AF45#32 := by
    rw [show syllabusZeroed = syllabusZeroed.drop (64 * 0) from rfl]
    rw [crc_split 0, crc_0, crc_split 1, crc_1, crc_split 2, crc_2, crc_split 3, crc_3, crc_split 4, crc_4, crc_split 5, crc_5, crc_split 6, crc_6, crc_split 7, crc_7,
      crc_split 8, crc_8, show syllabusZeroed.drop (64 * (8 + 1)) = [] from by decide +kernel]
    rfl
  unfold crc32c
  rw [h]
  rfl

theorem syllabus_container : containerCode syllabus = 0 := by
  show firstBad [_, _, (crc32c syllabusZeroed == field syllabus 0x28 4, 0x0102), _] = 0
  rw [syllabus_crc]
  decide +kernel

theorem syllabus_passes : syllabusCode syllabus binding.grantedSet = 0 := by
  unfold syllabusCode
  rw [syllabus_container]
  decide +kernel

/-- Only sizes that are free values can be short. -/
theorem binding_shortfalls : ∀ x ∈ binding.shortfalls 0 (parseProgram syllabus binding.grantedSet) (parsePlacement placement), x.resource = 10 ∨ x.resource = 14 := by
  intro x hx
  have h1 : (binding.placing 0 (parseProgram syllabus binding.grantedSet) (parsePlacement placement)).shortH = false := by decide +kernel
  have h2 : (binding.placing 0 (parseProgram syllabus binding.grantedSet) (parsePlacement placement)).shortL = false := by decide +kernel
  have h3 : (parseProgram syllabus binding.grantedSet).needs.minCores = 0 := by decide +kernel
  have h4 : binding.emptyEntry.isNone = false := by decide +kernel
  have h5 : binding.ent (instIdx 0 0x30) 1 = 0 := by decide +kernel
  have h6 : (parsePlacement placement).modules = 1 := by decide +kernel
  have h7 : (parsePlacement placement).fullFallback = false := by decide +kernel
  simp only [State.shortfalls, h1, h2, h3, h4, h5, h6, h7, List.mem_append] at hx
  simp at hx
  rcases hx with ⟨-, rfl⟩ | ⟨-, rfl⟩
  · exact .inl rfl
  · exact .inr rfl

/-- The same index with a Syllabus of no bytes, which R66 refuses with 0x0101. -/
def badBinding : State := { binding with insts := [(0, { bind := { state := .binding, job := some ⟨some [], some placement, 0, origin⟩ } })] }

theorem witness_BindQueuesAndChecks :
    State.reset.wakeStage ≠ 0x21 ∧ (binding.wakeStage = 0x21 ∧ (binding.inst 0).bind.state ≠ .free) ∧
    (ready.wakeStage = 0x21 ∧ (ready.inst 63).bind.state = .free ∧ 4 ≤ ({ ready with binder := [0, 1, 2, 3] } : State).binder.length) ∧
    (ready.binder.length < 4 ∧ placementForm placement = true) ∧
    (badBinding.binder = [0] ∧ (badBinding.inst 0).bind.claimed = false ∧ syllabusCode [] badBinding.grantedSet ≠ 0) ∧
    (binding.binder = [0] ∧ (binding.inst 0).bind.job = some bindJob ∧ (binding.inst 0).bind.claimed = false ∧
      binding.placementCode (parseProgram syllabus binding.grantedSet) (parsePlacement placement) = 0 ∧
      binding.packageOk (parseProgram syllabus binding.grantedSet) (parsePlacement placement) = true) := by decide +kernel

theorem witness_BindingClaimTimeout :
    let s := { binding with mem := { binding.mem with claim := some ⟨0, 5, 3, 0⟩ } }
    s.mem.claim = some ⟨0, 5, 3, 0⟩ ∧ (s.inst 0).bind.job = some bindJob := by decide +kernel

/-- Index 0 in a state of R55. -/
def bound (st : BindState) : State := { ready with insts := [(0, { bind := { state := st, timer := some 9 } })] }

theorem witness_BoundIndexLifecycle :
    (let s : State := { binding with insts := [(0, { bind := { state := .binding, job := some bindJob, claimed := true } })] }
     s.binder = [0] ∧ (s.inst 0).bind.job = some bindJob ∧ (s.inst 0).bind.claimed = true ∧ (s.inst 0).bind.hbmPages ≤ (s.pool 1).quota ∧ s.fw.debugOpen = false) ∧
    (let s : State := { bound .bound with bell := { ready.bell with table := [(511, { inst := 0, reserved := true })] } }
     s.wakeStage = 0x21 ∧ (s.inst 0).bind.state = .bound ∧ s.weightsComplete 0 = true ∧ 400 * s.ent (instIdx 0 0x10) 4 ≤ 400000 ∧
      ¬ 1 < (s.inst 0).bind.place.modules ∧ s.now + ticksPerMs ≤ 400000 ∧ s.ttEntry 511 = { inst := 0, reserved := true } ∧
      Sparse.wf ({} : TtEntry) s.bell.table = true) ∧
    ((bound .bound).inst 0).bind.state = .bound ∧ ((bound .binding).inst 0).bind.state = .binding ∧ ((bound .free).inst 0).bind.state = .free ∧
    ((bound .serving).inst 0).bind.state = .serving ∧ ((bound .dismissing).inst 0).bind.state = .dismissing ∧
    ((bound .bound).inst 0).bind.timer = some 9 ∧
    (let s := withInst { bind := { state := .serving }, roster := { step := some {} } }
     (s.inst 0).bind.state = .serving ∧ (s.inst 0).roster.step = some {}) ∧
    ((withInst { bind := { recomputing := true } }).inst 0).bind.recomputing = true := by decide +kernel

/-! ## Cores -/

/-- Core 0 runs a kernel; a register, a counter and two slots hold values. -/
def running : State := withCore
  { run := true, seqRunning := true, g := ⟨#[5, 3, 0xFFFFFFFFFFFFFFFF, 735, 2, 0, 0, 0, 0, 0, 0, 0, 0, 0, 0, 0], rfl⟩
    slots := [(0, { tag := .full, owner := 9 }), (735, { tag := .empty, filling := true })], arrival := [(47, 7)] }

theorem witness_SequencerRegisterInstructions : issuing running 0 := by unfold issuing; decide

/-- 5 + 3 − 1, with the immediate −1. -/
theorem test_add : after (.add 0 4 0 1 (BitVec.ofInt 44 (-1))) running (fun t => (t.core 0).g[4] == 7 && (t.core 0).pc == 8) = true := by decide
/-- −1 is below 5 as a signed number: the branch goes 2 words back. -/
theorem test_blt_signed : after (.blt 0 2 0 (BitVec.ofInt 44 (-2))) running (fun t => (t.core 0).pc == 0xFFFFFFFFFFFFFFF0) = true := by decide

/-- Core 19,199 with a full queue of each engine, and one that waits to push. -/
def stalled (w : Wait) (n : Nat) : State :=
  { State.reset with cores := [(19199, { run := true, seqRunning := true, seqWait := w, loadQ := List.replicate (2 * n) ⟨0, 0, 0, 0⟩,
                                         mathQ := List.replicate n ⟨0, 0, 0, 0⟩, storeQ := List.replicate (2 * n) ⟨0, 0, 0, 0⟩, arrival := [(5, 3)] })] }

theorem witness_QueuesCountersAndSync :
    ((stalled .none 16).core 19199).issues = true ∧ 19199 < numCores ∧ ¬ ((stalled .none 16).core 19199).loadQ.length < 32 ∧
    ((stalled (.queue .load ⟨1, 0, 0, 0⟩) 15).core 19199).seqWait = .queue .load ⟨1, 0, 0, 0⟩ ∧ ((stalled .none 15).core 19199).loadQ.length < 32 ∧
    ((stalled (.queue .math ⟨1, 0, 0, 0⟩) 15).core 19199).seqWait = .queue .math ⟨1, 0, 0, 0⟩ ∧ ((stalled .none 15).core 19199).mathQ.length < 16 ∧
    ((stalled (.queue .store ⟨1, 0, 0, 0⟩) 15).core 19199).seqWait = .queue .store ⟨1, 0, 0, 0⟩ ∧ ((stalled .none 15).core 19199).storeQ.length < 32 ∧
    0 ≤ (((stalled .none 15).core 19199).count 5 - 3).toInt ∧ ¬ 0 ≤ (((stalled .none 15).core 19199).count 5 - 4).toInt ∧
    ((stalled (.counter 5 3 true) 15).core 19199).seqWait = .counter 5 3 true ∧ ((stalled .none 15).core 19199).arrivalPoison.getLsbD 47 = false ∧
    ((stalled (.sync 7) 0).core 19199).seqWait = .sync 7 ∧ ((stalled (.sync 7) 0).core 19199).loads = [] ∧ ((stalled (.sync 7) 0).core 19199).storeQ = [] ∧
    ((stalled (.sync 7) 1).core 19199).mathQ ≠ [] := by decide

/-- A counter below its threshold by wrapping: 3 − 0x80000002 is at least 0 as a signed number. -/
theorem test_waitc_signed : after (.waitcSatisfied 19199) (stalled (.counter 5 0x80000004 true) 0) (fun t => (t.core 19199).seqWait == .none &&
    (t.core 19199).count 5 == 0x7FFFFFFF) = true := by decide

theorem witness_SlotInstructions :
    issuing running 0 ∧ ((running.core 0).slot 0).tag ≠ .empty ∧ ((running.core 0).slot 735).tag = .empty ∧ (running.core 0).g[(3 : Fin 16)] = 735 ∧
    ((running.core 0).slot 735).filling = true ∧ ((running.core 0).slot 734).filling = false ∧
    ((withCore { seqWait := .slotFull 735, slots := [(735, { tag := .poison })] }).core 0).seqWait = .slotFull 735 := by unfold issuing; decide

theorem witness_RefusedCoreCodeReleases :
    issuing running 0 ∧ 48 ≤ (48#44).toNat % 64 ∧ (13 : Fin 16).val % 4 ≠ 0 ∧ 735 < (736#44).toNat % 1024 ∧ (0x00C#44).toNat % 4096 = 0x00C ∧
    ((withCore { instValid := true, inst := 63 }).core 0).inst < 64 := by unfold issuing; decide

theorem test_setc_48_refused : after (.setc 0 0 48) running (fun t => (t.core 0).faultCause == 0x1308 && (t.core 0).count 48 == 0) = true := by decide +kernel

/-- A dispatch record for logical position 23. -/
def dispatch : DispatchRec := { inst := 63, epoch := 255, kernelId := 1, layer := 0, entry := 0x1000, mask := 2 ^ 23, g := [1, 2, 3, 4, 5, 6, 7, 8] }

theorem witness_KernelStartAndEnd :
    issuing running 0 ∧ (running.core 0).next = none ∧
    (let s : State := { State.reset with cores := [(coreNo 15 47 23, { instValid := true, inst := 63, epoch := 255 })] }
     dispatch.mask = 2 ^ 23 ∧ s.coreAt 15 47 23 = some (coreNo 15 47 23) ∧ (s.core (coreNo 15 47 23)).kernel = none ∧ s.coreFenced (coreNo 15 47 23) = false ∧
      (s.core (coreNo 15 47 23)).instValid = true ∧ (s.core (coreNo 15 47 23)).inst = dispatch.inst ∧
      (s.core (coreNo 15 47 23)).epoch = dispatch.epoch ∧ dispatch.g.length = 8) := by unfold issuing; decide

theorem witness_ReleaseAndSwitchClear :
    0 < numCores ∧ Sparse.wf {} (running.core 0).slots = true ∧ ((withCore { release := true }).core 0).release = true ∧
    (let k := (withCore { slots := [(735, { tag := .full }), (736, { tag := .full })], arrival := [(47, 1), (48, 1)] }).core 0
     k.idle = true ∧ Sparse.wf {} k.slots = true ∧ Sparse.wf 0 k.arrival = true) := by decide

theorem test_switch_clear_bounds :
    after (.switchClear 0 5 6) (withCore { slots := [(735, { tag := .full }), (736, { tag := .full })], arrival := [(47, 1), (48, 1)] }) (fun t =>
      ((t.core 0).slot 735).tag == .empty && ((t.core 0).slot 736).tag == .full && (t.core 0).count 47 == 0 && (t.core 0).count 48 == 1) = true := by decide

theorem witness_ControlPageReadsAndWrites :
    issuing running 0 ∧ (0x040#44 + 4 * 63).toNat % 4096 = 0x040 + 4 * 63 ∧ (0x01C#44).toNat % 4096 = 0x01C ∧ (0x1C0#44).toNat % 4096 = 0x1C0 ∧
    (0x3FFF0002#32).toNat % 4 < 3 := by unfold issuing; decide

/-- A beat of ones. -/
def ones : Bytes := List.replicate 64 0xFF#8

/-- A packet onto the last 64 bytes of slot 767, with its count. -/
def landing (inst epoch : Nat) : LandingPkt :=
  { core := 0, offset := 256 * 767 + 192, beats := [{ bytes := ones }], tagged := true, count := true, counter := 63, inst, epoch, owner := 8 }

theorem witness_LandingWritesRespectTagAndEpoch :
    let s (k : CoreSt) : State := withCore { k with instValid := true, inst := 3, epoch := 4 }
    (s {}).coreFenced 0 = false ∧ ones.length = 64 ∧ (landing 3 4).offset / 256 = 767 ∧ (landing 3 4).offset % 64 = 0 ∧
    ((s {}).core 0).inst = (landing 3 4).inst ∧ ((s {}).core 0).epoch = (landing 3 4).epoch ∧ (((s {}).core 0).slot 767).tag = .empty ∧
    (((s { slots := [(767, { tag := .full })] }).core 0).slot 767).tag ≠ .empty ∧ ((s {}).core 0).inst ≠ (landing 2 4).inst ∧
    ((s {}).core 0).epoch ≠ (landing 3 5).epoch := by decide

/-- An untagged packet of another instance leaves the slate alone and names the refusal. -/
theorem test_landing_other_instance :
    after (.landingWrite (landing 2 4)) (withCore { instValid := true, inst := 3, epoch := 4 }) (fun t =>
      (t.core 0).slate == [] && (t.core 0).faultCause == 0x1306 && (t.core 0).count 63 == 0) = true := by decide +kernel

/-- A tagged load with COUNT of one slot from page 0 of index 0 into slot 735. -/
def loadCmd : EngineCmd := ⟨0x0000000302DF0301, BitVec.ofNat 64 (16 * 2 ^ 52), 0, 0⟩

/-- Module 0 with page 0 owned and this core 0. -/
def paged (k : CoreSt) : State :=
  { withEnt [(0x2300, 1, 0)] with cores := [(0, k)], mem := { State.reset.mem with pages := [(0, { state := .owned, tier := .hbm })] } }

theorem witness_LoadEngineIssuesAndCommits :
    (let s := paged { loadQ := [loadCmd] }
     let k := s.core 0
     k.loadQ = [loadCmd] ∧ k.loadWait = .none ∧ loadCmd.fence = false ∧ loadCmd.loadOk = true ∧ loadCmd.nslot = 1 ∧ loadCmd.tagged = true ∧
      loadCmd.slot = 735 ∧ k.writable loadCmd.slot = true ∧ (∀ l ∈ k.loads, l.cmdNo < k.nextCmd) ∧ s.slotTarget loadCmd.addr = .memory 0 ∧
      s.accessCause k.inst false 0 = 0) ∧
    (⟨0x0000000302DF0302, 0, 0, 0⟩ : EngineCmd).loadOk = false ∧ (⟨0x0000000302E00301, 0, 0, 0⟩ : EngineCmd).loadOk = false ∧
    (let k := (withCore { loads := [{ cmdNo := 0, cmd := loadCmd, left := [0] }] }).core 0
     k.loads = [{ cmdNo := 0, cmd := loadCmd, left := [0] }] ∧ k.release = false ∧ k.arrived = [] ∧
      (List.replicate 4 ({ bytes := ones } : Beat)).length = 4 ∧ ∀ x ∈ List.replicate 4 ({ bytes := ones } : Beat), x.bytes.length = 64 ∧ x.poison = none) := by decide +kernel

/-- A consuming tagged store with ACK of slot 735 to core 1 of die 0. -/
def storeCmd : EngineCmd := ⟨0x0000084002DF1903, 0x40000, 0, 0⟩

theorem witness_StoreEngineSendsAndIsAcknowledged :
    (let s := paged { storeQ := [storeCmd], slots := [(735, { tag := .full, owner := 12 })] }
     let k := s.core 0
     k.storeQ = [storeCmd] ∧ k.storeWait = .none ∧ storeCmd.fence = false ∧ storeCmd.storeOk = true ∧ storeCmd.nslot = 1 ∧ storeCmd.counts = false ∧
      (k.slot storeCmd.slot).tag = .full ∧ (∀ l ∈ k.stores, l.cmdNo < k.nextCmd) ∧ s.slotTarget storeCmd.addr = .core 1 0) ∧
    (let k := (withCore { stores := [{ cmdNo := 4, cmd := storeCmd, todo := [], flagged := true }] }).core 0
     k.stores = [{ cmdNo := 4, cmd := storeCmd, todo := [], flagged := true }] ∧ storeCmd.ackCounter = 33 ∧ storeCmd.ack = true) := by decide +kernel

/-- A math command of a unit from slot 0 to slot 735, consuming. -/
def mathCmd (unit : Nat) : EngineCmd := ⟨BitVec.ofNat 64 (unit + 0x3FF * 2 ^ 26 + 735 * 2 ^ 36 + 2 ^ 52 + 2 ^ 54), 0, 0, 0⟩

theorem witness_MathCommandsMoveTagsAndOwners :
    (∀ u ∈ [1, 2], (mathCmd u).unit = u ∧ (mathCmd u).mathOk = true ∧ (mathCmd u).count = 1 ∧ (mathCmd u).hold = false ∧ (mathCmd u).taggedD = true ∧
      (mathCmd u).hasB = false ∧ (mathCmd u).slotA = 0 ∧ (mathCmd u).slotD = 735) ∧
    (let k := (withCore { mathQ := [mathCmd 1], slots := [(0, { tag := .full, owner := 77 })] }).core 0
     k.mathQ = [mathCmd 1] ∧ (k.slot 0).tag = .full ∧ k.writable 735 = true ∧ k.kernel = none) ∧
    (((withCore { mathQ := [mathCmd 2] }).core 0).slot 0).tag = .empty := by decide +kernel

theorem witness_WaitLimitReleases :
    (let k := (withCore { seqWait := .slotFull 3, waitLimit := 0 }).core 0
     k.seqWait ≠ .none ∧ k.waitLimit = 0) ∧
    (let s := withCore { seqWait := .slotFull 3, instValid := true, inst := 63 }
     (s.core 0).seqWait ≠ .none ∧ (s.core 0).waitLimit ≠ 0 ∧ (s.core 0).instValid = true ∧ (s.core 0).inst < 64 ∧ Sparse.wf {} s.cores = true) ∧
    (let s : State := { withEnt [(0x2300, 1, 0)] with
        cores := [(0, { slots := [(767, { tag := .full })] }), (1, { loads := [{ cmdNo := 0, cmd := ⟨1, 256 * 767, 0, 0⟩, left := [0] }] })] }
     (s.core 1).loads = [{ cmdNo := 0, cmd := ⟨1, 256 * 767, 0, 0⟩, left := [0] }] ∧ (s.core 1).arrived = [] ∧
      s.slotTarget ((⟨1, 256 * 767, 0, 0⟩ : EngineCmd).addrOf 0) = .core 0 (256 * 767) ∧ ((s.core 0).slot 767).tag = .full ∧
      ((s.core 0).slot 766).tag = .empty) := by decide +kernel

/-! ## Number formats and the sentinel -/

/-- The FP4 codes of R105, read as block elements, and the canonical scale codes. -/
theorem test_f4_codes : (List.range 8).map (fun c => (decCode 0x09 true c).1) =
    [.fin false 0 (-1), .fin false 1 (-1), .fin false 2 (-1), .fin false 3 (-1), .fin false 2 0, .fin false 3 0, .fin false 2 1, .fin false 3 1] := by decide

/-- One output element: its reduction is 1 × 1, the staged sum is given. -/
def element (staged : Num) : SentinelElem := { segments := [[{ scaleNan := false, prods := [.fin false 1 0] }]], staged, code := 0x3F80 }

/-- An output block of kernel 0 with one element. -/
def sampledOf (k row : Nat) (staged : Num) : SentinelBlock := { layer := 3, row, k, run := 0, promote := false, outFmt := 0xE, elems := [element staged] }

theorem witness_SentinelSamplesAndBreaches :
    let s := withInst {}
    19199 < numCores ∧ 63 < numInsts ∧ (sampledOf 0 0 .nan).k = 0 ∧
    (let b := sampledOf 1 0 (.fin false 1 0)
     b.k ≠ 0 ∧ (s.inst 0).sentinel = 0 ∧ (counterGen b.kernelId ((s.inst 0).roster.committed % 2 ^ 32) b.block (b.row % 2 ^ 32) (b.row / 2 ^ 32) 0).1.testBit 0 = true) ∧
    (let b := sampledOf 1 1 (.fin false 1 0)
     (∀ i < 1, (counterGen b.kernelId ((s.inst 0).roster.committed % 2 ^ 32) b.block (b.row % 2 ^ 32) (b.row / 2 ^ 32) 0).1.testBit i = false) ∧
      ¬ ∃ e ∈ b.elems, elemBreach b e = true) ∧
    (∃ e ∈ (sampledOf 1 1 (.fin false 1 1)).elems, elemBreach (sampledOf 1 1 (.fin false 1 1)) e = true) ∧
    (let s := withInst { roster := { step := some {} } }
     Sparse.wf {} s.cores = true ∧ s.peers 0 = [] ∧ s.tr.queue = [] ∧ (s.inst 0).roster.step = some {}) := by decide +kernel

theorem test_sentinel_breach :
    after (.sentinelCheck 0 0 [sampledOf 1 1 (.fin false 1 1)]) (withInst { roster := { step := some {} } }) (fun t =>
      t.ent 0x4020 5 == 1 && (t.inst 0).roster.step == some { void := true } && (t.flt.last.map (·.cause)) == some 0x1501) = true := by decide +kernel

theorem test_sentinel_sample :
    after (.sentinelCheck 0 0 [sampledOf 1 1 (.fin false 1 0)]) (withInst {}) (fun t =>
      ((sget {} (t.inst 0).telNow 3).sampled == 1) && (sget {} (t.inst 0).telNow 3).codesDiffer == 0) = true := by decide +kernel


theorem witness_ScaleCodesDecode : (254 : Nat) < 255 ∧ 0x7F % 128 = 127 ∧ 0x87 % 128 ≠ 127 ∧ 0x87 / 8 % 16 = 0 ∧ (0xFE : Nat) % 128 ≠ 127 ∧ 0xFE / 8 % 16 ≠ 0 := by decide

/-! ## Pages, pools, moves, books -/

/-- Page 5 with this descriptor, one frame of each die in the books, every HBM stack up. -/
def pageAt (d : PageDesc) : State :=
  { State.reset with
    mem := { State.reset.mem with pages := [(5, d)], books := List.replicate 8 ⟨1, 0, 0, 1⟩ }, wake := { State.reset.wake with stacksUp := 0xFFF } }

theorem witness_PageReferencesFollowStateTable :
    (let d := (pageAt { state := .owned, tier := .hbm, inst := 63, holder := 7, refs := 65534 }).page 5
     d.inst = 63 ∧ d.state ≠ .free ∧ d.state ≠ .reclaim ∧ d.refs < 65535 ∧ d.state = .owned ∧ d.holder = 7 ∧ (7 : Nat) ≠ 0x3FFF ∧ d.refs ≠ 1) ∧
    (let d := (pageAt { state := .sealed, tier := .hbm, refs := 1, holder := 0x3FFF, pins := 16383 }).page 5
     d.state = .sealed ∧ d.refs ≤ 1 ∧ d.tier = .hbm ∧ d.holder = 0x3FFF) := by decide

theorem test_last_unref_reclaims : after (.unref 5 0) (pageAt { state := .sealed, tier := .hbm, refs := 1 }) (fun t =>
    (t.page 5).state == .reclaim && (t.page 5).refs == 0 && t.mem.answer == 0) = true := by decide +kernel

theorem witness_RejectedFreesChangeNoDescriptor :
    (pageAt {}).page 5 = {} ∧ ((pageAt { state := .reclaim }).page 5).state = .reclaim ∧
    (let d := (pageAt { state := .owned, inst := 3 }).page 5
     ¬ (d.state = .free ∨ d.state = .reclaim) ∧ d.inst ≠ 63) ∧
    (let d := (pageAt { state := .owned, holder := 0x3FFF, prevHolder := 9 }).page 5
     ¬ (d.state = .free ∨ d.state = .reclaim) ∧ d.inst = 0 ∧ d.holder = 0x3FFF ∧ d.prevHolder = 9) ∧
    (let d := (pageAt { state := .sealed, holder := 8, prevHolder := 9, refs := 1 }).page 5
     ¬ (d.state = .free ∨ d.state = .reclaim) ∧ d.inst = 0 ∧ ¬ (d.holder = 0x3FFF ∧ d.prevHolder = 9) ∧ d.holder ≠ 9 ∧ d.holder ≠ 0x3FFF ∧ d.refs = 1 ∧
      ¬ (d.holder = 0x3FFF ∧ d.prevHolder = 8) ∧ d.holder = 8) ∧
    (let d := (pageAt { state := .sealed, holder := 8, refs := 2 }).page 5
     ¬ (d.holder ≠ 0x3FFF ∧ d.refs = 1)) := by decide

theorem test_double_free : after (.free 5 0 9) (pageAt { state := .owned, holder := 0x3FFF, prevHolder := 9, refs := 1 }) (fun t =>
    t.mem.answer == 3 && t.ent 0x4030 4 == 1 && (t.flt.last.map (·.cause)) == some 0x1601 && (t.page 5).refs == 1) = true := by decide +kernel

/-- Index 0 holds a reservation of one page; its pool is full or not. -/
def pooled (used : Nat) : State :=
  { pageAt {} with mem := { (pageAt {}).mem with pages := [], pools := [(1, { quota := 1, used })] } }

theorem witness_AllocGrantsOrAnswers :
    poolFree ((pooled 1).pool 1) = 0 ∧
    (let s := pooled 0
     1 ≤ poolFree (s.pool 1) ∧ s.flt.fenced.testBit 16 = false ∧ 1 ≤ (s.book false 0).free ∧ s.mappedOn 0 < 16777216 ∧
      (s.takeFrame false 0).isSome = true ∧ (s.freePageNo 0 0).isSome = true ∧ s.mem.books.length = 8) := by decide +kernel

theorem test_alloc : after (.alloc 1 0 7 2 false 16) (pooled 0) (fun t => t.mem.answer == 0 && (t.pool 1).used == 1 &&
    t.mem.pages.map (fun e => (e.2.holder, e.2.state, e.2.cls)) == [(7, .owned, 2)]) = true := by decide +kernel

def mover (d : PageDesc) (j : MoveJob) : State :=
  { pageAt d with mem := { (pageAt d).mem with moves := [j], pools := [(66, { quota := 1 })] } }

theorem witness_MovesSwitchOrLeaveTheSource :
    (let s := mover { state := .sealed, tier := .hbm } { page := 1, target := .hbm, frame := 0, copy := false }
     let d := s.page 5
     d.state = .sealed ∧ d.tier = .hbm ∧ d.poisoned = false ∧ d.migrating = false ∧ 1 ≤ poolFree (s.pool 66) ∧ (s.takeFrame true (keeperOf 5)).isSome = true) ∧
    (let j : MoveJob := { page := 5, target := .library, frame := 3, copy := false }
     let s := mover { state := .sealed, tier := .hbm, migrating := true, inst := 63 } j
     s.mem.moves = [j] ∧ j.promote = false ∧ j.restore = false ∧ j.keep = false ∧ (s.page 5).tier = .hbm ∧ (s.page 5).inst < 64) ∧
    (let j : MoveJob := { page := 5, target := .hbm, frame := 3, copy := false }
     let s := mover { state := .sealed, tier := .host } j
     s.mem.moves = [j] ∧ (s.page 5).tier = .host) ∧
    (let s : State := { pageAt {} with mem := { (pageAt {}).mem with inflight := [⟨false, 12582911, .timer 400000, 5⟩] } }
     s.mem.inflight = [⟨false, 12582911, .timer 400000, 5⟩] ∧ s.mem.books.length = 8) ∧
    (let w : WaitingWrite := { page := 5, offset := 5 * 65536 + 65472, bytes := ones }
     let s : State := { pageAt { state := .owned, tier := .hbm } with mem := { (pageAt { state := .owned, tier := .hbm }).mem with waitingWrites := [w] } }
     s.mem.waitingWrites = [w] ∧ w.offset / 65536 = 5 ∧ w.offset % 64 = 0 ∧ w.bytes.length = 64 ∧ (s.page 5).state = .owned ∧ (s.page 5).tier = .hbm ∧
      (s.page 5).migrating = false) := by decide +kernel

theorem witness_LowerTierErrorsChargeTheRightParty :
    (let d := (pageAt { state := .sealed, tier := .library, holder := 12287, inst := 63 }).page 5
     d.inst < 64 ∧ d.state ≠ .free ∧ d.tier = .library ∧ d.holder < 12288) ∧
    (let d := (pageAt { state := .sealed, tier := .library, holder := 0x3FF0 }).page 5
     d.tier = .library ∧ d.holder = 0x3FF0 ∧ d.hbmCopy = false) ∧
    (let s := mover { state := .sealed, tier := .host, holder := 7, migrating := true } { page := 5, target := .hbm, frame := 3, copy := false }
     (s.page 5).tier = .host ∧ (s.page 5).holder < 12288 ∧ s.mem.moves = [{ page := 5, target := .hbm, frame := 3, copy := false }]) := by decide +kernel

theorem witness_BooksFollowRecountAndRetirement :
    (pageAt {}).mem.books.length = 8 ∧
    (let s : State := { withEnt [(0x2610, 6, 0)] with mem := (pageAt {}).mem, flt := { State.reset.flt with toRetire := [(false, 12582911)] } }
     (false, 12582911) ∈ s.flt.toRetire ∧ 12582911 ∉ s.usedFrames false ∧ (s.retireList false (frameDie false 12582911)).length < 4095 ∧ s.sparing = false) ∧
    (let s : State := { pageAt {} with mem := { (pageAt {}).mem with draining := [(true, 3), (false, 23)] } }
     (true, 3) ∈ s.mem.draining ∧ s.groupBusy true 3 = false ∧ (false, 23) ∈ s.mem.draining ∧ s.groupBusy false 23 = false) := by decide +kernel

/-! ## The KV cache -/

/-- One layer group of one layer and one head group: a group of 16 positions takes 2 × 16 × 16 + 2 × 16 bytes. -/
def oneGroup : LayerGroup :=
  { variant := 0, window := 0, lw := 16, rw := 16, vFmt := 8, kFmt := 8, layers := [5], headGroups := 1, maxContext := 1024, layerN := 1, hgN := 1 }

/-- Index 0 serves with that group; entry 3's cache expects this position. -/
def caching (next : Nat) : State :=
  withInst { kv := { groups := [oneGroup], staging := [(cacheNo 3 0 0 0, { next })], map := [((KvSt.entryKey { groups := [oneGroup] } (cacheNo 3 0 0 0) 0), { page := 9 })]
                     copying := [(cacheNo 3 0 0 0, 9)] } }

theorem witness_KvAppendKeepsOrderAndStoresGroups :
    (∀ p ∈ [0, 14, 15], let s := caching p
      let v := (s.inst 0).kv
      v.holds 0 0 0 = true ∧ max (s.entry 0 3).committed (v.stage (cacheNo 3 0 0 0)).next = p) ∧
    ((caching 15).inst 0).kv.holds 0 1 0 = false ∧
    (let v := ((caching 15).inst 0).kv
     (v.mapAt (v.entryKey (cacheNo 3 0 0 0) 0)).page < 0xFFFFFFFE ∧ ((caching 15).page 9).refs ≤ 1) ∧
    (let s : State := { caching 0 with mem := { State.reset.mem with pages := [(9, { state := .owned, tier := .hbm, holder := 3, refs := 2 })] } }
     (s.inst 0).kv.copying = [(cacheNo 3 0 0 0, 9)] ∧ (s.page 9).inst = 0 ∧ (s.page 9).state = .owned ∧ (s.page 9).holder = 3 ∧ 2 ≤ (s.page 9).refs) := by decide +kernel

/-- A record one position early is out of order: cause 0x1702, the index is released. -/
theorem test_append_out_of_order : after (.appendRecord 0 3 0 0 0 6 [] none) (caching 7) (fun t =>
    (t.inst 0).epoch == 1 && (t.inst 0).kv == ((caching 7).inst 0).kv && (t.flt.last.map (·.cause)) == some 0x1702) = true := by decide +kernel

/-! ## The Roster -/

/-- Index 0 serves one kernel of one layer in one template; entry 7 decodes in this step. -/
def serving (st : Option StepSt) : State :=
  { withEnt [(0x2300, 1, 0), (0x4010, 1, 3)] with
    insts := [(0, { bind := { state := .serving, program := { syllabusId := zeros 16, kernels := [{ id := 0, kind := 12, variant := 0, layer := 9, inputs := [], outputs := [] }],
                                                              templates := [{ kind := 2, first := 0, count := 1, bound := 0, layers := 1 }] },
                              place := { members := [0] } },
                    roster := { entries := [(7, { seqId := 70, state := 3, ring := 12287 })], step := st } })]
    lastInst := some 0
    bell := { State.reset.bell with table := [(511, { kind := 1, inst := 0, time := 500, period := 400000, reserved := true })] } }

/-- Its step: a row that draws, with a mask, and one layer to go. -/
def oneStep : StepSt :=
  { number := 1, template := 0, layers := 1, rows := [{ entry := 7, prefill := true, first := 0, count := 1, draws := true }] }

theorem witness_StepsAreBuiltAndDispatched :
    (State.reset.inst 63).bind.state ≠ .serving ∧
    (let s := serving none
     (s.inst 0).bind.state = .serving ∧ s.suspended 0 = false ∧ s.bell.table.find? (fun x => x.2.kind == 1 && x.2.inst == 0) = some (511, s.ttEntry 511) ∧
      (s.inst 0).roster.step = none ∧ (s.inst 0).roster.backlog = []) ∧
    (let s := serving (some oneStep)
     (s.inst 0).roster.step = some oneStep ∧ s.suspended 0 = false ∧ s.nextInst = some 0 ∧ s.lastInst = some 0 ∧
      (∃ r ∈ oneStep.rows, r.entry = 7 ∧ r.prefill = true ∧ r.draws = true)) ∧
    (let s := withInst { roster := { entries := [(7, { state := 3, sampling := zeros 0x38 ++ le 4 1 })] } }
     (field (s.entry 0 7).sampling 0x38 4).testBit 0 = true) ∧
    (let st := { oneStep with nextLayer := 1 }
     let s := serving (some st)
     let p := (s.inst 0).bind.program
     (s.inst 0).roster.step = some st ∧ st.nextLayer ≠ 0 ∧ p.kernels[0]? = some ⟨0, 12, 0, 9, [], [], 0, 0, 0, 0, 0, 0, 0, []⟩ ∧
      9 = (p.layersOf st.template).getD (st.nextLayer - 1) 0 ∧ (p.kernelsOf st.template).any (fun x => x.id == 0) = true ∧
      s.tiles.any (fun t => t.1 == 15 * 48 + 47) = false ∧ (∀ c ∈ s.coreAt 15 47 23, (s.core c).next = none)) ∧
    (let s : State := { serving none with host := { State.reset.host with rings := [(16383, { assigned := some (63 * 65536 + 12287) })] } }
     (s.ring 16383).assigned = some (63 * 65536 + 12287)) := by decide +kernel

theorem test_step_start_builds : after (.stepStart 0 [] []) (serving none) (fun t =>
    ((t.inst 0).roster.step.map (fun u => (u.bell, u.number))) == some (500, 1)) = true := by decide +kernel

/-- The row of entry 7 that draws, and the step with the slice that its module holds. -/
def drawRow (poisoned : Bool) : StepRow := { entry := 7, prefill := false, first := 0, count := 1, draws := true, poisoned }
def drawSlice (cands : List Candidate) : SliceResult := ⟨0, 0x3F800000, 0x3F800000, cands⟩
def drawStep (poisoned : Bool) (cands : List Candidate) : StepSt := { oneStep with rows := [drawRow poisoned], slices := [(7, [drawSlice cands])] }

/-- The draw at temperature 0. -/
def drawing (home : Nat) (poisoned : Bool) (cands : List Candidate) : State :=
  { withInst { bind := { place := { members := [0] } }, roster := { entries := [(7, { seqId := 70, state := 3, ring := 5, home })], step := some (drawStep poisoned cands) } } with
    host := { State.reset.host with rings := [(5, { kind := 1, enable := true, sizeLog2 := 6, base := 0x1000, assigned := some 7 })], fns := [(0, { up := true })] } }

theorem witness_HomeModuleDrawsOneToken :
    ((drawing 1 false []).entry 0 7).home ≠ ((drawing 1 false []).inst 0).bind.place.rank ∧
    (∀ pz ∈ [false, true], ∀ cs ∈ [[], [⟨11, 0x3F800000⟩]],
      let s := drawing 0 pz cs
      (s.inst 0).roster.step = some (drawStep pz cs) ∧ (drawStep pz cs).rows.find? (fun x => x.entry == 7 && x.draws) = some (drawRow pz) ∧
        (drawRow pz).poisoned = pz ∧ (∀ x ∈ (drawStep pz cs).drawn, x.entry ≠ 7) ∧ (s.entry 0 7).home = (s.inst 0).bind.place.rank ∧
        (∀ f ∈ (s.inst 0).roster.faulted, f.1 ≠ 7) ∧ (drawStep pz cs).slices.find? (fun p => p.1 == 7) = some (7, [drawSlice cs]) ∧
        (s.inst 0).bind.place.modules = 1 ∧ (drawSlice cs).rank = 0 ∧ (s.fn (s.ring 5).link).up = true ∧ (s.ring 5).enable = true) ∧
    mergeCands [drawSlice []] = [] ∧ mergeCands [drawSlice [⟨11, 0x3F800000⟩]] = [⟨11, 0x3F800000⟩] ∧
    (drawFrom ((drawing 0 false []).entry 0 7).sampling 1 70 [⟨11, 0x3F800000⟩] (logSumExp [drawSlice [⟨11, 0x3F800000⟩]])).isSome = true := by decide +kernel

/-- The step's end: phase, digests held. -/
def ending (phase : Nat) (void : Bool) (a b : List Digest) : State :=
  let s := serving (some { oneStep with phase, void })
  s.onRoster 0 (fun r => { r with digestsA := a, digestsB := b })

theorem witness_StepEndExchange :
    (let s := ending 0 true [] []
     (s.inst 0).bind.state = .serving ∧ s.mismatched 0 = false) ∧
    (∀ dis ∈ [true, false], roundOf ((ending 1 false [⟨0, 0, 0, false, false, dis, 1, 0, 0, 0, []⟩] []).ranks 0)
      ((ending 1 false [⟨0, 0, 0, false, false, dis, 1, 0, 0, 0, []⟩] []).inst 0).roster.digestsA = some [⟨0, 0, 0, false, false, dis, 1, 0, 0, 0, []⟩]) ∧
    roundOf ((ending 1 false [] []).ranks 0) ((ending 1 false [] []).inst 0).roster.digestsA = none ∧ oneStep.number = 1 ∧
    ((ending 1 false [] []).inst 0).roster.dismiss = false ∧
    roundOf ((ending 2 false [] [⟨1, 0, 0, false, false, false, 1, 0, 0, 0, []⟩]).ranks 0)
      ((ending 2 false [] [⟨1, 0, 0, false, false, false, 1, 0, 0, 0, []⟩]).inst 0).roster.digestsB = some [⟨1, 0, 0, false, false, false, 1, 0, 0, 0, []⟩] ∧
    ((ending 2 false [] []).inst 0).roster.backlog = [] ∧ ((bound .dismissing).inst 0).bind.state = .dismissing := by decide +kernel

/-- A Lesson pack without sites, with its CRC-32C. -/
def pack : Bytes := le 4 0x4E53534C ++ le 2 1 ++ zeros 18 ++ le 4 0xD0CFC65B ++ zeros 36

/-- Index 0 serves with two lessons on page 4 and an enabled token ring. -/
def taught : State :=
  let s := serving none
  State.onReq { s with host := { State.reset.host with rings := [(12287, { kind := 1, enable := true, sizeLog2 := 6 })] } } 0 (fun q =>
    { q with lessons := [(0, { bytes := pack, page := 4, slot := 0 }), (65534, { bytes := pack, page := 4, slot := 1 })] })

theorem witness_RosterCommandsWaitForTheStepEnd :
    (State.reset.inst 63).bind.state ≠ .serving ∧
    (let s := taught
     let a : AdmitArgs := { seqId := 5, ring := 12287, tenant := 0, lesson := 65534, cls := 0, priority := 0, promptAddr := 0, promptLen := 1, maxNew := 1, maxPositions := 2, sampling := zeros 64 }
     (s.inst 0).bind.state = .serving ∧ (s.ring 12287).assigned = none ∧ (s.ring 12287).enable = true ∧ (s.ring 12287).kind = 1 ∧
      (s.inst 0).req.lessons.any (fun l => l.1 == a.lesson) = true ∧ matchTokens a (s.ent (instIdx 0 0x60) 2) = 0 ∧ field a.sampling 0x1E 2 = 0 ∧
      packOk (s.inst 0).bind.program [] = false ∧ packOk (s.inst 0).bind.program pack = true ∧ (s.inst 0).req.lessons.any (fun l => l.1 == 1) = false ∧
      (s.lessonPlace 0).map (·.2) = some (4, 2) ∧ (∀ e ∈ (s.inst 0).roster.entries, e.2.state = 0 ∨ e.2.lesson ≠ 65534) ∧
      ((s.inst 0).req.lessons.find? (fun l => l.1 == 65534)).isSome = true ∧ (∃ l ∈ (s.inst 0).req.lessons, l.1 ≠ 65534 ∧ l.2.page = 4) ∧
      0 < (s.inst 0).bind.program.needs.tenants ∧ s.stepOf 0 + 2 ≤ 2 ∧ (s.inst 0).req.sets.length < 4096) ∧
    (∀ x ∈ taught.insts, ∀ y ∈ x.2.req.budgets, budgetBalanced y.2 = true) ∧
    (let s := withInst { req := { budgets := [(65535, { granted := 1 })] } }
     s.insts = [(0, s.inst 0)] ∧ (s.inst 0).req.budgets = [(65535, { granted := 1 })] ∧ budgetBalanced { granted := 1 } = false) := by decide +kernel

/-! ## The fabric -/

/-- Node of M die 16 of module 0. -/
def m0 : Nat := 16

theorem witness_AtomicsStoreTheResultAndAnswerTheOldValue :
    let s := paged {}
    let q : Packet := { opcode := 0x10, node := m0, offset := 65520 }
    nodeModule q.node = s.moduleIndex ∧ nodeModule q.node < 120 ∧ s.ownTarget (nodeDie q.node) q.offset q.priv = .memory q.offset ∧
    q.offset % 16 = 0 ∧ s.accessCause q.inst q.priv q.offset = 0 ∧ (s.page (offPage q.offset)).state = .owned ∧
    (s.readBeat (q.offset - q.offset % 64) 0x3FFF).poison = none ∧ (∀ x ∈ s.mem.waitingWrites, x.page ≠ offPage q.offset) ∧ (65522 : Nat) % 4 ≠ 0 := by decide +kernel

/-- 0xFFFFFFFF + 2 wraps to 1; the next word stays 0. -/
theorem test_add_i32_wraps :
    after (.addI32 { opcode := 0x10, node := m0, offset := 8, data := le 4 2 })
      { paged {} with mem := { (paged {}).mem with bytes := [(8, 0xFF#8), (9, 0xFF#8), (10, 0xFF#8), (11, 0xFF#8)] } }
      (fun t => t.mem.bytes == [(8, 1#8)]) = true := by decide +kernel

/-- The signed minimum of −1 and 0 is −1; the unsigned one is 0. -/
theorem test_min_signed :
    after (.minS32 { opcode := 0x13, node := m0, offset := 8, data := le 4 0xFFFFFFFF }) (paged {})
      (fun t => getBytes t.mem.bytes 8 4 == le 4 0xFFFFFFFF) = true ∧
    after (.minU32 { opcode := 0x14, node := m0, offset := 8, data := le 4 0xFFFFFFFF }) (paged {}) (fun t => t.mem.bytes == []) = true := by decide +kernel

theorem witness_TargetsServePackets :
    (let s := paged {}
     let q : Packet := { opcode := 1, node := m0, offset := 65472 }
     nodeModule q.node = s.moduleIndex ∧ s.ownTarget (nodeDie q.node) q.offset q.priv = .memory q.offset ∧ s.accessCause q.inst q.priv q.offset = 0 ∧
      nodeModule q.src < 120 ∧ q.beats = 1 ∧ q.poisonMask = 0 ∧ q.count = false ∧ q.ack = false ∧ (s.page (offPage q.offset)).state = .owned ∧
      nodeModule q.src = s.moduleIndex ∧ (∀ x ∈ s.fab.outstanding, x.die ≠ nodeDie q.node ∨ x.tag ≠ q.tag) ∧ q.status ≠ 5) ∧
    (let s : State := { paged {} with mem := { State.reset.mem with pages := [(0, { state := .sealed, tier := .hbm })] } }
     (s.page 0).state = .sealed ∧ s.accessCause 0 false 65472 = 0) ∧
    (let j : LoadJob := { cmdNo := 3, cmd := loadCmd, left := [0] }
     let o : Outstanding := { die := 20, tag := 4095, node := 33, inst := 0, opcode := 1, core := 19199, cmdNo := 3 }
     let s : State := { paged {} with cores := [(19199, { loads := [j] })], fab := { State.reset.fab with outstanding := [o] } }
     s.fab.outstanding = [o] ∧ o.die = nodeDie 20 ∧ o.core < numCores ∧ j ∈ (s.core o.core).loads ∧ j.cmdNo = o.cmdNo ∧ o.slot ∈ j.left) ∧
    (let j : StoreJob := { cmdNo := 3, cmd := storeCmd, todo := [], flagged := false }
     let o : Outstanding := { die := 20, tag := 0, node := 33, inst := 0, opcode := 2, core := 0, cmdNo := 3 }
     let s : State := { paged { stores := [j] } with fab := { State.reset.fab with outstanding := [o] } }
     s.fab.outstanding = [o] ∧ (s.core o.core).stores = [j] ∧ j.cmdNo = o.cmdNo ∧ j.cmd.ack = true) ∧
    ((serving (some oneStep)).inst 0).roster.step.any (fun st => st.number == 1) = true ∧ ((serving (some oneStep)).inst 0).roster.step.any (fun st => st.number == 2) = false ∧
    64 ≤ field [64#8] 0 1 ∧
    (let s : State := { withEnt [(0x2300, 1, 0), (0x2320, 8, 0)] with host := { State.reset.host with fns := [(0, { up := true })] } }
     let q : Packet := { opcode := 2, node := 127 * 32, offset := 0x1000, data := ones }
     120 ≤ nodeModule q.node ∧ nodeDie q.node = 0 ∧ s.hopModule (nodeModule q.node) = s.moduleIndex ∧ s.moduleIndex ≠ 0xFF ∧ s.hostLinks ≠ 0 ∧
      q.data.length = 64 * q.beats) := by decide +kernel

theorem witness_serving_check : (paged {}).checkServing { opcode := 1, node := m0, offset := 65472 } = paged {} := rfl

theorem witness_CollectiveEnginesTakeTheirShare :
    let s : State := { paged { instValid := true } with
      insts := [(0, { bind := { place := { members := [0] } }, roster := { step := some {} } })], wake := { State.reset.wake with diesUp := 0x1FFFFFF } }
    let d : Collective := { op := 1, inFmt := 0x10, outFmt := 0x10, group := 0, inst := 0, epoch := 0, counter := 63, elements := 64, src := 0, dst := 256, done := 0, chunk := 256 }
    s.target d.done true = .core 0 0 ∧ (s.core 0).instValid = true ∧ (s.core 0).inst = d.inst ∧ (s.core 0).epoch = d.epoch ∧ (s.inst 0).roster.step = some {} ∧
    s.mem.failedGranules = [] ∧ s.mem.late = [] ∧ s.rankGroup d.inst d.group = [s.moduleIndex] ∧ d.elements * elemBytes d.inFmt = 256 ∧ s.takesGranule 20 0 = true ∧ s.takesGranule 23 0 = false := by decide +kernel

/-- A module with port 15 in a state. -/
def portIs (p : PortSt) : State := { withEnt [(0x2300, 1, 0), (0x2610, 6, 0)] with fab := { State.reset.fab with ports := [(15, p)] } }

theorem witness_LinkEntriesAndFlits :
    (let s := portIs { state := 2, lanes := 4, badRun := 62 }
     let st := s.port 15
     st.waiting = [] ∧ st.state = 2 ∧ booksClash 7 (passBook st 7) { held := 64 } = false ∧ booksClash 7 (passBook st 7) { held := 63 } = true ∧ s.sparing = false ∧
      st.badRun < 63 ∧ st.rxSeq = 0) ∧
    63 ≤ ((portIs { state := 2, badRun := 63 }).port 15).badRun ∧
    ((portIs { state := 2, narrowing := true }).port 15).narrowing = true ∧ (1 : Nat) ≠ (portIs {}).moduleIndex ∧
    (let s : State := { withEnt [(0x2300, 1, 0), (0x2310, 120, 7)] with fab := { State.reset.fab with ports := [(15, { state := 2 })] } }
     s.route 119 ≠ 0 ∧ (0x1FFFFFE : Nat).testBit 0 = false) ∧
    (portIs {}).moduleIndex ≠ 0xFF ∧ (1 : Nat) ≠ unle Config.serialNumber ∧
    (let s := portIs { state := 2, failedMask := 7 - 1 }
     (s.port 15).failedMask.testBit 0 = false ∧ (s.failLane 15 0).widthFor 15 ≠ 0) := by decide +kernel

theorem witness_PortsNodesAndRoutesFollowTheTables :
    (∀ k ∈ [0, 1, 2, 3], ((portIs { state := k }).port 15).state = k) ∧ ((portIs {}).port 15).held = false ∧
    (let s : State := { withEnt [(0x2300, 1, 0)] with fab := { State.reset.fab with ports := [(15, {})] } }
     s.portEnabled 15 = true ∧ s.widthFor 15 ≠ 0 ∧ (s.port 15).partner = none ∧ (119 : Nat) ≠ s.moduleIndex) ∧
    ((portIs { partner := some 119, partnerSerial := 4 }).port 15).partner = some 119 ∧
    (let s : State := { withEnt [(0x2300, 1, 0), (0x2310, 120, 7)] with
        fab := { State.reset.fab with nodes := [(119 * 32 + 31, .live)], outstanding := [{ die := 20, tag := 4095, node := 119 * 32 + 31, inst := 0, opcode := 1 }] } }
     119 * 32 + 31 < 3840 ∧ nodeModule (119 * 32 + 31) ≠ s.moduleIndex ∧ s.nodeState (119 * 32 + 31) = .live ∧
      (s.fab.outstanding.find? (fun x => x.node == 119 * 32 + 31)).isSome = true) ∧
    (let s : State := { withEnt [(0x2300, 1, 0), (0x2310, 120, 0x8000)] with
        fab := { State.reset.fab with ports := [(15, { state := 2, partner := some 119 })], draining := [(24, 4095, 3)] } }
     s.nodeState (119 * 32) = .lost ∧ s.route 119 ≠ 0 ∧ s.reachable 119 = true ∧ (24, 4095, 3) ∈ s.fab.draining ∧
      (∀ e ∈ s.fab.drainQueue, e.1 ≠ 24 ∨ e.2.node ≠ 4095 ∨ e.2.vc ≠ 3)) := by decide +kernel

/-! ## Weights -/

/-- A package of one piece of two segments, the second of one byte, with KEY_ID 9; its tag is one of AES-256-GCM worked out outside the model (R307). -/
def packageKey : KeySlot := { keyId := 9, owner := 1023, epoch := 3, key := zeros 31 ++ le 1 5, usable := true }
def packageHead : Bytes := le 4 0x474B5057 ++ le 2 1 ++ le 2 64 ++ le 8 65728 ++ le 16 77 ++ le 4 1 ++ le 4 9 ++ le 4 0xABCD ++ le 4 0
def packageTable : Bytes :=
  le 4 0 ++ le 4 0x100 ++ le 2 0xFF00 ++ le 2 1 ++ zeros 4 ++ le 8 128 ++ le 8 65537 ++ zeros 16 ++ le 4 0xFFFFFFFF ++ zeros 12
def packageBytes : Bytes := packageHead ++ le 16 0x7378d55f8e48cc72403fcb8ecd9e126e ++ packageTable
def packageOne : Package := { id := le 16 77, reader := 0, header := packageHead ++ zeros 16, table := parseTable packageBytes, members := [0] }

/-- A session's command. -/
def secured : CmdRef := { origin with secured := true }

/-- Module 0: slot 15 holds the key; owner 1023 is at epoch 3. -/
def keyed : State := { withEnt [(0x2300, 1, 0)] with wt := { State.reset.wt with keys := [(15, some packageKey)], ratchet := [(1023, 3)] } }

/-- With the package registered. -/
def registered : State := { keyed with wt := { keyed.wt with packages := [packageOne] } }

theorem witness_KeysAndPackagesAreKept :
    origin.secured = false ∧ secured.secured = true ∧ (zeros 32).length = 32 ∧ sget 0 keyed.wt.ratchet 1023 = 3 ∧ queueBytes keyed.tr.queue + 2112 ≤ 3145728 ∧
    (∀ l ∈ [[], [120], [0, 0]], membersOk l = false) ∧ membersOk [0] = true ∧ membersOk [119] = true ∧
    keyed.packageCode [] 65728 (some 15) ≠ 0 ∧ keyed.packageCode packageBytes 65728 (some 14) = 0x0B02 ∧
    keyed.packageCode packageBytes 65728 (some 15) = 0 ∧ keyed.moduleIndex < 120 ∧ keyed.wt.regs = [] ∧
    State.reset.package (le 16 77) = none ∧ registered.package (le 16 77) = some packageOne ∧ packageOne.reader = registered.moduleIndex ∧
    { packageOne with reader := 1 }.reader ≠ registered.moduleIndex ∧ (∀ j ∈ registered.wt.jobs, j.package ≠ le 16 77) := by decide +kernel

/-- A higher epoch makes the key wait for its record; the owner's earlier keys are refused from then on. -/
theorem test_key_load_epoch : after (.keyLoad 0 1 1023 4 (zeros 32) secured) keyed (fun t => (t.keySlot 0).map (·.usable) == some false &&
    sget 0 t.wt.ratchet 1023 == 4) = true := by decide +kernel

/-- This module's part of INGEST 1. -/
def memberOne (listed : Bool) : IngestMember := { ingestId := 1, package := le 16 77, first := 0, last := 0, fanout := 1, members := [0], listed }

/-- Index 0 is bound to the package and receives the piece from page 5. -/
def receiving (q : PieceSt) : State :=
  { registered with
    insts := [(0, { bind := { state := .bound, place := { packageId := le 16 77 } }, pieces := [q] })]
    wake := { State.reset.wake with diesUp := 2 ^ 25 - 1, stacksUp := 0xFFF }
    wt := { registered.wt with member := [memberOne true] } }

def halfPiece : PieceSt := { piece := 0, tensor := 0, state := 1, pass := 1, bitmap := [0], firstPage := 5, pages := 2 }
def lastDesc : SegmentDesc := { packageId := 77, ingestId := 1, pieceId := 0, segment := 1, bytes := 1, g := 1 }
/-- The byte 0x5A sealed with AES-256-GCM outside the model (R307). -/
def sealedByte : Bytes × Bytes := ([7#8], le 16 0xbb16107f43d76566932421855db63ccd)

/-- The reader's job, at the piece's first segment. -/
def readJob : IngestJob := { ingestId := 1, package := le 16 77, members := [0], listed := [0], last := 0, fanout := 1, piece := 0, segment := 0, statusAddr := 64, ref := some origin }
def reading (j : IngestJob) : State := { registered with wt := { registered.wt with jobs := [j] } }

theorem witness_SegmentsReachTheirPages :
    (let p := packageOne
     membersOk [0] = true ∧ (∀ y ∈ [(0 : Nat)], y ∈ p.members) ∧ ¬ (membersOk [1] = true ∧ ∀ y ∈ [(1 : Nat)], y ∈ p.members) ∧
     ((0 : Nat) ≤ 0 ∧ 0 < p.table.length ∧ (8 : Nat) ≤ 8) ∧ ¬ ((0 : Nat) ≤ 1 ∧ 1 < p.table.length ∧ (8 : Nat) ≤ 8) ∧ registered.wt.jobs = [] ∧
     2 ≤ (({ registered with wt := { registered.wt with jobs := [readJob, readJob] } } : State).wt.jobs.filter (fun y => y.ref.isSome)).length) ∧
    ((reading readJob).package readJob.package = some packageOne ∧ readJob.retried = false ∧ readJob.ref ≠ none ∧
      (packageOne.table[readJob.piece]?).map pieceSegments = some 2 ∧ readJob.segment + 1 < 2) ∧
    12 ≤ ({ receiving halfPiece with wt := { registered.wt with held := (List.range 12).map (fun _ => ⟨21, lastDesc, [], [], false, 0, [], []⟩) } } : State).buffersUsed (20 + lastDesc.g % 4) ∧
    (let s := receiving { halfPiece with bitmap := [] }
     let q := { halfPiece with bitmap := [] }
     s.wt.held = [] ∧ s.wt.restores = [] ∧ s.wt.member = [memberOne true] ∧ (memberOne true).ingestId = lastDesc.ingestId ∧ (memberOne true).ended = false ∧
     childrenOf (memberOne true).members (memberOne true).fanout (rankIn (memberOne true).members s.moduleIndex) = [] ∧
     s.package (le 16 lastDesc.packageId) = some packageOne ∧
     s.instsWith (fun i => i.bind.state == .bound && i.bind.place.packageId == le 16 77) = [0] ∧ s.piece 0 0 = some q ∧ q.state = 1 ∧
     lastDesc.segment ∉ q.bitmap ∧ q.library = false ∧ (packageOne.table[lastDesc.pieceId]?).map pieceSegments = some 2 ∧ q.bitmap.length + 1 < 2 ∧
     (∀ y ∈ packageOne.table, y.sidePiece ≠ lastDesc.pieceId) ∧ s.keyWith (field packageOne.header 0x24 4) = some packageKey ∧
     openSegment packageKey.key packageOne 0 1 sealedByte.1 sealedByte.2 = some [0x5A#8] ∧ openSegment packageKey.key packageOne 0 1 [] (zeros 16) = none) ∧
    (let q : PieceSt := { halfPiece with library := true, pages := 1 }
     let s := receiving q
     let s : State := { s with mem := { s.mem with books := List.replicate 8 ⟨1, 0, 0, 1⟩ } }
     s.piece 0 0 = some q ∧ s.package (s.inst 0).bind.place.packageId = some packageOne ∧ s.runPages q.firstPage 1 = [5] ∧ (s.page 5).state = .free ∧
      s.staged < 8192 ∧ (s.takeFrame false (keeperOf 5)).isSome = true ∧ s.wt.held = []) ∧
    (let s := receiving halfPiece
     let s : State := { s with wt := { s.wt with member := [memberOne false] } }
     s.wt.member = [memberOne false] ∧ (memberOne false).listed = false ∧
     s.instsWith (fun i => i.bind.state == .bound && i.bind.place.packageId == (memberOne false).package) = [0] ∧
     s.package (memberOne false).package = some packageOne ∧ (s.inst 0).pieces = [halfPiece] ∧ halfPiece.pass = (memberOne false).ingestId ∧
     (packageOne.table[halfPiece.piece]?).map pieceSegments = some 2 ∧ halfPiece.bitmap.length ≠ 2) ∧
    (let j := { readJob with ended := true, ref := some secured }
     (reading j).wt.jobs = [j] ∧ j.statuses = [] ∧ j.listed = [(⟨0, 0, 1, 0, 0⟩ : MemberStat).modIdx]) ∧
    (let s : State := { withInst { bind := { state := .serving } } with wt := { State.reset.wt with restores := [⟨5, 0, 0, 0, 0, false⟩] } }
     s.wt.restores = [⟨5, 0, 0, 0, 0, false⟩] ∧ (s.inst 0).bind.state = .serving) := by
  refine ⟨?_, ?_, ?_, ?_, ?_, ?_, ?_, ?_⟩ <;> decide +kernel

/-- A segment whose tag holds lies on its page. -/
theorem test_segment_lands : after (.segmentReceive lastDesc sealedByte.1 sealedByte.2 false) (receiving { halfPiece with bitmap := [] }) (fun t =>
    byteAt t.mem.bytes (6 * 65536) == 0x5A#8 && (t.piece 0 0).map (·.bitmap) == some [1]) = true := by decide +kernel

/-! ## Power -/

/-- With power, at serving stage, the default cap, and this power controller. -/
def live (p : PwrSt) : State := { ready with pwr := { p with switchClosed := true } }

/-- A sample of 37 temperatures at 60 °C, but the last die at `t` sixteenths. -/
def sampled (mv mw : Nat) (t : Int) : PowerSample :=
  { milliVolt := mv, milliWatt1ms := mw, milliWatt := mw, milliAmp := 20000, temps := (List.replicate 37 960).set 15 t, inlet := 0, outlet := 0, flow := 0, predictedMilliWatt := mw }

theorem witness_PowerLoopsHoldTheCap :
    (live {}).powered = true ∧ (live {}).pwr.save = none ∧ (live {}).pwr.ballast = false ∧
    (∀ v ∈ [43999, 44000], ∀ t ∈ [(0 : Int), 3000], (sampled v 900000 t).temps.length = 37) ∧ (sampled 43999 1 0).milliVolt < 44000 ∧ 44000 ≤ (sampled 44000 1 0).milliVolt ∧
    (∀ m ∈ [0, 1], (withEnt [(0x2000, 1, m)]).ent 0x2000 1 = m) ∧
    (let s := live { dutyP := 64, throttleMem := 13 }
     s.pwr.overLoop = true ∧ s.pwr.dutyP = 64 ∧ s.ent 0x2000 3 ≠ 1 ∧ s.pwr.throttleMem < 14) ∧
    (let s : State := { withEnt [(0x2000, 3, 1)] with pwr := { switchClosed := true, dutyP := 64, throttleLink := 11 } }
     s.pwr.overLoop = true ∧ s.pwr.dutyP = 64 ∧ s.ent 0x2000 3 = 1 ∧ s.pwr.throttleLink < 12) ∧
    (let s := live { overLoop := false, throttleLink := 1 }
     s.pwr.overLoop = false ∧ (∀ d, sget 0 s.pwr.dutyT d ≤ 64) ∧ s.ent 0x2000 3 ≠ 1 ∧ 0 < s.pwr.throttleLink) := by
  refine ⟨?_, ?_, ?_, ?_, ?_, ?_, ?_, ?_, ?_, ?_, fun _ => Nat.zero_le _, ?_⟩ <;> decide +kernel

/-- R344 by hand: cap 1,000 W gives a target of 970 W; 987 W is 17 W over, 64 × 17 / 1088 = 1 more of duty. -/
theorem test_power_duty : after (.powerLoop1us 987000 25000 48000) { withEnt [(0x2000, 2, 1000)] with pwr := { switchClosed := true, dutyP := 5 } }
    (fun t => t.pwr.dutyP == 6 && t.capEff == 1000000) = true := by decide +kernel

theorem witness_DroopAndTemperatureLimitsAct :
    (live {}).pwr.stretch = none ∧ (live { stretch := some 15 }).pwr.stretch = some 15 ∧
    (7500000 : Nat) * 200 ≤ (withEnt [(0x2000, 0xD, 1500)]).clock * 1000000 ∧ (withEnt [(0x2000, 0xD, 1500)]).clock * 1000000 < 7500001 * 200 ∧
    (live {}).flt.fenced.testBit 23 = false := by decide +kernel

theorem test_hbm_trip : after (.hbmTrip 11) { ready with wake := { State.reset.wake with stacksUp := 0xFFF } } (fun t => t.wake.stacksUp == 0x3F && t.flt.fenced.testBit 19) = true := by
  decide +kernel

/-- A save of this cause in progress. -/
def savingAt (bank : Bool) : State := live { save := some { cause := 0x1C02, fromBank := bank, bell := 3 } }

theorem witness_SavesStopWorkAndLeaveAnImage :
    (let s := { withEnt [(0x2550, 1, 5)] with pwr := { switchClosed := true } }
     s.powered = true ∧ s.pwr.save = none ∧ 5 ≤ s.wakeStage) ∧
    (let s := { withEnt [(0x2550, 1, 4)] with pwr := { switchClosed := true } }
     s.powered = true ∧ s.pwr.save = none ∧ s.wakeStage < 5) ∧
    (∀ b ∈ [true, false], (savingAt b).pwr.save = some { cause := 0x1C02, fromBank := b, bell := 3 }) ∧
    (let s := { withEnt [(0x2020, 3, 1)] with pwr := { switchClosed := true, thermalHold := true } }
     s.pwr.thermalHold = true ∧ s.pwr.leakHold = false ∧ s.ent 0x2020 3 = 1) := by decide +kernel

theorem test_save_ends_in_hold : after (.saveComplete true) (savingAt false) (fun t => t.pwr.thermalHold && t.wakeStage == 0x20 && (t.tr.image.map (·.whole)) == some true) = true := by
  decide +kernel

/-- Timetable entry 511 is this. -/
def timed (x : TtEntry) (l : List (Nat × Nat × Nat)) : State := { withEnt l with bell := { State.reset.bell with table := [(511, x)] } }

theorem witness_BankSilenceAndScheduledCap :
    (live { sag := true }).pwr.sag = true ∧ (savingAt true).pwr.save ≠ none ∧ (live {}).pwr.sag = false ∧ (live {}).pwr.bankTest = false ∧
    (live { bankTest := true }).pwr.bankTest = true ∧ (live {}).flt.copying = false ∧ (live { bankCharged := true }).pwr.bankCharged = true ∧
    (live {}).pwr.bankCharged = false ∧ (live {}).powered = true ∧ (withEnt [(0x2000, 7, 0)]).ent 0x2000 7 = 0 ∧ (withEnt [(0x2000, 7, 900)]).ent 0x2000 7 ≠ 0 ∧
    (withEnt [(0x2000, 7, 900)]).pwr.silent = false ∧ ((timed { kind := 2 } []).ttEntry 511).kind ≠ 3 ∧
    (∀ p ∈ [0, 1500], let s := timed { kind := 3, time := 40 } [(0x2000, 6, p)]
      (s.ttEntry 511).kind = 3 ∧ s.ent 0x2000 6 = p ∧ queueBytes s.tr.queue + 64 ≤ 3145728) ∧ ((timed { kind := 3 } []).ttEntry 511).period = 0 := by decide +kernel

/-- The pending cap becomes the cap at the entry's time, and the entry empties. -/
theorem test_cap_change : after (.capChange 511) (timed { kind := 3, time := 40 } [(0x2000, 6, 1500)]) (fun t =>
    t.ent 0x2000 2 == 1500 && t.ent 0x2000 6 == 0 && t.ttEntry 511 == {} && t.now == 40) = true := by decide +kernel

/-! ## Bell, lockstep, Roll call -/

/-- A valid frame of this count and offset; a module in service whose last frame had count 2^64 - 2048. -/
def frame (offset : Int) : BellFrame :=
  { syncOk := true, manchesterOk := true, typ := 1, count := 0, traceable := true, sourceHoldover := false, sourceId := 0, crcOk := true, offsetPs := offset }
def belled (b : BellSt) : State := { withEnt [(0x2550, 1, 5)] with bell := { b with lastCount := some (2 ^ 64 - 2048) } }

theorem witness_BellUnitFollowsItsStateTable :
    State.reset.wakeStage < 5 ∧ frameValid { frame 0 with crcOk := false } = false ∧
    (∀ o ∈ [(20000 : Int), 20001, -1000000001], frameValid (frame o) = true) ∧ ¬ 20000 < (frame 20000).offsetPs.natAbs ∧ 20000 < (frame 20001).offsetPs.natAbs ∧
    1000000000 < (frame (-1000000001)).offsetPs.natAbs ∧
    (∀ st ∈ [BellState.absent, .acquiring, .locked, .holdover, .freeRun, .slewing],
      let s := belled { state := st, goodRun := 7, badRun := 2 }
      5 ≤ s.wakeStage ∧ s.bell.state = st ∧ s.bell.lastCount = some (2 ^ 64 - 2048) ∧ (frame 0).count = (2 ^ 64 - 2048 + 2048 * (frame 0).frameTimes) % 2 ^ 64 ∧
        (frame 0).sourceId = s.ent 0x2100 7 ∧ 7 ≤ s.bell.goodRun ∧ 2 ≤ s.bell.badRun ∧ s.bell.discontinuity = false) := by decide +kernel

/-- The eighth good frame loads the counter with the frame's count plus the Bell delay: 500,000 ps are 200 ticks. -/
theorem test_bell_acquires : after (.bellFrame (frame 0)) (let s := (belled { goodRun := 7 }).setEnt 0x2100 2 500000; s) (fun t =>
    t.bell.state == .acquiring && t.bell.counter == 200) = true := by decide +kernel

/-- Index 63 serves on modules 0 and 1, its STEP_START at entry 510, and is suspended or not. -/
def lockstep (l : LockSt) (rank : Nat) (tt : TtEntry) : State :=
  { withEnt [(0x2300, 1, rank)] with
    insts := [(63, { bind := { state := .serving, place := { modules := 2, rank, members := [0, 1] } }, lock := l })]
    bell := { state := .locked, table := [(510, { kind := 1, inst := 63, time := 500, period := 400000, reserved := true }), (511, tt)] } }

theorem witness_LockstepIsLeftAndResumed :
    (let s := lockstep {} 0 {}
     (s.inst 63).bind.state = .serving ∧ s.spans 63 = true ∧ (s.inst 63).lock.leaveAt = none ∧ s.suspended 63 = false) ∧
    ¬ (State.reset.inst 63).bind.state = .serving ∧ (withInst {}).spans 0 = false ∧ State.reset.bell.state ≠ .locked ∧
    (∀ l ∈ [[], [(0 : Nat)]], let s := lockstep { leaveAt := some 0, readies := l } 0 {}
      s.suspended 63 = true ∧ s.stepStartEntry 63 = some (510, s.ttEntry 510) ∧ 0 < (s.ttEntry 510).period ∧ (s.inst 63).bind.place.rank = 0 ∧
      (1 : Nat) ∉ (s.inst 63).lock.readies ∧ s.bell.state = .locked ∧ (s.inst 63).bind.place.modules = 2 ∧ (s.inst 63).lock.readies = l) ∧
    (let s := lockstep {} 0 { kind := 2, inst := 63, time := 500, arg := 400 * 700 }
     (s.ttEntry 511).kind = 2 ∧ (s.ttEntry 511).inst = 63 ∧ (s.ttEntry 511).period = 0 ∧ (s.fireEntry 511).stepStartEntry 63 = some (510, s.ttEntry 510) ∧
     400 * s.ent (0x4010 + 0x100 * 63) 4 ≤ (s.ttEntry 511).arg ∧ (s.ttEntry 510).time = (s.ttEntry 511).time) ∧
    (let s := lockstep {} 0 { kind := 2, inst := 63, time := 501, arg := 400 * 700 }
     (s.fireEntry 511).stepStartEntry 63 = some (510, s.ttEntry 510) ∧ (s.ttEntry 510).time ≠ (s.ttEntry 511).time) ∧
    ((lockstep {} 0 { kind := 3 }).ttEntry 511).kind ≠ 2 := by
  refine ⟨?_, ?_, ?_, ?_, ?_, ?_, ?_, ?_⟩ <;> decide +kernel

theorem test_period_change : after (.periodChange 511) (lockstep {} 0 { kind := 2, inst := 63, time := 500, arg := 280000 }) (fun t =>
    (t.ttEntry 510).period == 280000 && t.ent 0x7F80 1 == 280000 && t.ttEntry 511 == {}) = true := by decide +kernel

/-- Module 0 collects the samples of modules 0 and 119; entry 511 is a ROLL_CALL for this collector with a delay of 2 tens of µs. -/
def rolling (arg : Nat) (b : BellSt) : State :=
  (withEnt [(0x2300, 1, 0)]).setBlob 0x2120 1 (le 16 (1 + 2 ^ 119)) |> fun s => { s with bell := { b with table := [(511, { kind := 4, time := 700, arg })] } }

/-- A sample of module `m` for count 700. -/
def sampleOf (m : Nat) : Bytes := le 8 700 ++ le 1 m ++ zeros 55

theorem witness_RollCallSweepsCollectOneSampleEach :
    ((timed { kind := 3 } []).ttEntry 511).kind ≠ 4 ∧
    (let s := rolling (2 * 65536) {}
     let x := s.ttEntry 511
     x.kind = 4 ∧ bits x.arg 6 0 = s.moduleIndex ∧ s.bell.heldSamples = [] ∧ s.rollMembers.testBit s.moduleIndex = true ∧ s.bell.ownSample = none) ∧
    (State.reset.rollMembers.testBit 0 = false) ∧
    (let s := rolling 119 {}
     (s.ttEntry 511).kind = 4 ∧ bits (s.ttEntry 511).arg 6 0 ≠ s.moduleIndex) ∧
    (let s := rolling 0 { ownSample := some (119, 41, []), counter := 42 }
     s.bell.ownSample = some (119, 41, []) ∧ 41 < s.now) ∧
    (let s := rolling 0 { sweeps := [{ bell := 700, close := 80700 }] }
     field (sampleOf 118) 8 1 = 118 ∧ s.rollMembers.testBit 118 = false ∧ field (sampleOf 119) 8 1 = 119 ∧ s.rollMembers.testBit 119 = true ∧
     s.bell.sweeps = [{ bell := 700, close := 80700 }] ∧ (700 : Nat) = field (sampleOf 119) 0 8 ∧ ∀ y ∈ s.bell.sweeps, y.bell ≠ 701) := by decide +kernel

theorem test_sweep_short : after (.sweepClose 700) (rolling 0 { sweeps := [{ bell := 700, close := 80700, samples := [(119, sampleOf 119)] }] }) (fun t =>
    t.bell.sweeps == [] && t.ent 0x2120 3 == 1 && (t.blob 0x2120 2).length == 128 && t.now == 80700) = true := by decide +kernel

/-! ## Firmware -/

/-- Component 8 is this; every Proctor core works. -/
def component (c : CompSt) : State :=
  let s := withEnt [(0x2500, 8, 0x3F), (0x2530, 1, 3)]
  { s with fw := { s.fw with comps := [(8, c)] } }

/-- Component 4 waits to send to component 8. -/
def blockedOn (l : List (Nat × Nat × Bytes)) : State := { component {} with fw := { (component {}).fw with blocked := l } }

/-- Trace point 4095 is enabled; its ring 7 is as said. -/
def tracing (r : Ring) : State :=
  let s := (withEnt [(0x2540, 2, 7), (0x2540, 3, 1)]).setBlob 0x2540 1 (zeros 511 ++ le 1 128)
  { s with fw := { s.fw with traceMs := 1 }, host := { s.host with rings := [(7, r)], fns := [(0, { up := true })] } }

theorem witness_ComponentsRestartAndRecord :
    ((component { running := true }).comp 8).running = true ∧ ((component {}).comp 8).running = false ∧
    ((component { inbox := List.replicate 31 [] }).comp 8).inbox.length < 32 ∧ 32 ≤ ((component { inbox := List.replicate 32 [] }).comp 8).inbox.length ∧
    (zeros 256).length ≤ 256 ∧ (blockedOn []).fw.blocked = [] ∧ (blockedOn [(4, 8, [])]).fw.blocked = [(4, 8, [])] ∧
    ((component {}).comp 8).delayed = false ∧ ((component {}).comp 8).restarting = false ∧ ((component {}).comp 8).restarts = [] ∧ (component {}).fw.staged < 3 ∧
    ((component { running := true }).comp 8).unstable = false ∧ ((component { delayed := true }).comp 8).delayed = true ∧
    ((component { running := true, unstable := true }).comp 8).unstable = true ∧ ((component { restarting := true }).comp 8).restarting = true ∧
    (component {}).tr.queue = [] ∧ ((withEnt [(0x2500, 8, 0x1F)]).ent 0x2500 8).testBit 5 = false ∧ ((component {}).ent 0x2500 8).testBit 5 = true ∧
    ((component {}).ent 0x2500 8).testBit 0 = true ∧ ((component { home := 5 }).comp 8).home = 5 ∧ (withEnt [(0x2500, 8, 2 ^ 5)]).ent 0x2500 8 = 2 ^ 5 ∧
    (component {}).ent 0x2530 1 = 3 := by decide +kernel

theorem witness_TracePoints :
    (field ((tracing {}).blob 0x2540 1) (4094 / 8) 1).testBit (4094 % 8) = false ∧ (field ((tracing {}).blob 0x2540 1) (4095 / 8) 1).testBit (4095 % 8) = true ∧
    (tracing {}).ringRoom ((tracing {}).ent 0x2540 2) 6 = false ∧
    (let s := tracing { kind := 6, sizeLog2 := 6, enable := true }
     s.ringRoom (s.ent 0x2540 2) 6 = true ∧ s.fw.traceMs ≠ s.now / ticksPerMs ∧ 0 < s.ent 0x2540 3) := by decide +kernel

theorem test_proctor_core_lost : after (.proctorCoreLost 5) (component { home := 5, running := true }) (fun t => t.ent 0x2500 8 == 0x1F && (t.comp 8).home < 5) = true := by
  decide +kernel

/-- A term image with one present part, part 8 in version 2 with record version 1; only what preparation reads is filled in. -/
def termImage : Bytes :=
  zeros 6 ++ le 2 1 ++ zeros 248 ++ le 1 8 ++ le 1 1 ++ zeros 2 ++ le 4 2 ++ zeros 8 ++ le 2 1 ++ le 2 1 ++ le 2 1 ++ le 2 1 ++ zeros 72
def partEight : PartRow := { part := 8, version := 2 }

/-- The other bank holds it; the firmware is otherwise as said. -/
def staging (f : FwSt → FwSt) : State :=
  { State.reset with fw := f { State.reset.fw with banks := [{ factory := true }, { bytes := termImage }] } }

theorem witness_ImagesAreStagedAndPrepared :
    3 ≤ (staging (fun f => { f with staged := 3 })).fw.staged ∧ (savingAt true).pwr.save ≠ none ∧
    ¬ (3 ≤ State.reset.fw.staged ∨ State.reset.pwr.save ≠ none) ∧ ((64 : Nat) ≠ 0 ∧ (State.reset.fw.staged ≠ 1)) ∧
    (let s := staging (fun f => { f with staged := 1, stageNext := 65 })
     s.fw.staged = 1 ∧ (64 : Nat) ≠ s.fw.stageNext) ∧
    State.reset.fw.active < 2 ∧ State.reset.fw.banks.length = 2 ∧ imageCode [] State.reset.securityMin ≠ 0 ∧ State.reset.fw.staged ≠ 2 ∧
    (let s := staging (fun f => { f with staged := 2 })
     s.fw.staged = 2 ∧ presentRows s.otherBank = [partEight] ∧ s.prepareCode [partEight] [(0, 9)] = 0 ∧ s.prepareCode [partEight] [] = 0 ∧
      s.prepareCode [{ partEight with acceptMin := 2, acceptMax := 2 }] [] = 0x0E03) ∧
    (staging (fun f => { f with revertible := true })).fw.revertible = true ∧ State.reset.fw.revertible = false := by decide +kernel

theorem test_term_prepare : after (.termPrepare 0 [] origin) (staging (fun f => { f with staged := 2 })) (fun t =>
    t.fw.staged == 3 && t.fw.termId == t.term + 1 && t.fw.todo == [8]) = true := by decide +kernel

/-- The change is prepared under identifier 5; entry 511 is a HANDOVER of this identifier. -/
def handing (arg : Nat) (f : FwSt → FwSt) : State :=
  { staging (fun g => f { g with staged := 3, termId := 5, todo := [8] }) with bell := { State.reset.bell with table := [(511, { kind := 5, time := 40, arg })] } }

theorem witness_PartsHandOverOrRollBack :
    State.reset.fw.staged < 3 ∧ (savingAt true).pwr.save ≠ none ∧
    (let s := handing 5 id
     3 ≤ s.fw.staged ∧ s.pwr.save = none ∧ s.fw.back = false ∧ s.fw.changed = [] ∧ s.fw.todo = [8] ∧ s.fw.loaded = false ∧ s.fw.late = none ∧ (s.ttEntry 511).kind = 5) ∧
    ((handing 6 id).ttEntry 511).arg ≠ (handing 6 id).fw.termId ∧
    (let s := handing 5 (fun f => { f with loaded := true })
     (s.ttEntry 511).arg = s.fw.termId ∧ s.fw.loaded = true ∧ (presentRows s.otherBank).find? (fun r => r.part == 8) = some partEight ∧
      s.fw.parts.any (fun r => r.part == 8) = true ∧ s.tr.queue = []) ∧
    ((timed { kind := 3 } []).ttEntry 511).kind ≠ 5 ∧
    (∀ h ∈ [false, true], let s := handing 5 (fun f => { f with back := true, changed := [partEight], backHeld := h })
      s.fw.back = true ∧ s.pwr.save = none ∧ s.fw.changed = [partEight] ∧ s.fw.parts.any (fun r => r.part == partEight.part) = true ∧ s.fw.backHeld = h) := by decide +kernel

theorem test_handover : after (.handover 511 true 9) (handing 5 (fun f => { f with loaded := true })) (fun t =>
    t.running 8 == partEight && t.fw.staged == 4 && t.tr.queue.map (fun r => (r.kind, r.key)) == [(1, 1)]) = true := by decide +kernel

/-! ## Wake and reset -/

/-- A mated module with power whose wake is in stage `k`. -/
def waking (k : Nat) : State :=
  { withEnt [(0x2550, 1, k)] with
    pwr := { switchClosed := true }, phys := { State.reset.phys with mated := true }, wake := { State.reset.wake with running := true, diesUp := 2 ^ 25 - 1, stacksUp := 0xFFF } }

/-- A journal that holds these records in both copies. -/
def journalled (l : List JRec) (s : State) : State :=
  let slots := l.zipIdx.map (fun e => ({ off := 1024 * e.2, record := e.1 } : JSlot))
  { s with tr := { s.tr with anchors := [some { segment := 0, seq := 1, firstSeq := 1, ckptLen := 0, seqFloor := 2 }, none], copyA := [slots, []], copyB := [slots, []] } }

/-- TERM records of terms 5 and 6, the older one last, 896 bytes of body so that records follow at 1,024. -/
def termFive : JRec := { kind := 1, seq := 3, key := 1, body := le 4 5 ++ zeros 892 }
def termSix : JRec := { kind := 1, seq := 2, key := 0, body := le 4 6 ++ zeros 892 }

/-- No bank that the ROM accepts. -/
def unbanked (s : State) : State := { s with fw := { s.fw with banks := [{}, {}] } }

theorem witness_WakeRunsItsStagesInOrder :
    (∀ k ∈ List.range 12, (waking k).wake.running = true ∧ (waking k).wakeStage = k) ∧ State.reset.wake.running = false ∧ State.reset.wake.retryPending = false ∧
    State.reset.phys.mated = false ∧ (waking 0).powered = true ∧
    (let s : State := { waking 0 with pwr := {} }
     s.phys.mated = true ∧ s.powered = false) ∧
    ({ waking 0 with wake := { (waking 0).wake with retryPending := true } } : State).wake.retryPending = true ∧
    termRecords (waking 3).romScan = [] ∧ (waking 3).freshJournal = true ∧ (journalled [] (waking 3)).freshJournal = false ∧ termRecords (journalled [] (waking 3)).romScan = [] ∧
    (waking 2).tr.up = false ∧ (waking 4).selectBank = some (0, false) ∧ (unbanked (waking 4)).selectBank = none ∧
    (waking 5).freshJournal = true ∧ (waking 5).wake.fallbackClock = false ∧ (waking 5).phys.leak ≠ 1 ∧
    (waking 7).wake.diesUp.testBit 23 = true ∧ (waking 8).portEnabled 15 = true ∧ (withEnt [(0x2330, 16, 0)]).portEnabled 15 = false ∧
    (waking 9).keysOf 9 = [] ∧ (waking 9).fact 10 0 = none ∧ (waking 10).flt.spares = [] ∧ (waking 11).servingCodes = [] ∧
    ({ waking 11 with wake := { (waking 11).wake with diesUp := 2 ^ 24 } } : State).servingCodes ≠ [] ∧ (waking 11).pwr.bankCharged = false ∧
    (waking 11).pwr.bankTimedOut = false ∧ (waking 0x31).fw.banks.length = 2 ∧ (waking 0x31).badBank < 2 ∧ (1 : Nat) ≠ ((waking 0x31).fw.banks.getD (waking 0x31).badBank {}).bytes.length := by
  refine ⟨?_, ?_, ?_, ?_, ?_, ?_, ?_, ?_, ?_, ?_, ?_, ?_, ?_, ?_, ?_, ?_, ?_, ?_, ?_, ?_, ?_, ?_, ?_, ?_, ?_, ?_, ?_, ?_, ?_, ?_⟩ <;> decide +kernel

/-- The highest term governs, whatever its place in the journal. -/
theorem test_term_of_journal : after .wakeW3 (journalled [termSix, termFive] (waking 3)) (fun t => t.term == 6 && t.wakeStage == 4) = true := by decide +kernel

theorem test_wake_reaches_serving : after .wakeW11 { waking 11 with pwr := { switchClosed := true, bankCharged := true } } (fun t => t.wakeStage == 0x21 && !t.wake.running) = true := by
  decide +kernel

theorem witness_ResetsAndPinsKeepWhatTheTableSays :
    (savingAt true).pwr.save ≠ none ∧ (savingAt true).phys.leak ≠ 1 ∧
    (let s := waking 3
     s.powered = true ∧ s.pwr.save = none ∧ 3 ≤ s.wakeStage ∧ s.phys.leak ≠ 1) ∧
    State.reset.wake.perst = true ∧
    (∀ a ∈ [0, 1], let s : State := { withEnt [(0x2550, 1, 8), (0x2550, 6, a)] with wake := { State.reset.wake with perst := false }, pwr := { switchClosed := true } }
      s.wake.perst = false ∧ 8 ≤ s.wakeStage ∧ s.ent 0x2550 6 = a ∧ s.powered = true ∧ s.pwr.save = none ∧ s.pwr.leakHold = false) ∧
    State.reset.phys.mated = false ∧ (waking 5).phys.mated = true ∧ (waking 5).powered = true ∧ 5 ≤ (waking 5).wakeStage ∧ 6 ≤ (waking 6).wakeStage ∧ (waking 5).wakeStage < 6 ∧
    (waking 5).phys.leakHour ≠ some ((waking 5).now / ticksPerHour) ∧ State.reset.powered = false ∧
    (List.range 25).filter (fun d => !decide (d ∈ (waking 5).pwr.regsOff)) ≠ [] ∧ (waking 0x30).wakeStage = 0x30 ∧
    ({ waking 5 with fw := { State.reset.fw with debugOpen := true } } : State).fw.debugOpen = true ∧
    (waking 5).wakeStage ≠ 0x30 ∧ (waking 5).wakeStage ≠ 0x31 ∧ (waking 5).fw.debugOpen = false := by decide +kernel

theorem test_bypass_delays : after (.bypass ((List.range 30).map (· == 0))) (waking 5) (fun t => t.phys.tdo == (List.range 30).map (· == 25)) = true := by decide +kernel

/-! ## Faults and availability -/

/-- A module whose dies all have power, with these function 1 and fault books. -/
def intact (f : FltSt) (fn : FnSt) : State :=
  { ready with flt := f, wake := { State.reset.wake with diesUp := 2 ^ 25 - 1, stacksUp := 0xFFF, perst := false }, host := { State.reset.host with fns := [(1, fn)] } }

/-- Core 0 of tile 47 of die 15 waits for its spare. -/
def failing (k : CoreSt) : State := { intact { toSpare := [coreNo 15 47 0] } {} with cores := [(coreNo 15 47 0, k)] }

theorem witness_FencesSparesAndHostLinks :
    (intact { fenced := 2 ^ 23 } {}).flt.fenced.testBit 23 = true ∧ (intact {} {}).flt.fenced.testBit 23 = false ∧ (intact {} {}).busy = [] ∧ (intact {} {}).tr.queue = [] ∧
    (intact { saveDie := 19 } {}).flt.saveDie = 19 ∧ (intact {} {}).dieWorks 18 = true ∧ ((withInst { bind := { state := .serving } }).inst 0).bind.state = .serving ∧
    (intact { copying := true } {}).flt.copying = true ∧ (intact {} {}).flt.copying = false ∧
    (let s := failing { run := true, inst := 3 }
     let c := coreNo 15 47 0
     let j := s.core c
     c < 19200 ∧ c ∈ s.flt.toSpare ∧ (j.loadBusy = false ∧ j.mathBusy = false ∧ j.storeBusy = false ∧ j.seqRunning = false) ∧ corePhys c ≠ 24 ∧
      (s.spareMap (coreDie c) (coreTile c)).1.testBit 24 = true ∧ (s.spareMap (coreDie c) (coreTile c)).2 = 0xFF) ∧
    coreNo 15 47 0 ∉ (intact {} {}).flt.toSpare ∧ ((failing { mathQ := [⟨0, 0, 0, 0⟩] }).core (coreNo 15 47 0)).mathBusy = true ∧
    ((intact {} {}).fn 1).up = false ∧ ((intact {} { up := true }).fn 1).up = true ∧ (intact {} {}).insts = [] ∧
    (let s := { intact {} {} with library := true }
     (s.fn 1).up = false ∧ s.library = true ∧ (s.fn 1).ideKeys = none ∧ s.wake.perst = false ∧ s.wake.diesUp.testBit 21 = true ∧ s.flt.fenced.testBit 21 = false) := by
  refine ⟨?_, ?_, ?_, ?_, ?_, ?_, ?_, ?_, ?_, ?_, ?_, ?_, ?_, ?_, ?_, ?_⟩ <;> decide +kernel

theorem test_spare_takes_over : after (.coreSpare (coreNo 15 47 0)) (failing { run := true, inst := 3 }) (fun t =>
    (t.core (coreNo 15 47 0)).fenced && (t.core (coreNo 15 47 24)).run && (t.core (coreNo 15 47 24)).inst == 3 && t.spareMap 15 47 == (0x1FFFFFE, 0)) = true := by decide +kernel

/-! ## The dictionary and the management bus -/

/-- Service is on: powered at this wake stage, with these entries, the journal up and empty. -/
def open_ (stage : Nat) (l : List (Nat × Nat × Nat)) : State :=
  { withEnt ((0x2550, 1, stage) :: l) with pwr := { switchClosed := true }, tr := { State.reset.tr with up := true } }

theorem witness_RefusedDictionaryRowsChangeNothing :
    State.reset.powered = false ∧ (let s := open_ 0x21 []
     (s.powered = true ∧ 6 ≤ s.wakeStage ∧ s.wakeStage ≠ 0x31 ∧ s.pwr.save = none) ∧ s.ent 0x1100 9 ≠ 1 ∧ 256 % 256 ≠ 1 ∧
     (s.core (coreNo 0 0 0)).fenced = false ∧ s.wakeStage ≠ 0x30 ∧ s.bell.state ≠ .freeRun ∧ (zeros 31).length ≠ 32) := by decide +kernel

theorem witness_PersistedWritesCommitThenApply :
    let s := open_ 6 []
    (s.powered = true ∧ 6 ≤ s.wakeStage ∧ s.wakeStage ≠ 0x31 ∧ s.pwr.save = none) ∧ (s.tr.up = true ∧ s.tr.queue = [] ∧ s.tr.fill + jRecLen 32 ≤ segmentLen) ∧
    (0 : Nat) < 2 ^ 32 ∧ s.ent 0x2230 4 < 2 ^ 32 ∧ s.accepts 0x2230 4 0 = true ∧ bits (2 ^ 47 - 1 - 3 * 65536) 18 16 ≤ 4 ∧ s.ent 0x2310 120 < 2 ^ 64 ∧
    s.ent 0x2300 1 < 256 ∧ s.busy = [] ∧ s.ent 0x2000 1 < 256 ∧ s.spanning = false ∧ (zeros 32).length = 32 := by decide +kernel

theorem test_module_index_write : after (.moduleIndexWrite 119 (.bus true)) (open_ 6 []) (fun t =>
    t.moduleIndex == 119 && t.generation 0x2300 1 == 1 && (t.fact 2 0x230001).map (·.body) == some (le 2 0x2300 ++ le 1 1 ++ le 1 1 ++ le 1 119)) = true := by decide +kernel

theorem test_module_index_range : after (.moduleIndexWrite 120 (.bus true)) (open_ 6 []) (fun t =>
    (t.mgmt.answer.map (·.result)) == some 0x0C03 && t.moduleIndex == 255) = true := by decide +kernel

/-- A Timetable record of kind 5 at this time. -/
def recordAt (t : Nat) : Bytes := le 1 5 ++ zeros 7 ++ le 8 t ++ zeros 8 ++ le 8 77

theorem witness_CommandEntriesAct :
    (let s := open_ 6 []
     s.powered = true ∧ 6 ≤ s.wakeStage ∧ s.wakeStage ≠ 0x31 ∧ s.pwr.save = none ∧ (s.ttEntry 511).reserved = false ∧ ¬ ((s.ttEntry 511).kind ≠ 0 ∧ (s.ttEntry 511).time < s.now + ticksPerMs) ∧
      (zeros 32).length = 32 ∧ field (zeros 32) 0 1 = 0 ∧ (recordAt 400000).length = 32 ∧ field (recordAt 400000) 0 1 ≠ 0 ∧ s.now + ticksPerMs ≤ field (recordAt 400000) 8 8 ∧
      s.ttFieldsOk (recordAt 400000) = true ∧ s.tr.fill + jRecLen 8 ≤ segmentLen) ∧
    (let s : State := { open_ 6 [] with bell := { State.reset.bell with table := [(511, { kind := 5, time := 3 })] } }
     (s.ttEntry 511).reserved = false ∧ (s.ttEntry 511).kind ≠ 0 ∧ (s.ttEntry 511).time < s.now + ticksPerMs) ∧
    (let v := 15 + 47 * 32 + 24 * 2048
     v < 65536 ∧ bits v 4 0 < 16 ∧ bits v 10 5 < 48 ∧ bits v 15 11 < 25 ∧
      ∀ r ∈ [true, false], (({ open_ 6 [] with cores := [(coreNo (bits v 4 0) (bits v 10 5) (bits v 15 11), { fenced := true, release := r })] } : State).core
        (coreNo (bits v 4 0) (bits v 10 5) (bits v 15 11))).fenced = true) ∧
    (let s : State := { open_ 6 [] with bell := { state := .freeRun, discontinuity := true, lastCount := some 2048 } }
     s.bell.lastCount = some 2048 ∧ s.bell.state = .freeRun ∧ s.bell.discontinuity = true ∧
      (s.instsWith (fun i => i.bind.state == .serving && decide (1 < i.bind.place.modules))).all s.suspended = true) ∧
    (let s : State := { open_ 0x30 [] with wake := { State.reset.wake with faults := [0x32] } }
     s.powered = true ∧ 6 ≤ s.wakeStage ∧ s.wakeStage = 0x30 ∧ 0x32 ∈ s.wake.faults) := by decide +kernel

theorem test_timetable_write : after (.timetableWrite 511 (recordAt 400000) (.bus true)) (open_ 6 []) (fun t =>
    t.ttEntry 511 == { kind := 5, time := 400000, arg := 77 }) = true := by decide +kernel

/-- An operation on an entry. -/
def on (i k : Nat) (o : DictOp) : DictOp := { o with index := i, sub := k }
def noOp : DictOp := { op := 0, index := 0, sub := 0 }


theorem witness_DictionaryOperationsAnswer :
    State.reset.mgmt.queue = [] ∧ (State.reset.comp 8).restarting = false ∧ State.reset.powered = false ∧ (open_ 5 []).wakeStage < 6 ∧
    nextEntry (.mirror 0) (ekey 0xFFFF 255) = none ∧ (nextEntry (.bus true) (ekey 0x1000 0)).isSome = true ∧ entryOn (.mirror 0) 0x2550 0xA = none ∧
    (entryOn (.bus true) 0x2550 0xA).map (·.right) = some 3 ∧
    ((entryOn (.bus true) 0x2120 2).map (fun e => (decide (e.right ≠ 3), e.typ)) = some (true, 8)) ∧
    ((entryOn (.bus true) 0x2120 2).map (fun e => (((open_ 6 []).setBlob 0x2120 2 (zeros 1025)).value e 0x2120).length)) = some 1025 ∧
    ((entryOn (.bus true) 0x2120 2).map (fun e => (((open_ 6 []).setBlob 0x2120 2 (zeros 1024)).value e 0x2120).length)) = some 1024 ∧
    (entryOn (.bus true) 0x2120 2).map (·.right) = some 0 ∧
    ((entryOn (.bus true) 0x2300 1).map (fun e => (decide (e.right ≠ 3), decide (e.typ ≠ 8), e.len, (open_ 6 []).value e 0x2300))) = some (true, true, 1, [255#8]) ∧
    ((entryOn (.bus true) 0x2120 1).map (fun e => (decide (e.right ≠ 0), e.typ))) = some (true, 8) ∧ (open_ 6 []).pathMay (.bus true) 0x2120 1 = true ∧
    ekey 0x2120 1 ≠ ekey 0x2550 0xA ∧ (open_ 6 []).mgmt.parts = [] ∧
    (15359 : Nat) ≠ (open_ 6 []).ent 0x2600 1 ∧ (open_ 6 []).ent 0x2560 1 < 65536 := by
  refine ⟨?_, ?_, ?_, ?_, ?_, ?_, ?_, ?_, ?_, ?_, ?_, ?_, ?_, ?_, ?_, ?_, ?_, ?_, ?_⟩ <;> decide +kernel

theorem test_write_if : after (.writeIf (.bus true) 9 { op := 3, index := 0x2300, sub := 1, value := [254#8, 7#8] }) (open_ 6 []) (fun t =>
    (t.mgmt.answer.map (·.result)) == some 0x0C0A && t.moduleIndex == 255) = true := by decide +kernel

/-- READ of the term, and a request for it: REQ_ID 7, these flags, sequence 5. -/
def readTerm : DictOp := { op := 1, index := 0x1000, sub := 4 }
def asking (flags : Nat) (l : List DictOp) : Request := { reqId := 7, flags, authSeq := 5, ops := l }
def plainAsk : Bytes := requestBytes 0x4442 1 1 (asking 2 [readTerm]) []

/-- The same with a tag: HMAC-SHA-256 under a key of zeros, worked out outside the model (R474). -/
def taggedAsk : Bytes := requestBytes 0x4442 1 1 (asking 3 [readTerm]) (le 16 0xe73339d218299b4bfee4a2389a6bd9f1)

/-- The bus runs, with this management state. -/
def bussed (m : MgmtSt) : State := { open_ 0x21 [(0x1100, 4, 1)] with mgmt := m }

/-- A request at the front of the queue. -/
def asked (ops : List DictOp) (l : List DictAnswer) : MgmtReq := { path := .bus true, source := 3, port := 9, reqId := 7, stop := true, tagged := true, seq := 5, ops, answers := l }

theorem witness_ManagementDatagramsAreTakenInOrder :
    State.reset.busUp = false ∧ (bussed {}).busUp = true ∧ (zeros 23).length < 24 ∧ 1452 < (zeros 1453).length ∧ field (zeros 24) 0 2 ≠ 0x4442 ∧
    parseRequest plainAsk = some (asking 2 [readTerm]) ∧ (bussed {}).mgmt.cache.find? (fun x => x.source == 3 && x.port == 9 && x.reqId == 7) = none ∧
    (bussed { cache := [⟨3, 9, 7, []⟩] }).mgmt.cache.find? (fun x => x.source == 3 && x.port == 9 && x.reqId == 7) = some ⟨3, 9, 7, []⟩ ∧
    (bussed {}).passesAuth 3 (asking 0 [{ op := 1, index := 0x2300, sub := 1 }]) [] = false ∧ (bussed {}).passesAuth 3 (asking 2 [readTerm]) plainAsk = true ∧
    64 ≤ (bussed { queue := List.replicate 64 (asked [] []) }).mgmt.queue.length ∧ (bussed { queue := List.replicate 63 (asked [] []) }).mgmt.queue.length < 64 ∧
    parseRequest taggedAsk = some (asking 3 [readTerm]) ∧ (asking 3 [readTerm]).flags.testBit 0 = true ∧ (bussed {}).wakeStage ≠ 0x31 ∧ (zeros 16).length = 16 ∧
    ((bussed {}).comp 8).restarting = false ∧
    (let a : DictAnswer := { op := 1, index := 0, sub := 0, result := 0, value := [], generation := 0 }
     let q := asked [readTerm, readTerm] [a]
     q.answers ≠ [] ∧ q.ops[q.answers.length]? ≠ some { noOp with op := 1 } ∧ q.ops[q.answers.length]? = some { readTerm with op := 1 } ∧ q.answers.length + 1 = q.ops.length) ∧
    (let q := asked [readTerm, readTerm] []
     q.ops[q.answers.length]? = some { readTerm with op := 1 } ∧ q.answers.length + 1 < q.ops.length) ∧
    State.reset.powered = false ∧ (bussed {}).powered = true ∧ 2 ≤ (bussed {}).wakeStage ∧ 100 ≤ (bussed { noticeNow := 100 }).mgmt.noticeNow ∧
    (bussed {}).mgmt.noticeSecond = (bussed {}).now / ticksPerSec ∧ (bussed {}).mgmt.stopped = false ∧ (bussed { stopped := true }).mgmt.stopped = true := by
  refine ⟨?_, ?_, ?_, ?_, ?_, ?_, ?_, ?_, ?_, ?_, ?_, ?_, ?_, ?_, ?_, ?_, ?_, ?_, ?_, ?_, ?_, ?_, ?_, ?_, ?_, ?_⟩ <;> decide +kernel

/-- A tag that holds admits the request and its sequence number. -/
theorem test_tag_holds : (bussed { key := some (zeros 32) }).passesAuth 3 (asking 3 [readTerm]) taggedAsk = true := by decide +kernel

theorem test_read_answers : after (.read (.bus true) 3 readTerm) (bussed { queue := [asked [readTerm] []] }) (fun t =>
    t.mgmt.queue == [] && t.mgmt.sent.map (fun d => (d.dest, d.port, field d.bytes 4 4, field d.bytes 12 2)) == [(3, 9, 7, 0)]) = true := by decide +kernel

/-! ## The journal -/

/-- The journal is up with this queue and fill, and one record in both copies. -/
def journal (q : List JSub) (fill : Nat) (compact : Option (Nat × List JRec × Nat)) : State :=
  let x : JSlot := { off := 0, record := { kind := 12, seq := 1, key := 5, body := [] } }
  let a : Anchor := { segment := 0, seq := 1, firstSeq := 1, ckptLen := 0, seqFloor := 2 }
  { ready with tr := { up := true, queue := q, fill, nextSeq := 2, compact, copyA := [[x], []], copyB := [[x], []], anchors := [some a, none] } }

/-- One WEAR record that waits. -/
def wearSub : JSub := { kind := 7, key := 3, body := zeros 48 }

/-- A queue of 3,072 KiB: 768 records of the longest body take 4,096 bytes each. -/
def fullQueue : List JSub := List.replicate 768 { kind := 2, key := 0, body := zeros 4060 }

theorem test_queue_full : queueBytes fullQueue = 3145728 := by decide +kernel

theorem witness_JournalCommitsInBothCopies :
    4060 < (zeros 4061).length ∧ (zeros 4060).length ≤ 4060 ∧ queueBytes ([] : List JSub) + jRecLen 4060 ≤ 3145728 ∧
    3145728 < queueBytes (journal fullQueue 0 none).tr.queue + jRecLen 0 ∧ sget 0 (journal fullQueue 0 none).flt.lastLogged 0x2206 = 0 ∧
    (journal [] 0 none).tr.queue = [] ∧ State.reset.tr.up = false ∧ (savingAt true).pwr.save ≠ none ∧
    (let s := journal [wearSub] segmentLen none
     s.tr.queue = [wearSub] ∧ segmentLen < s.tr.fill + jRecLen wearSub.body.length) ∧
    (let s := journal [wearSub] (segmentLen - 4 * jRecLen 48) none
     s.tr.queue = [wearSub] ∧ s.tr.up = true ∧ s.pwr.save = none ∧ 5 ≤ wearSub.kind ∧ wearSub.body.length ≤ 4060 ∧
     (∀ y ∈ s.tr.copyA.getD s.tr.segment [], y.off < s.tr.fill ∧ y.record.seq < s.tr.nextSeq) ∧ (∀ y ∈ s.tr.copyB.getD s.tr.segment [], y.off < s.tr.fill) ∧
     s.tr.segment < s.tr.copyA.length ∧ s.tr.segment < s.tr.copyB.length ∧ s.tr.fill + (3 + 1) * jRecLen wearSub.body.length ≤ segmentLen ∧
     s.tr.fill + 4 * jRecLen wearSub.body.length ≤ segmentLen) ∧
    (journal [] (segmentLen - 1310720) none).tr.fill + 1310720 ≤ segmentLen ∧
    ((journal [] (segmentLen - 1310719) none).tr.fill ≤ segmentLen ∧ segmentLen < (journal [] (segmentLen - 1310719) none).tr.fill + 1310720) ∧
    (journal [] segmentLen (some (1, [⟨12, 0, 1, 5, []⟩], 0))).tr.compact = some (1, [⟨12, 0, 1, 5, []⟩], 0) ∧
    (let s := journal [] segmentLen (some (1, [], 64))
     s.tr.compact = some (1, [], 64) ∧ s.tr.anchors.length = 2 ∧ s.tr.segment < s.tr.copyA.length) ∧
    ((List.replicate 37 (0 : Int)).length = 37 ∧ 3 ≤ (journal [] 0 none).proctors.length) := by
  refine ⟨?_, ?_, ?_, ?_, ?_, ?_, ?_, ?_, ?_, ?_, ?_, ?_, ?_, ?_, ?_⟩ <;> decide +kernel

/-- A record whose read-back fails three times stands past the torn bytes, in both copies. -/
theorem test_torn_record : after (.journalWrite 3) (journal [wearSub] 64 none) (fun t =>
    (t.tr.copyB.getD 0 []).map (·.off) == [0, 64 + 3 * jRecLen 48] && t.tr.fill == 64 + 4 * jRecLen 48 && (t.fact 7 3).map (·.seq) == some 2) = true := by decide +kernel

/-! ## Host interface -/

/-- Function 1 is as said, function 0 is up; ring `k` is as said; submission rings complete on ring 14337. -/
def hosted (k : Nat) (r : Ring) (f : FnSt) : State :=
  { ready with host := { State.reset.host with rings := [(k, r), (14337, { kind := 3, sizeLog2 := 6, enable := true })], fns := [(0, { up := true }), (1, f)] } }

/-- An enabled submission ring in which an entry waits, its indices about to wrap. -/
def subRing : Ring := { kind := 2, sizeLog2 := 12, enable := true, cq := 14337, prod := 0, cons := 2 ^ 32 - 1 }
def fetching : State := hosted 12288 subRing {}

/-- An entry of this opcode with CMD_ID 9 that names a data buffer of one byte, or none. -/
def entryOf (opcode addr : Nat) : Bytes := le 2 opcode ++ zeros 2 ++ le 4 9 ++ le 8 addr ++ le 4 (if addr = 0 then 0 else 1) ++ zeros 44

/-- Word 2 of a token ring of the smallest size on link 0, with ENABLE. -/
def wordTwo : Word64 := BitVec.ofNat 64 (1 + 6 * 256 + 2 ^ 14)

theorem witness_FailedFetchStopsItsRing :
    fetching.mayFetch 12288 = true ∧
    (field (padTo 64 (entryOf 0x0103 1)) 8 8 ≠ 0 ∧ 1 ≤ field (padTo 64 (entryOf 0x0103 1)) 0x10 4 ∧ field (padTo 64 (entryOf 0x0103 1)) 0x10 4 ≤ 268435456) ∧
    (let s := hosted 12287 {} {}
     let x := wordTwo.toNat
     let put := s.onRing 12287 (fun q => { q with kind := bits x 7 0, sizeLog2 := bits x 12 8, link := bits x 13 13, irq := x.testBit 15, vector := bits x 25 16, cq := bits x 45 32 })
     (s.fn 0).up = true ∧ (s.ring 12287).enable = false ∧ x.testBit 14 = true ∧ put.enableReason 12287 (put.ring 12287) = 0 ∧
       put.enableReason 16383 (put.ring 12287) ≠ 0 ∧ bits x 7 0 ∉ kindsOf 16383 ∧ bits x 7 0 = 1 ∧ bits x 13 13 = 0 ∧ (wordTwo - 2 ^ 14).toNat.testBit 14 = false) := by decide +kernel

theorem test_fetch_fails : after (.submissionFetch 12288 none none [] []) fetching (fun t =>
    t.ring 12288 == { subRing with error := true, enable := false } && (t.ring 14337).prod == 0) = true := by decide +kernel

/-- A window at page 5, which is in this state; its index 0 serves or not. -/
def windowOn (d : PageDesc) (st : BindState) : State :=
  { hosted 0 {} {} with mem := { State.reset.mem with pages := [(5, d)] }, insts := [(0, { bind := { state := st } })], wake := { State.reset.wake with diesUp := 2 ^ 25 - 1, stacksUp := 0xFFF } }

theorem witness_HostRingsAndTheAperture :
    (State.reset.fn 1).up = false ∧ (hosted 0 {} {}).mayFetch 12288 = false ∧ ((hosted 16383 { enable := true, irq := true } {}).ring 16383).unsignalled = 0 ∧
    (∀ m ∈ [0, 1], let s := hosted 16383 { enable := true, irq := true, unsignalled := 1, link := 1, vector := 1023 } { msix := [(4 * 1023 + 3, m)] }
      0 < (s.ring 16383).unsignalled ∧ msixWord (s.fn (s.ring 16383).link) (4 * (s.ring 16383).vector + 3) % 2 = m) ∧
    (let r := subRing
     ringHeld r ≤ (2 ^ 12 - 1 + 2 ^ 32 - r.cons) % 2 ^ 32 ∧ (2 ^ 12 - 1 + 2 ^ 32 - r.cons) % 2 ^ 32 ≤ 2 ^ r.sizeLog2 ∧ 2 ^ r.sizeLog2 < (2 ^ 12 + 2 ^ 32 - r.cons) % 2 ^ 32) ∧
    (let r : Ring := { kind := 1, enable := true, prod := 3, cons := 2 }
     (r.prod + 2 ^ 32 - 3) % 2 ^ 32 ≤ ringHeld r ∧ ringHeld r < (r.prod + 2 ^ 32 - 1) % 2 ^ 32) ∧
    (∀ a ∈ [none, some 7], (({ enable := true, kind := 1, assigned := a } : Ring).assigned = a)) ∧
    (∀ st ∈ [PageState.free, .owned, .sealed], ∀ b ∈ [BindState.serving, .bound],
      let s := windowOn { state := st, tier := .hbm, refs := 1, holder := 3 } b
      let a := (s.fn 0).apertureBase + (5 * 65536 + 4095)
      5 * 65536 + 4095 < 2 ^ 37 ∧ a < 2 ^ 48 ∧ a % 4096 + 1 ≤ 4096 ∧ (s.page (offPage a)).holder ≠ 0x3FF2 ∧ (s.page (offPage a)).state = st ∧
        (s.inst (pageInst (offPage a))).bind.state = b ∧ (s.page (offPage a)).refs ≤ 1 ∧ (s.page (offPage a)).tier = .hbm ∧ s.mem.waitingWrites = [] ∧ s.mem.failedGranules = [] ∧ s.mem.late = []) ∧
    (entryOf 0xFFFF 0).length = 64 ∧ field (entryOf 0xFFFF 0) 8 8 = 0 ∧ subRing.cq ≠ 12288 ∧ opcodeRow (field (entryOf 0xFFFF 0) 0 2) = none ∧
    fetching.fw.negotiated = false ∧ opcodeRow (field (entryOf 0x0103 0) 0 2) ≠ none ∧ field (entryOf 0x0103 0) 0 2 ≠ 1 := by
  refine ⟨?_, ?_, ?_, ?_, ?_, ?_, ?_, ?_, ?_, ?_, ?_, ?_, ?_, ?_, ?_⟩ <;> decide +kernel

/-- PROD moves to its limit and no further. -/
theorem test_doorbell_limit : (after (.doorbell 0 12288 (2 ^ 12 - 1)) fetching (fun t => (t.ring 12288).prod == 2 ^ 12 - 1)) = true ∧
    (after (.doorbell 0 12288 (2 ^ 12)) fetching (fun t => (t.ring 12288).prod == 0 && (t.flt.last.map (·.cause)) == some 0x2304)) = true := by decide +kernel

/-- A session on function 1 in this state. -/
def talking (f : FnSt) (granted : Nat) : State := { hosted 0 {} { f with up := true } with fw := { State.reset.fw with granted, negotiated := true } }

theorem witness_NegotiationSessionsAndTheDebugLock :
    (2 : Nat) ≠ 1 ∧ origin.secured = false ∧ secured.secured = true ∧ State.reset.busy = [] ∧ (withInst { bind := { state := .serving } }).busy ≠ [] ∧
    State.reset.doeUp 1 = false ∧ (∀ k ∈ [0, 1, 2, 3, 4], ∀ b ∈ [true, false], (talking { spdm := k, session := b } 0).doeUp 1 = true ∧
      ((talking { spdm := k, session := b } 0).fn 1).spdm = k ∧ ((talking { spdm := k, session := b } 0).fn 1).session = b) ∧
    field ([1#8] : Bytes) 0 1 = 1 ∧ field ([2#8] : Bytes) 0 1 = 2 ∧ (0x22 : Nat) ∈ measurementIndices ∧ (talking {} 256).fw.granted.testBit 8 = true ∧ (talking {} 2).fw.granted.testBit 8 = false ∧
    (zeros 32).length = 32 ∧ (entryOf 0x0602 0).length = 64 ∧ (talking {} 0).fw.negotiated = true ∧ field (entryOf 0x0602 0) 0 2 = 0x0602 ∧
    ((List.range 64).all (fun i => decide (i < 2) || (decide (4 ≤ i) && decide (i < 8)) || (entryOf 0x0602 0).getD i 0 == 0)) = true ∧
    ((talking {} 0).comp 8).restarting = false ∧ parseRequest (requestBytes 0x4442 1 1 { asking 0 [readTerm] with authSeq := 0 } []) = some { asking 0 [readTerm] with authSeq := 0 } ∧
    (talking {} 2).fw.granted.testBit 1 = true ∧ (talking {} 0).fw.granted.testBit 1 = false ∧ ((talking {} 0).fn 1).ideSecure = false ∧
    ((talking { ideSecure := true } 0).fn 1).ideSecure = true ∧ (talking {} 0).insts = [] := by
  refine ⟨?_, ?_, ?_, ?_, ?_, ?_, ?_, ?_, ?_, ?_, ?_, ?_, ?_, ?_, ?_, ?_, ?_, ?_, ?_, ?_, ?_, ?_, ?_, ?_⟩ <;> decide +kernel

/-- FINISH opens the session where a key exchange went before, and an error answers it otherwise. -/
theorem test_finish : after (.finish 1 true) (talking { spdm := 4 } 0) (fun t => (t.fn 1).session && field (t.fn 1).answer 1 1 == 0x65) = true ∧
    after (.finish 1 true) (talking { spdm := 3 } 0) (fun t => !(t.fn 1).session && field (t.fn 1).answer 1 1 == 0x7F) = true := by decide +kernel

/-! ## Invariants -/

theorem witness_ResetMemoryIsCanonical : Memory.wf State.reset.mem.bytes = true := by decide

theorem witness_StepsKeepMemoryCanonical : Memory.wf State.reset.mem.bytes = true ∧
    (match step { State.reset with pending := [.bankTest] } with | .next t => decide (t.pending = []) | _ => false) = true := by decide +kernel

theorem witness_ManagementRequestsRoundTrip : requestFits (asking 2 [readTerm, { readTerm with op := 2, len := 1, value := [7#8] }]) [] := by
  unfold requestFits opFits; decide +kernel

end Sys2Proof.Tests
end

section
/-! PROOFS. Decoding of block scales (04_number_formats.md R104, R105, R107). -/

set_option autoImplicit false

namespace Sys2Proof.Machine

/-! ## The fields of an 8-bit code with 3 mantissa bits (R104) -/

theorem testBit_seven_of_lt_256 {c : Nat} (hc : c < 256) : c.testBit 7 = decide (128 ≤ c) := by
  have hdiv : c / 128 % 2 = 1 ↔ 128 ≤ c := by omega
  simp only [Nat.testBit_eq_decide_div_mod_eq, Nat.reducePow, hdiv]

/-- F8A decoding (R105) in terms of the fields of the code: the NaN pattern, then E = 0, then E ≠ 0. -/
theorem decFloat_f8a {c : Nat} (hc : c < 256) :
    decFloat 0x0C 3 7 c =
      if c % 128 = 127 then .nan
      else if c / 8 % 16 = 0 then .fin (decide (128 ≤ c)) (c % 8) (-9)
      else .fin (decide (128 ≤ c)) (8 + c % 8) ((c / 8 % 16 : Nat) - 10) := by
  have hE : c % 128 / 8 = c / 8 % 16 := Nat.mod_mul_right_div_self c 8 16
  have hM : c % 128 % 8 = c % 8 := Nat.mod_mul_right_mod c 8 16
  have hlow : (1 : Int) - (7 : Nat) - (3 : Nat) = -9 := rfl
  have hexp : ((c / 8 % 16 : Nat) : Int) - (7 : Nat) - (3 : Nat) = (c / 8 % 16 : Nat) - 10 := by omega
  simp only [decFloat, fmtBits, fmtInf, Nat.reduceSub, Nat.reducePow, true_and,
    testBit_seven_of_lt_256 hc, hE, hM, hlow, hexp, Nat.add_comm (c % 8) 8]

/-! ## The two scale formats (R107) -/

@[simp] theorem decScale_se8_nan : decScale 0x20 0xFF = .nan := rfl

theorem decScale_se8_of_lt {e : Nat} (he : e < 255) : decScale 0x20 e = .fin false 1 ((e : Int) - 127) := by
  have hnan : ¬ e = 255 := Nat.ne_of_lt he
  simp only [decScale, if_true, if_neg hnan]

@[simp] theorem decScale_sf8 (c : Nat) : decScale 0x21 c = decFloat 0x0C 3 7 c := rfl

/-- The element decoder reads an F8A code by the floating-point decoder, with or without a block scale. -/
@[simp] theorem decCode_f8a (scaled : Bool) (c : Nat) : decCode 0x0C scaled c = (decFloat 0x0C 3 7 c, false) := rfl

/-- Settles O16: SE8 by its two cases, SF8 by the F8A decoder that it shares with the elements. -/
theorem scaleCodesDecode : Obligations.ScaleCodesDecode := by
  refine ⟨fun e he => decScale_se8_of_lt he, decScale_se8_nan, fun c hc => ⟨fun scaled => ?_, ?_, ?_, ?_⟩⟩
  · rw [decScale_sf8, decCode_f8a]
  · intro hnan
    rw [decScale_sf8, decFloat_f8a hc, if_pos hnan]
  · intro hnan hE
    rw [decScale_sf8, decFloat_f8a hc, if_neg hnan, if_pos hE]
  · intro hnan hE
    rw [decScale_sf8, decFloat_f8a hc, if_neg hnan, if_neg hE]

end Sys2Proof.Machine
end

section
/-! PROOFS. Scalar entries of the dictionary after a write and a count (17_object_dictionary.md R458, R462), and what a
report to the host and a fault record leave unchanged (14_firmware.md R400, 16_faults_availability.md R435, R437,
19_host_interface.md R512 to R514). -/

set_option autoImplicit false

namespace Sys2Proof.Machine

open Safety

/-! ## Scalar entries: read after write -/

theorem ekey_ne_of_ne {i j sub k : Nat} (hsub : sub < 256) (hk : k < 256) (h : (j, k) ≠ (i, sub)) : ekey j k ≠ ekey i sub := by
  intro he
  unfold ekey at he
  exact h (Prod.ext (by omega) (by omega))

@[simp] theorem State.ent_setEnt_same (s : State) (i sub v : Nat) : (s.setEnt i sub v).ent i sub = v := sget_sset_same _ _ _ _

/-- Two entries may differ in their default: the lookup of the one does not see the other's write all the same. -/
theorem State.ent_setEnt_other (s : State) {i sub j k : Nat} (v : Nat) (hsub : sub < 256) (hk : k < 256) (h : (j, k) ≠ (i, sub)) :
    (s.setEnt i sub v).ent j k = s.ent j k := by
  have hkey := ekey_ne_of_ne hsub hk h
  unfold State.ent State.setEnt sset
  split
  · exact sget_serase_other _ _ _ _ hkey
  · exact sget_sins_other _ _ _ _ _ hkey

@[simp] theorem State.bump_mem (s : State) (i sub n : Nat) : (s.bump i sub n).mem = s.mem := rfl
@[simp] theorem State.bump_cores (s : State) (i sub n : Nat) : (s.bump i sub n).cores = s.cores := rfl
@[simp] theorem State.bump_insts (s : State) (i sub n : Nat) : (s.bump i sub n).insts = s.insts := rfl
@[simp] theorem State.bump_flt (s : State) (i sub n : Nat) : (s.bump i sub n).flt = s.flt := rfl

theorem State.ent_bump_same (s : State) (i sub n : Nat) : (s.bump i sub n).ent i sub = (s.ent i sub + n) % entryMax i sub :=
  s.ent_setEnt_same i sub _

theorem State.ent_bump_other (s : State) {i sub j k : Nat} (n : Nat) (hsub : sub < 256) (hk : k < 256) (h : (j, k) ≠ (i, sub)) :
    (s.bump i sub n).ent j k = s.ent j k := s.ent_setEnt_other _ hsub hk h

/-- Every index below 64 has the entries written for index 0 (R462). -/
theorem entryDef_instIdx {n b : Nat} (sub : Nat) (hn : n < 64) (hb : b < 256) :
    entryDef (instIdx n b) sub = entriesInst.find? (fun e => e.idx == 0x4000 + b && e.sub == sub) := by
  have htable : tableOf (instIdx n b) = (entriesInst, 0x4000 + b) := by
    have hmod : instIdx n b % 256 = b := by unfold instIdx; omega
    have hlow : 0x4000 ≤ instIdx n b := by unfold instIdx; omega
    have hhigh : instIdx n b < 0x8000 := by unfold instIdx; omega
    have hskip {m : Nat} (hm : m ≤ 0x4000) : ¬ instIdx n b < m := by omega
    unfold tableOf
    rw [if_neg (hskip (by decide)), if_neg (hskip (by decide)), if_neg (hskip (by decide)), if_neg (hskip (by decide)),
      if_neg (hskip (by decide)), if_neg (hskip (by decide)), if_neg (hskip (by decide)), if_neg (hskip (by decide)),
      if_neg (hskip (by decide)), if_neg (hskip (by decide)), if_pos ⟨hlow, hhigh⟩, hmod]
  unfold entryDef
  rw [htable]

/-! ## Reports -/

/-- The counters that reports move: log records written, log records dropped, notices dropped. -/
def reportCounters : List (Nat × Nat) := [(0x2530, 2), (0x2530, 3), (0x1100, 0xD)]

/-- From `s` to `t` the module only reports: the fault history, serving work and every entry but the counters of reports
are as they were. -/
structure Reports (s t : State) : Prop where
  flt : t.flt = s.flt
  work : workKept s t
  entries : entriesKept reportCounters s t

theorem Reports.trans {s t u : State} (h : Reports s t) (h' : Reports t u) : Reports s u := by
  obtain ⟨hflt, ⟨hmem, hcores, hinsts⟩, hent⟩ := h
  obtain ⟨hflt', ⟨hmem', hcores', hinsts'⟩, hent'⟩ := h'
  exact ⟨hflt'.trans hflt, ⟨hmem'.trans hmem, hcores'.trans hcores, hinsts'.trans hinsts⟩,
    fun i k hk hi => (hent' i k hk hi).trans (hent i k hk hi)⟩

/-- The parts of the state in which a report is kept or handed on. -/
theorem Reports.outward (s : State) (h : HostSt) (f : FwSt) (m : MgmtSt) (w : WakeSt) :
    Reports s { s with host := h, fw := f, mgmt := m, wake := w } :=
  ⟨rfl, ⟨rfl, rfl, rfl⟩, fun _ _ _ _ => rfl⟩

theorem Reports.refl (s : State) : Reports s s := .outward s _ _ _ _

theorem Reports.setFlt {s t : State} (h : Reports s t) (x : FltSt) : Reports { s with flt := x } { t with flt := x } :=
  ⟨rfl, h.work, h.entries⟩

theorem Reports.bump (s : State) (i sub n : Nat) (h : (i, sub) ∈ reportCounters) : Reports s (s.bump i sub n) := by
  have hsub : sub < 256 := (by decide : ∀ e ∈ reportCounters, e.2 < 256) _ h
  exact ⟨rfl, ⟨rfl, rfl, rfl⟩, fun j k hk hj => s.ent_bump_other n hsub hk (fun he => hj (he ▸ h))⟩

theorem Reports.ite {s t u : State} {c : Prop} [Decidable c] (ht : Reports s t) (hu : Reports s u) :
    Reports s (if c then t else u) := by
  split
  · exact ht
  · exact hu

theorem reports_signal (s : State) (fn vec : Nat) : Reports s (s.signal fn vec) :=
  .ite (.outward s _ _ _ _) (.outward s _ _ _ _)

theorem reports_coalesce (s : State) (k : Nat) : Reports s (s.coalesce k) :=
  .ite (.ite ((Reports.outward s _ _ _ _).trans (reports_signal _ _ _)) (.outward s _ _ _ _)) (.refl s)

theorem reports_shadowWrite (s : State) (k v : Nat) : Reports s (s.shadowWrite k v) :=
  .ite (.refl s) (.outward s _ _ _ _)

theorem reports_produce (s : State) (k : Nat) (b : Bytes) : Reports s (s.produce k b) :=
  ((Reports.outward s _ _ _ _).trans (reports_shadowWrite _ _ _)).trans (reports_coalesce _ _)

theorem reports_ringDrop (s : State) (k kind : Nat) : Reports s (s.ringDrop k kind) :=
  .ite (.outward s _ _ _ _) (.refl s)

theorem reports_logMirror (s : State) (r : LogRec) : Reports s (s.logMirror r) :=
  .ite ((Reports.outward s _ _ _ _).trans (reports_produce _ _ _))
    (.ite (((Reports.outward s _ _ _ _).trans (reports_ringDrop _ _ _)).trans (.bump _ 0x2530 3 1 (by decide))) (.refl s))

theorem reports_logWrite (s : State) (part level code : Nat) (args : List Nat) (always : Bool) :
    Reports s (s.logWrite part level code args always) :=
  .ite (.refl s)
    (((Reports.outward s _ _ _ _).trans (.bump _ 0x2530 2 1 (by decide))).trans
      (.ite (.ite (.outward _ _ _ _ _) (.refl _)) (reports_logMirror _ _)))

theorem reports_logFault (s : State) (r : FaultRecord) : Reports s (s.logFault r) := reports_logWrite _ _ _ _ _ _

theorem reports_notice (s : State) (kind : Nat) (content : Bytes) : Reports s (s.notice kind content) :=
  .ite ((Reports.outward s _ _ _ _).trans (.bump _ 0x1100 0xD 1 (by decide))) (.outward s _ _ _ _)

/-! ## A fault record that the journal does not take

Such a record reaches the log, the fault event ring and the manager; it leaves no submission behind, so no dropped one
takes its place as the last record. -/

theorem journals_eq_false (s : State) {r : FaultRecord} (hcls : r.cls = 0) (hcause : r.cause ≠ 0x2004) : journals s r = false := by
  simp [journals, hcls, hcause]

/-- The history's last record is `r`, whatever it was before. -/
def State.lastFault (s : State) (r : FaultRecord) : State := { s with flt := { s.flt with last := some r } }

theorem reports_deliver (s : State) {r : FaultRecord} (hcls : r.cls = 0) (hcause : r.cause ≠ 0x2004) :
    ∃ f, Reports (s.lastFault { r with flags := f }) (s.deliver r) := by
  have hj := journals_eq_false s hcls hcause
  unfold State.deliver
  rw [hj]
  exact ⟨_, (((Reports.outward _ _ _ _ _).trans (.ite (.ite (reports_produce _ _ _) (reports_ringDrop _ _ _)) (.refl _))).trans
    (.ite (reports_notice _ _ _) (.refl _)))⟩

/-- A record as K0 completes it: its own SEQ, time, module, term and flags, everything else as raised (R435). -/
def completedAs (r q : FaultRecord) : Prop :=
  q = { r with bell := q.bell, seq := q.seq, flags := q.flags, modIdx := q.modIdx, term := q.term }

theorem reports_emit (s : State) {r : FaultRecord} (hcls : r.cls = 0) (hcause : r.cause ≠ 0x2004) :
    ∃ x q, Reports { s with flt := x } (s.emit r) ∧ x.last = some q ∧ completedAs r q := by
  unfold State.emit
  extract_lets seq r₁ x s₁ s₂ r₂
  have hlog : Reports s₁ s₂ := reports_logFault s₁ r₁
  split
  · obtain ⟨f, hdeliver⟩ := reports_deliver s₂ (r := r₁) hcls hcause
    exact ⟨_, { r₁ with flags := f }, (hlog.setFlt _).trans hdeliver, rfl, rfl⟩
  · exact ⟨{ s₂.flt with last := some r₂ }, r₂, (hlog.setFlt _).trans (.outward _ _ _ _ _), rfl, rfl⟩

end Sys2Proof.Machine
end

section
/-! PROOFS. FREE and UNREF (06_memory_tiers.md R169, R170): what the checks decide, in their order, and what a rejected
command and an accepted one leave. -/

set_option autoImplicit false

namespace Sys2Proof.Machine

open Safety

/-! ## The checks in their order -/

section
variable {d : PageDesc} {n x : Nat}

theorem freeCheck_of_gone (hgone : d.state = .free ∨ d.state = .reclaim) : freeCheck d n x = 3 := if_pos hgone

theorem freeCheck_of_inst_ne (hlive : ¬ (d.state = .free ∨ d.state = .reclaim)) (hinst : d.inst ≠ n) : freeCheck d n x = 4 := by
  rw [freeCheck, if_neg hlive, if_pos hinst]

/-- On a page in use of the own index only the holders decide. -/
theorem freeCheck_of_own (hlive : ¬ (d.state = .free ∨ d.state = .reclaim)) (hinst : d.inst = n) :
    freeCheck d n x = if d.holder = 0x3FFF ∧ d.prevHolder = x then 3 else if d.holder ≠ x then 4 else 0 := by
  rw [freeCheck, if_neg hlive, if_neg (not_not_intro hinst)]

theorem unrefCheck_of_gone (hgone : d.state = .free ∨ d.state = .reclaim) : unrefCheck d n = 3 := if_pos hgone

theorem unrefCheck_of_inst_ne (hlive : ¬ (d.state = .free ∨ d.state = .reclaim)) (hinst : d.inst ≠ n) : unrefCheck d n = 4 := by
  rw [unrefCheck, if_neg hlive, if_pos hinst]

theorem unrefCheck_of_own (hlive : ¬ (d.state = .free ∨ d.state = .reclaim)) (hinst : d.inst = n) :
    unrefCheck d n = if d.holder ≠ 0x3FFF ∧ d.refs = 1 then 4 else 0 := by
  rw [unrefCheck, if_neg hlive, if_neg (not_not_intro hinst)]

end

/-! ## A rejected command -/

/-- The index's counters of double and of foreign frees are 32 bits wide (log entry 17). -/
theorem entryMax_rejectedFrees {n sub : Nat} (hn : n < 64) (hsub : sub = 4 ∨ sub = 5) : entryMax (instIdx n 0x30) sub = 2 ^ 32 := by
  unfold entryMax
  rw [entryDef_instIdx sub hn (by decide)]
  obtain rfl | rfl := hsub
  · rfl
  · rfl

/-- The index's counter of rejections with this code. -/
def rejectionSub (code : Nat) : Nat := if code = 3 then 4 else 5

theorem rejectionSub_eq (code : Nat) : rejectionSub code = 4 ∨ rejectionSub code = 5 := by
  unfold rejectionSub
  split
  · exact .inl rfl
  · exact .inr rfl

/-- The cause of a rejection with this code. -/
def rejectionCause (code : Nat) : Nat := if code = 3 then 0x1601 else 0x1602

/-- Both causes have no class and are not the sparing one, so their records never reach the journal. -/
theorem rejectionCause_unjournalled (code : Nat) : causeClass (rejectionCause code) = 0 ∧ rejectionCause code ≠ 0x2004 := by
  unfold rejectionCause
  split
  · decide
  · decide

/-- What a rejection leaves at `t`: the descriptors, the cores and the indices as they were, the code as the answer, the
index's counter one further, and the record of R170. -/
def rejected (s : State) (p n code requester : Nat) (t : State) : Prop :=
  t.mem.pages = s.mem.pages ∧ t.mem.answer = code ∧ t.cores = s.cores ∧ t.insts = s.insts ∧
  t.ent (0x4030 + 0x100 * n) (rejectionSub code) = (s.ent (0x4030 + 0x100 * n) (rejectionSub code) + 1) % 2 ^ 32 ∧
  ∃ r, t.flt.last = some r ∧ r.cause = rejectionCause code ∧ r.address = p ∧ r.inst = n ∧ r.owner = requester ∧
    r.detail = (s.page p).holder + (s.page p).prevHolder * 2 ^ 16

/-- The record of a rejection: page, requester, HOLDER and PREV_HOLDER (R170); that DETAIL packs the two
holders is the model's choice. -/
def State.rejectionRecord (s : State) (p n requester code : Nat) : FaultRecord :=
  { fault (rejectionCause code) { die := 16 + keeperOf p, unit := 2, locA := pagePool (s.page p), locB := code } with
    inst := n, owner := requester, address := p, detail := (s.page p).holder + (s.page p).prevHolder * 2 ^ 16 }

theorem State.rejectFree_eq (s : State) (p n requester code : Nat) :
    s.rejectFree p n requester code =
      (((s.emit (s.rejectionRecord p n requester code)).bump 0x2250 1).bump (instIdx n 0x30) (rejectionSub code)).answers code := rfl

@[simp] theorem State.page_answers (s : State) (code k q : Nat) : (s.answers code k).page q = s.page q := rfl
@[simp] theorem State.ent_answers (s : State) (code k i sub : Nat) : (s.answers code k).ent i sub = s.ent i sub := rfl
@[simp] theorem State.answers_pages (s : State) (code k : Nat) : (s.answers code k).mem.pages = s.mem.pages := rfl
@[simp] theorem State.answers_answer (s : State) (code k : Nat) : (s.answers code k).mem.answer = code := rfl
@[simp] theorem State.answers_cores (s : State) (code k : Nat) : (s.answers code k).cores = s.cores := rfl
@[simp] theorem State.answers_insts (s : State) (code k : Nat) : (s.answers code k).insts = s.insts := rfl
@[simp] theorem State.answers_flt (s : State) (code k : Nat) : (s.answers code k).flt = s.flt := rfl

theorem rejected_rejectFree (s : State) {n : Nat} (p requester code : Nat) (hn : n < 64) :
    rejected s p n code requester (s.rejectFree p n requester code) := by
  obtain ⟨hcls, hcause⟩ := rejectionCause_unjournalled code
  obtain ⟨x, q, ⟨hflt, ⟨hmem, hcores, hinsts⟩, hent⟩, hlast, hq⟩ := reports_emit s (r := s.rejectionRecord p n requester code) hcls hcause
  have hsub := rejectionSub_eq code
  have hsub256 : rejectionSub code < 256 := by omega
  have htier : (instIdx n 0x30, rejectionSub code) ≠ (0x2250, 1) := by simp [instIdx]; omega
  have hreport : (instIdx n 0x30, rejectionSub code) ∉ reportCounters := by simp [reportCounters, instIdx]; omega
  have hindex : 0x4030 + 0x100 * n = instIdx n 0x30 := by unfold instIdx; omega
  rw [State.rejectFree_eq]
  generalize s.emit (s.rejectionRecord p n requester code) = t at *
  unfold rejected
  rw [hindex]
  simp only [State.answers_pages, State.answers_answer, State.answers_cores, State.answers_insts, State.answers_flt,
    State.ent_answers, State.bump_mem, State.bump_cores, State.bump_insts, State.bump_flt, State.ent_bump_same, hmem, hcores,
    hinsts, hflt, hlast, State.ent_bump_other t 1 (by decide) hsub256 htier, hent _ _ hsub256 hreport,
    entryMax_rejectedFrees hn hsub, Option.some.injEq, exists_eq_left', true_and]
  refine ⟨rfl, ?_⟩
  rw [hq]
  exact ⟨rfl, rfl, rfl, rfl, rfl⟩

/-! ## The two commands -/

section
variable (s : State) {p n x code : Nat} (hp : p < 2 ^ 32)
include hp

theorem exec_free_eq : exec (.free p n x) s = .next (s.freePage p n x) := if_pos hp

theorem exec_unref_eq : exec (.unref p n) s = .next (s.unrefPage p n) := if_pos hp

theorem answers_free_rejected (hn : n < 64) (hcheck : freeCheck (s.page p) n x = code) (hcode : code ≠ 0) :
    answers (.free p n x) s (rejected s p n code x) := by
  refine ⟨s.rejectFree p n x code, ?_, rejected_rejectFree s p x code hn⟩
  rw [exec_free_eq s hp, State.freePage, hcheck]
  exact congrArg _ (if_neg hcode)

theorem answers_unref_rejected (hn : n < 64) (hcheck : unrefCheck (s.page p) n = code) (hcode : code ≠ 0) :
    answers (.unref p n) s (rejected s p n code 0x3FFF) := by
  refine ⟨s.rejectFree p n 0x3FFF code, ?_, rejected_rejectFree s p 0x3FFF code hn⟩
  rw [exec_unref_eq s hp, State.unrefPage, hcheck]
  exact congrArg _ (if_neg hcode)

theorem exec_free_accepted (hcheck : freeCheck (s.page p) n x = 0) :
    exec (.free p n x) s = .next ((s.onPage p (fun d => dropRef { d with prevHolder := d.holder, holder := 0x3FFF })).answers 0) := by
  rw [exec_free_eq s hp, State.freePage, hcheck]
  rfl

theorem exec_unref_accepted (hcheck : unrefCheck (s.page p) n = 0) :
    exec (.unref p n) s = .next ((s.onPage p dropRef).answers 0) := by
  rw [exec_unref_eq s hp, State.unrefPage, hcheck]
  rfl

end

/-! ## A dropped reference -/

theorem dropRef_refs (d : PageDesc) : (dropRef d).refs = d.refs - 1 := by
  unfold dropRef
  split
  · show 0 = d.refs - 1
    omega
  · rfl

theorem dropRef_state_of_refs_le_one {d : PageDesc} (h : d.refs ≤ 1) : (dropRef d).state = .reclaim := by
  rw [dropRef, if_pos h]

theorem dropRef_holders (d : PageDesc) : (dropRef d).holder = d.holder ∧ (dropRef d).prevHolder = d.prevHolder := by
  unfold dropRef
  split
  · exact ⟨rfl, rfl⟩
  · exact ⟨rfl, rfl⟩

/-- Settles O19: the checks decide in their order, a rejection is one operation, an acceptance drops a reference. -/
theorem rejectedFreesChangeNoDescriptor : Obligations.RejectedFreesChangeNoDescriptor := by
  intro s p n x hp hn
  refine ⟨fun hgone => ⟨?_, ?_⟩, fun hlive hinst => ⟨?_, ?_⟩, fun hlive hinst hholder hprev => ?_,
    fun hlive hinst hself hholder => ?_, fun hlive hinst hholder hrefs => ?_, fun hlive hinst hself hholder => ?_,
    fun hlive hinst hlast => ?_⟩
  · exact answers_free_rejected s hp hn (freeCheck_of_gone hgone) (by decide)
  · exact answers_unref_rejected s hp hn (unrefCheck_of_gone hgone) (by decide)
  · exact answers_free_rejected s hp hn (freeCheck_of_inst_ne hlive hinst) (by decide)
  · exact answers_unref_rejected s hp hn (unrefCheck_of_inst_ne hlive hinst) (by decide)
  · exact answers_free_rejected s hp hn ((freeCheck_of_own hlive hinst).trans (if_pos ⟨hholder, hprev⟩)) (by decide)
  · exact answers_free_rejected s hp hn ((freeCheck_of_own hlive hinst).trans ((if_neg hself).trans (if_pos hholder))) (by decide)
  · exact answers_unref_rejected s hp hn ((unrefCheck_of_own hlive hinst).trans (if_pos ⟨hholder, hrefs⟩)) (by decide)
  · have hcheck := (freeCheck_of_own hlive hinst).trans ((if_neg hself).trans (if_neg (not_not_intro hholder)))
    refine ⟨_, exec_free_accepted s hp hcheck, rfl, ?_⟩
    rw [State.page_answers, State.page_onPage_same]
    exact ⟨(dropRef_holders _).2, (dropRef_holders _).1, dropRef_refs _, fun hrefs => dropRef_state_of_refs_le_one hrefs⟩
  · have hcheck := (unrefCheck_of_own hlive hinst).trans (if_neg hlast)
    refine ⟨_, exec_unref_accepted s hp hcheck, rfl, ?_⟩
    rw [State.page_answers, State.page_onPage_same]
    exact ⟨dropRef_refs _, dropRef_state_of_refs_le_one⟩

end Sys2Proof.Machine
end

section
/-! PROOFS. What a report leaves of the host interface: only the rings of events and of the log move, and no completion is
posted or held (14_firmware.md R400, 16_faults_availability.md R437, 19_host_interface.md R512 to R514, R529). -/

set_option autoImplicit false

namespace Sys2Proof.Machine

/-! ## Rings and completions kept -/

/-- From `s` to `t` the rings that `p` names, the completions held for a link and the last answer to the host are as they
were. -/
structure HostKept (p : Nat → Prop) (s t : State) : Prop where
  rings : ∀ q, p q → t.ring q = s.ring q
  heldDone : t.host.heldDone = s.host.heldDone
  answer : t.host.answer = s.host.answer

theorem HostKept.of_host_eq {p : Nat → Prop} {s t : State} (h : t.host = s.host) : HostKept p s t :=
  ⟨fun q _ => congrArg (fun x : HostSt => sget ({} : Ring) x.rings q) h, congrArg HostSt.heldDone h, congrArg HostSt.answer h⟩

theorem HostKept.refl (p : Nat → Prop) (s : State) : HostKept p s s := .of_host_eq rfl

theorem HostKept.trans {p : Nat → Prop} {s t u : State} (h : HostKept p s t) (h' : HostKept p t u) : HostKept p s u :=
  ⟨fun q hq => (h'.rings q hq).trans (h.rings q hq), h'.heldDone.trans h.heldDone, h'.answer.trans h.answer⟩

theorem HostKept.ite {p : Nat → Prop} {s t u : State} {c : Prop} [Decidable c] (ht : c → HostKept p s t)
    (hu : ¬ c → HostKept p s u) : HostKept p s (if c then t else u) := by
  split
  · exact ht ‹_›
  · exact hu ‹_›

theorem hostKept_onRing (s : State) (k : Nat) (f : Ring → Ring) : HostKept (· ≠ k) s (s.onRing k f) :=
  ⟨fun q hq => s.ring_onRing_other k q f hq, rfl, rfl⟩

theorem hostKept_signal (p : Nat → Prop) (s : State) (fn vec : Nat) : HostKept p s (s.signal fn vec) :=
  .ite (fun _ => ⟨fun _ _ => rfl, rfl, rfl⟩) (fun _ => ⟨fun _ _ => rfl, rfl, rfl⟩)

theorem hostKept_shadowWrite (p : Nat → Prop) (s : State) (k v : Nat) : HostKept p s (s.shadowWrite k v) :=
  .ite (fun _ => .refl p s) (fun _ => ⟨fun _ _ => rfl, rfl, rfl⟩)

theorem hostKept_coalesce (s : State) (k : Nat) : HostKept (· ≠ k) s (s.coalesce k) :=
  .ite (fun _ => .ite (fun _ => (hostKept_onRing s k _).trans (hostKept_signal _ _ _ _)) (fun _ => hostKept_onRing s k _))
    (fun _ => .refl _ s)

theorem hostKept_produce (s : State) (k : Nat) (b : Bytes) : HostKept (· ≠ k) s (s.produce k b) :=
  have hput : HostKept (· ≠ k) s (s.hostPut (ringSlot (s.ring k) (s.ring k).prod) (padTo (recLen (s.ring k).kind) b)) :=
    ⟨fun _ _ => rfl, rfl, rfl⟩
  ((hput.trans (hostKept_onRing _ k _)).trans (hostKept_shadowWrite _ _ _ _)).trans (hostKept_coalesce _ k)

/-! ## Rings of reports -/

/-- Ring `q` takes neither events nor the log. -/
def State.reportless (s : State) (q : Nat) : Prop := (s.ring q).kind ≠ 4 ∧ (s.ring q).kind ≠ 5

/-- Only rings of events and of the log have moved. -/
def ReportsToHost (s t : State) : Prop := HostKept s.reportless s t

theorem ReportsToHost.trans {s t u : State} (h : ReportsToHost s t) (h' : ReportsToHost t u) : ReportsToHost s u :=
  have hring (q : Nat) (hq : s.reportless q) : u.ring q = s.ring q :=
    have hst : t.ring q = s.ring q := h.rings q hq
    have htq : t.reportless q := by rwa [State.reportless, hst]
    (h'.rings q htq).trans hst
  ⟨hring, h'.heldDone.trans h.heldDone, h'.answer.trans h.answer⟩

/-- A ring of events or of the log may move alone. -/
theorem HostKept.toReports {s t : State} {k : Nat} (h : HostKept (· ≠ k) s t) (hk : ¬ s.reportless k) : ReportsToHost s t :=
  ⟨fun q hq => h.rings q (fun he => hk (he ▸ hq)), h.heldDone, h.answer⟩

theorem reportless_of_kind {s : State} {q n : Nat} (hq : (s.ring q).kind = n) (h4 : n ≠ 4) (h5 : n ≠ 5) : s.reportless q :=
  ⟨hq ▸ h4, hq ▸ h5⟩

theorem kind_of_ringRoom {s : State} {k kind : Nat} (h : s.ringRoom k kind = true) : (s.ring k).kind = kind := by
  simp only [State.ringRoom, State.ringUp, Bool.and_eq_true, decide_eq_true_eq] at h
  obtain ⟨⟨⟨-, hkind⟩, -⟩, -⟩ := h
  exact hkind

theorem not_reportless_of_kind {s : State} {k kind : Nat} (hk : (s.ring k).kind = kind) (hkind : kind = 4 ∨ kind = 5) :
    ¬ s.reportless k := by
  rintro ⟨h4, h5⟩
  omega

theorem reportsToHost_produce (s : State) {k : Nat} (b : Bytes) (hk : ¬ s.reportless k) : ReportsToHost s (s.produce k b) :=
  (hostKept_produce s k b).toReports hk

theorem reportsToHost_ringDrop (s : State) {k : Nat} (kind : Nat) (hkind : kind = 4 ∨ kind = 5) :
    ReportsToHost s (s.ringDrop k kind) :=
  .ite (fun h => (hostKept_onRing s k _).toReports
      (not_reportless_of_kind (of_decide_eq_true (Bool.and_eq_true_iff.mp h).2) hkind))
    (fun _ => .refl _ s)

/-! ## Log, notices, fault records -/

theorem ReportsToHost.of_host_eq {s t : State} (h : t.host = s.host) : ReportsToHost s t := HostKept.of_host_eq h

theorem ReportsToHost.refl (s : State) : ReportsToHost s s := .of_host_eq rfl

/-- The parts of the state, other than the host interface, in which a report is kept or handed on. -/
theorem ReportsToHost.inward (s : State) (d : Sparse Nat) (f : FwSt) : ReportsToHost s { s with dict := d, fw := f } :=
  .of_host_eq rfl

theorem reportsToHost_logMirror (s : State) (r : LogRec) : ReportsToHost s (s.logMirror r) := by
  unfold State.logMirror
  extract_lets k
  split
  · have hk : ¬ s.reportless k := not_reportless_of_kind (kind_of_ringRoom ‹_›) (.inr rfl)
    exact (ReportsToHost.inward s _ _).trans (reportsToHost_produce _ _ hk)
  · split
    · exact ((ReportsToHost.inward s _ _).trans (reportsToHost_ringDrop _ 5 (.inr rfl))).trans (.of_host_eq rfl)
    · exact .refl s

theorem reportsToHost_logWrite (s : State) (part level code : Nat) (args : List Nat) (always : Bool) :
    ReportsToHost s (s.logWrite part level code args always) := by
  unfold State.logWrite
  split
  · exact .refl s
  · extract_lets r log _ _ s₁ _
    have hcount : ReportsToHost s s₁ := .of_host_eq rfl
    split
    · split
      · exact hcount.trans (.of_host_eq rfl)
      · exact hcount
    · exact hcount.trans (reportsToHost_logMirror s₁ r)

theorem reportsToHost_logFault (s : State) (r : FaultRecord) : ReportsToHost s (s.logFault r) :=
  reportsToHost_logWrite _ _ _ _ _ _

theorem reportsToHost_notice (s : State) (kind : Nat) (content : Bytes) : ReportsToHost s (s.notice kind content) :=
  HostKept.ite (fun _ => .of_host_eq rfl) (fun _ => .of_host_eq rfl)

theorem reportsToHost_deliver (s : State) {r : FaultRecord} (hcls : r.cls = 0) (hcause : r.cause ≠ 0x2004) :
    ReportsToHost s (s.deliver r) := by
  unfold State.deliver
  rw [journals_eq_false s hcls hcause]
  extract_lets j k room p r₁ _ _ s₁ s₂ _ _ _ _ s₃
  have hcount : ReportsToHost s s₁ := .of_host_eq rfl
  have hpost : ReportsToHost s₁ s₂ := by
    unfold s₂
    split
    · split
      · have hk : ¬ s₁.reportless k := not_reportless_of_kind (kind_of_ringRoom (s := s) ‹_›) (.inl rfl)
        exact reportsToHost_produce s₁ _ hk
      · exact reportsToHost_ringDrop s₁ 4 (.inl rfl)
    · exact .refl s₁
  have hunjournalled : s₃ = s₂ := if_neg Bool.false_ne_true
  rw [hunjournalled]
  split
  · exact (hcount.trans hpost).trans (reportsToHost_notice s₂ _ _)
  · exact hcount.trans hpost

theorem reportsToHost_emit (s : State) {r : FaultRecord} (hcls : r.cls = 0) (hcause : r.cause ≠ 0x2004) :
    ReportsToHost s (s.emit r) := by
  unfold State.emit
  extract_lets seq r₁ x s₁ s₂ r₂
  have hcount : ReportsToHost s s₁ := .of_host_eq rfl
  have hlog : ReportsToHost s s₂ := hcount.trans (reportsToHost_logFault s₁ r₁)
  split
  · exact hlog.trans (reportsToHost_deliver s₂ hcls hcause)
  · exact hlog.trans (.of_host_eq rfl)

end Sys2Proof.Machine
end

section
/-! PROOFS. A submission entry whose fetch or data read fails, and the ring enabled again (19_host_interface.md R511, R515). -/

set_option autoImplicit false

namespace Sys2Proof.Machine

open Safety

/-! ## The fetch -/

/-- The entry names a data buffer of a size that is read (R517). -/
def namesData (e : Bytes) : Prop :=
  field (padTo 64 e) 8 8 ≠ 0 ∧ 1 ≤ field (padTo 64 e) 0x10 4 ∧ field (padTo 64 e) 0x10 4 ≤ 268435456

theorem kind_of_mayFetch {s : State} {k : Nat} (h : s.mayFetch k = true) : (s.ring k).kind = 2 := by
  simp only [State.mayFetch, Bool.and_eq_true, beq_iff_eq] at h
  obtain ⟨⟨⟨⟨-, hkind⟩, -⟩, -⟩, -⟩ := h
  exact hkind

section
variable (s : State) {k : Nat} (data : Option Bytes) (bufs : List (Nat × Option Bytes)) (pr : List (Nat × Nat))
  (hfetch : s.mayFetch k = true)
include hfetch

theorem fetchEntry_of_no_entry : s.fetchEntry k none data bufs pr = s.stopRing k := by
  simp only [State.fetchEntry, hfetch, Bool.not_true, Bool.false_eq_true, if_false]

theorem fetchEntry_of_no_data {e : Bytes} (he : namesData e) : s.fetchEntry k (some e) none bufs pr = s.stopRing k := by
  obtain ⟨haddr, hmin, hmax⟩ := he
  have hnamed : ¬ (field (padTo 64 e) 0x10 4 = 0 ∨ field (padTo 64 e) 8 8 = 0) := not_or_intro (Nat.ne_of_gt hmin) haddr
  have hfits : ¬ 268435456 < field (padTo 64 e) 0x10 4 := Nat.not_lt.mpr hmax
  simp only [State.fetchEntry, hfetch, Bool.not_true, Bool.false_eq_true, if_false, if_neg hnamed, if_neg hfits, Option.map_none]

theorem fetchEntry_of_failed {entry : Option Bytes} (hfail : entry = none ∨ ∃ e, entry = some e ∧ namesData e ∧ data = none) :
    s.fetchEntry k entry data bufs pr = s.stopRing k := by
  obtain rfl | ⟨e, rfl, he, rfl⟩ := hfail
  · exact fetchEntry_of_no_entry s data bufs pr hfetch
  · exact fetchEntry_of_no_data s bufs pr hfetch he

end

/-! ## The ring stops -/

section
variable (s : State) (fn ring : Nat) {cause : Nat} (hcls : causeClass cause = 0) (hsparing : cause ≠ 0x2004)
include hcls hsparing

theorem reportsToHost_hostCause : ReportsToHost s (s.hostCause fn cause ring) := reportsToHost_emit s hcls hsparing

/-- A cause of the host interface without a class is the last one recorded and touches no serving work. -/
theorem logged_and_workKept_hostCause : logged (s.hostCause fn cause ring) cause ∧ workKept s (s.hostCause fn cause ring) := by
  obtain ⟨x, q, ⟨hflt, hwork, -⟩, hlast, hq⟩ :=
    reports_emit s (r := { fault cause { die := 20 + fn, unit := 0xB, locA := fn } with detail := ring }) hcls hsparing
  have hcause : q.cause = cause := congrArg FaultRecord.cause hq
  exact ⟨⟨q, (congrArg FltSt.last hflt).trans hlast, hcause⟩, hwork⟩

end

/-- The marks of a stopped ring. -/
def markStopped (r : Ring) : Ring := { r with error := true, enable := false }

theorem State.stopRing_eq (s : State) (k : Nat) :
    s.stopRing k = (s.onRing k markStopped).hostCause (s.ring k).link 0x2301 k := rfl

/-- What a failed fetch leaves at `t`: the ring stopped, no completion posted or held, 0x2301 recorded, serving work as it
was. -/
def ringStopped (s : State) (k : Nat) (t : State) : Prop :=
  t.ring k = markStopped (s.ring k) ∧ (∀ q, (s.ring q).kind = 3 → t.ring q = s.ring q) ∧
  t.host.heldDone = s.host.heldDone ∧ t.host.answer = s.host.answer ∧ logged t 0x2301 ∧ workKept s t

/-- The record of 0x2301 moves rings of events and of the log; neither the submission ring nor a completion ring is one. -/
theorem ringStopped_stopRing (s : State) {k : Nat} (hkind : (s.ring k).kind = 2) : ringStopped s k (s.stopRing k) := by
  have hcls : causeClass 0x2301 = 0 := by decide
  obtain ⟨hrings, hheld, hanswer⟩ := reportsToHost_hostCause (s.onRing k markStopped) (s.ring k).link k hcls (by decide)
  obtain ⟨hlogged, hwork⟩ := logged_and_workKept_hostCause (s.onRing k markStopped) (s.ring k).link k hcls (by decide)
  rw [State.stopRing_eq]
  refine ⟨?_, fun q hq => ?_, hheld, hanswer, hlogged, hwork⟩
  · have hself := s.ring_onRing_same k markStopped
    have hreportless : (s.onRing k markStopped).reportless k :=
      reportless_of_kind ((congrArg Ring.kind hself).trans hkind) (by decide) (by decide)
    exact (hrings k hreportless).trans hself
  · have hne : q ≠ k := by
      rintro rfl
      omega
    have hother := s.ring_onRing_other k q markStopped hne
    have hreportless : (s.onRing k markStopped).reportless q :=
      reportless_of_kind ((congrArg Ring.kind hother).trans hq) (by decide) (by decide)
    exact (hrings q hreportless).trans hother

/-! ## The ring is enabled again -/

/-- The fields that a write of word 2 sets on a ring that is not enabled (R510). -/
def contextWritten (x : Nat) (q : Ring) : Ring :=
  { q with kind := bits x 7 0, sizeLog2 := bits x 12 8, link := bits x 13 13, irq := x.testBit 15, vector := bits x 25 16, cq := bits x 45 32 }

/-- The fields that the check's passing sets besides (R511). -/
def contextEnabled (q : Ring) : Ring := { q with enable := true, unsignalled := 0, gap := false }

theorem writeContext_enables (s : State) {fn k x : Nat} (hup : (s.fn fn).up = true) (hoff : (s.ring k).enable = false)
    (hset : x.testBit 14 = true)
    (hpass : (s.onRing k (contextWritten x)).enableReason k ((s.onRing k (contextWritten x)).ring k) = 0) :
    s.writeContext fn k 2 x = (s.onRing k (contextWritten x)).onRing k contextEnabled := by
  have hdisabled : s.writeContext fn k 2 x = s.writeDisabled fn k x := by
    simp only [State.writeContext, hup, hoff, Bool.not_true, Bool.false_eq_true, if_false]
  rw [hdisabled, State.writeDisabled, hset]
  exact if_neg (not_not_intro hpass)

/-- Settles O55: the failed fetch stops the ring and only reports; the enabling write moves no index and no BASE. -/
theorem failedFetchStopsItsRing : Obligations.FailedFetchStopsItsRing := by
  intro s k fn v entry data bufs pr hk hfn
  refine ⟨fun hfetch hfail => ?_, fun hup hoff hset hpass => ?_⟩
  · refine ⟨s.stopRing k, ?_, ringStopped_stopRing s (kind_of_mayFetch hfetch)⟩
    rw [← fetchEntry_of_failed s data bufs pr hfetch hfail]
    exact if_pos hk
  · have hnext : exec (.ringContextWrite fn k 2 v) s = .next (s.writeContext fn k 2 v.toNat) := (if_pos hfn).trans (if_pos hk)
    rw [writeContext_enables s hup hoff hset hpass] at hnext
    have hself : ((s.onRing k (contextWritten v.toNat)).onRing k contextEnabled).ring k = contextEnabled (contextWritten v.toNat (s.ring k)) :=
      (State.ring_onRing_same _ k _).trans (congrArg contextEnabled (s.ring_onRing_same k _))
    exact ⟨_, hnext, congrArg Ring.enable hself, (congrArg Ring.cons hself).trans rfl, (congrArg Ring.prod hself).trans rfl, (congrArg Ring.base hself).trans rfl,
      fun q hq => (State.ring_onRing_other _ k q _ hq).trans (s.ring_onRing_other k q _ hq)⟩

end Sys2Proof.Machine
end
